-- ==== Sys2Proof/Word.lean ====
section
/-!
DEFINITION. Word.lean: the words the links carry (bytes, 32-bit words, link addresses, tags) and the two
plain operations on a table of fixed length that every block uses: read an entry, change one entry.
-/
namespace Sys2Proof

/-- One byte of a frame. -/
abbrev Byte := BitVec 8
/-- One word of a payload: four bytes, big-endian on the link (Conventions, "Frames and byte order"). -/
abbrev Word := BitVec 32
/-- A 24-bit link address. -/
abbrev Addr := BitVec 24
/-- The tag of a frame header. -/
abbrev Tag := BitVec 16

/-- Change the one entry `i` of a table by `f`; every other entry stays. -/
def upd {α : Type} {n : Nat} (v : Vector α n) (i : Fin n) (f : α → α) : Vector α n :=
  v.set i.1 (f v[i]) i.2

/-- Replace the one entry `i` of a table. -/
def put {α : Type} {n : Nat} (v : Vector α n) (i : Fin n) (x : α) : Vector α n := v.set i.1 x i.2

@[simp] theorem getElem_put_same {α : Type} {n : Nat} (v : Vector α n) (i : Fin n) (x : α) :
    (put v i x)[i] = x := by simp [put]

@[simp] theorem getElem_upd_same {α : Type} {n : Nat} (v : Vector α n) (i : Fin n) (f : α → α) :
    (upd v i f)[i] = f v[i] := by simp [upd]

theorem getElem_put_ne {α : Type} {n : Nat} (v : Vector α n) {i j : Fin n} (x : α) (h : j ≠ i) :
    (put v i x)[j] = v[j] := by
  simp only [put, Fin.getElem_fin]
  exact Vector.getElem_set_ne _ _ (fun e => h (Fin.ext e.symm))

theorem getElem_upd_ne {α : Type} {n : Nat} (v : Vector α n) {i j : Fin n} (f : α → α) (h : j ≠ i) :
    (upd v i f)[j] = v[j] := by
  simp only [upd, Fin.getElem_fin]
  exact Vector.getElem_set_ne _ _ (fun e => h (Fin.ext e.symm))

theorem getElem_put {α : Type} {n : Nat} (v : Vector α n) (i j : Fin n) (x : α) :
    (put v i x)[j] = if j = i then x else v[j] := by
  split
  · next h => subst h; exact getElem_put_same v j x
  · next h => exact getElem_put_ne v x h

theorem getElem_upd {α : Type} {n : Nat} (v : Vector α n) (i j : Fin n) (f : α → α) :
    (upd v i f)[j] = if j = i then f v[i] else v[j] := by
  split
  · next h => subst h; exact getElem_upd_same v j f
  · next h => exact getElem_upd_ne v f h

/-- A table given entry by entry. -/
def tab {α : Type} {n : Nat} (f : Fin n → α) : Vector α n := Vector.ofFn f

@[simp] theorem getElem_tab {α : Type} {n : Nat} (f : Fin n → α) (i : Fin n) : (tab f)[i] = f i := by
  simp [tab]

/-- Two tables with equal entries are equal. -/
theorem tab_ext {α : Type} {n : Nat} {v w : Vector α n} (h : ∀ i : Fin n, v[i] = w[i]) : v = w :=
  Vector.ext fun i hi => h ⟨i, hi⟩

end Sys2Proof
end

