-- ==== Sys2Proof/Syntax.lean ====
section
/-!
DEFINITION. Syntax.lean: the commands of the part, one constructor of Instr for each row of spec/opcode_table.json,
and the names their operands are made of.

A row of the table is one whole step of the part. Three kinds of operand occur. An event of a bay, module, pattern or
port names it. An arrival names the port and carries the frame's bytes as the link delivered them. A management
request carries NO operand here: serving is an event of the endpoint (R165), and the request it serves, with its
arguments, is the whole frame that stands in the request queue (R164).
-/
namespace Sys2Proof

/-- Bays 0 to 15 (Numbering). -/
abbrev Bay := Fin 16
/-- Fan modules 0 to 7. -/
abbrev FanModule := Fin 8
/-- Zones 0 to 3. -/
abbrev Zone := Fin 4
/-- Local sensors 0 to 3. -/
abbrev SensorNo := Fin 4
/-- Power classes 0 to 7. -/
abbrev ClassNo := Fin 8
/-- Light patterns 0 to 7. -/
abbrev PatternNo := Fin 8

/-- The two upstream link ports. -/
inductive UpPort where
  | u0
  | u1
  deriving DecidableEq, Repr

/-- The eighteen link ports. -/
inductive Port where
  | bay (b : Bay)
  | up (p : UpPort)
  deriving DecidableEq, Repr

/-- The two rotors of a fan module (R124). -/
inductive Rotor where
  | a
  | b
  deriving DecidableEq, Repr

/-- What a protection trip was sent for (R35). -/
inductive TripCause where
  | overcurrent
  | overtemp
  deriving DecidableEq, Repr

/-- What the bay connector does to the PRS pin: nothing (the part's own pull decides), or drives it (R2). -/
inductive PrsDrive where
  | released
  | low
  | high
  deriving DecidableEq, Repr

/-- What stands on the part's inputs when power comes on: the five straps (Board connections), the PRS connector of
each bay (R12) and the overcurrent sense input of each bay (R61). -/
structure PowerOnPins where
  addr : BitVec 3
  bud : BitVec 2
  prs : Vector PrsDrive 16
  oc : Vector Bool 16
  deriving DecidableEq, Repr

/-- The commands: every row of spec/opcode_table.json, in the table's order. -/
inductive Instr where
  /-- POWER_ON_RESET (R20). -/
  | powerOnReset (pins : PowerOnPins)
  /-- PRESENCE_ASSERTED (R8): the bay's PRS pin comes to its active level. -/
  | presenceAsserted (b : Bay)
  /-- PRESENCE_LOST (R8): the bay's PRS pin comes to its inactive level. -/
  | presenceLost (b : Bay)
  /-- SEATING_EXPIRED (R24, R9): the bay's own debounce timer ends. -/
  | seatingExpired (b : Bay)
  /-- SCAN_GROUP_EXPIRY (R12). -/
  | scanGroupExpiry
  /-- START_WINDOW_EXPIRY (R26). -/
  | startWindowExpiry (b : Bay)
  /-- CYCLE_TIMER_EXPIRY (R33). -/
  | cycleTimerExpiry (b : Bay)
  /-- STAGGER_EXPIRY (R59). -/
  | staggerExpiry
  /-- OC_CONDITION_ASSERTED (R61). -/
  | ocConditionAsserted (b : Bay)
  /-- OC_CONDITION_LAPSED (R61). -/
  | ocConditionLapsed (b : Bay)
  /-- OC_FILTER_EXPIRY (R61, R62). -/
  | ocFilterExpiry (b : Bay)
  /-- PROTECTION_TRIP (R35): a trip that was sent is taken. -/
  | protectionTrip (b : Bay) (cause : TripCause)
  /-- FRAME_ARRIVAL (R69 to R72). -/
  | frameArrival (p : Port) (bytes : List Byte)
  /-- DRIVE_HELLO (R27 to R29): a HELLO arrives on a bay port. -/
  | driveHello (b : Bay) (bytes : List Byte)
  /-- CONTROLLER_HELLO (R97, R98): a HELLO arrives on an upstream port. -/
  | controllerHello (p : UpPort) (bytes : List Byte)
  /-- MANAGEMENT_INTAKE (R71): a MGMT_REQ for the switch arrives on an upstream port. -/
  | managementIntake (p : UpPort) (bytes : List Byte)
  /-- TRANSMISSION_START (R76): the port's link accepts a frame. -/
  | transmissionStart (p : Port)
  /-- TRANSMISSION_COMPLETE (R76). -/
  | transmissionComplete (p : Port)
  /-- FORWARD_TIMEOUT (R80): the wait slot of the port reaches its end time. -/
  | forwardTimeout (p : Port)
  /-- LINK_UP (R67, R87). -/
  | linkUp (p : UpPort)
  /-- LINK_DOWN (R67, R86). -/
  | linkDown (p : UpPort)
  /-- UPDATE_PERIOD (R130): with what each sensor channel converts to, `none` for an open circuit (R121). -/
  | updatePeriod (channels : Vector (Option Int) 4)
  /-- TACH_PULSE (R139): one rising edge on a rotor's tach input. -/
  | tachPulse (m : FanModule) (r : Rotor)
  /-- OVERRIDE_END (R138). -/
  | overrideEnd (m : FanModule)
  /-- LOCATE_END (R158). -/
  | locateEnd (b : Bay)
  /-- ACTIVITY_WINDOW_END (R154). -/
  | activityWindowEnd (b : Bay)
  /-- PATTERN_TURN (R149). -/
  | patternTurn (p : PatternNo)
  /-- UNKNOWN_REQUEST (R168): the endpoint serves a request with no code or an unknown code. -/
  | unknownRequest
  /-- READ_IDENT (R173). -/
  | readIdent
  /-- READ_BAY (R42). -/
  | readBay
  /-- READ_BAYS (R42). -/
  | readBays
  /-- POWER_ON (R30). -/
  | powerOn
  /-- POWER_OFF (R31). -/
  | powerOff
  /-- POWER_CYCLE (R32). -/
  | powerCycle
  /-- CLEAR_FAULT (R34). -/
  | clearFault
  /-- SET_BAY_POLICY (R40). -/
  | setBayPolicy
  /-- SET_BAY_LINES (R6). -/
  | setBayLines
  /-- SET_SEATING (R10). -/
  | setSeating
  /-- LINE_TEST_ENTER (R13). -/
  | lineTestEnter
  /-- LINE_SAMPLE (R16). -/
  | lineSample
  /-- LINE_PRELOAD (R15). -/
  | linePreload
  /-- LINE_TEST_EXIT (R17). -/
  | lineTestExit
  /-- SET_CEILING (R48). -/
  | setCeiling
  /-- SET_STAGGER (R54). -/
  | setStagger
  /-- LOAD_CLASS (R44). -/
  | loadClass
  /-- SET_OC_FILTER (R60). -/
  | setOcFilter
  /-- READ_POWER (R64). -/
  | readPower
  /-- SET_FORWARD_TIMEOUT (R81). -/
  | setForwardTimeout
  /-- READ_COUNTERS (R174). -/
  | readCounters
  /-- LOAD_ROUTE (R100). -/
  | loadRoute
  /-- DROP_ROUTE (R101). -/
  | dropRoute
  /-- READ_ROUTES (R102). -/
  | readRoutes
  /-- LOAD_SNOOP_RULE (R107). -/
  | loadSnoopRule
  /-- SET_THRESHOLDS (R117). -/
  | setThresholds
  /-- SET_SENSOR (R122). -/
  | setSensor
  /-- READ_THERMAL (R123). -/
  | readThermal
  /-- LOAD_CURVE (R128). -/
  | loadCurve
  /-- SET_ZONE (R136). -/
  | setZone
  /-- SET_FAN_MAP (R127). -/
  | setFanMap
  /-- SET_FAN_OVERRIDE (R137). -/
  | setFanOverride
  /-- SET_FAN_TIMING (R144). -/
  | setFanTiming
  /-- READ_COOLING (R145). -/
  | readCooling
  /-- SET_LIGHT (R157). -/
  | setLight
  /-- LOAD_PATTERN (R150). -/
  | loadPattern
  /-- SET_LIGHT_MAP (R152). -/
  | setLightMap
  /-- SET_NIGHT_DIM (R161). -/
  | setNightDim
  /-- READ_EVENTS (R186). -/
  | readEvents
  /-- SUBSCRIBE (R175). -/
  | subscribe
  /-- WARM_RESTART (R176). -/
  | warmRestart
  deriving DecidableEq, Repr

end Sys2Proof
end

