-- ==== Sys2Proof/Decode.lean ====
section
/-!
DEFINITION. Decode.lean: the commands that a word spells by the bits of spec/opcode_table.json. Every row of the table
has an empty "fields" list and no "fixed" bits, so no word spells a command.
-/
namespace Sys2Proof

/-- The command that the low `nbits` bits of `w` spell: none, since no row of the table is given bits. The request
codes of section 12.4 are no such bits: they stand inside a request frame, which Machine/Mgmt.lean reads. -/
def decodeTableWord (_nbits _w : Nat) : Option Instr := none

end Sys2Proof
end

