-- ==== Sys2Proof/Config.lean ====
section
/-!
DEFINITION. Config.lean: what one FB16 fixes for good (its identification codes, its queue sizes), and the three
FREE VALUES of the model: opaque constants, with no body, for the three points that the manual leaves open.
-/
namespace Sys2Proof.Config

/-- READ_IDENT's vendor code (section 12.4). -/
def vendorCode : Nat := 0x54A7
/-- READ_IDENT's part code (section 12.4). -/
def partCode : Nat := 0x0F16
/-- READ_IDENT's silicon revision (section 12.4). -/
def revision : Nat := 1

/-- Places in a bay egress queue (R75). -/
def bayQueueSize : Nat := 8
/-- Places in an upstream normal queue (R75). -/
def normalQueueSize : Nat := 32
/-- Places in an upstream priority queue (R75). -/
def priorityQueueSize : Nat := 16
/-- Places in a management request queue (R164). -/
def requestQueueSize : Nat := 4
/-- Places in a notice queue (R188). -/
def noticeQueueSize : Nat := 16
/-- The value a port counter stops at (R88). -/
def counterMax : Nat := 4294967295

/-- FREE VALUE (log entry 6). Where a serving both sets a latch that a subscribed port is told of and answers on that
port, the manual does not say whether the notice or the response takes the priority queue first. -/
opaque noticesBeforeResponse : Bool

/-- FREE VALUE (log entry 7). READ_EVENTS reports "the ALERT line state" as a two-valued word, and the list of R200
does not say which of the two states is 1. True: asserted is 1. -/
opaque alertAssertedIsOne : Bool

/-- FREE VALUE (log entry 8). SET_CEILING reports the committed draw "as it stands after the request"; the manual does
not say whether the admission made by the attempt that a rise brings is counted in it. -/
opaque ceilingReportsAfterAttempt : Bool

end Sys2Proof.Config
end

