-- ==== Sys2Proof/Machine/State.lean ====
section
/-!
DEFINITION. Machine/State.lean: everything the FB16 holds, block by block as the manual lists it ("Blocks"), the queue
of commands that wait, the reasons a step could stop (there are none), and the state right after power-on reset.
Times are whole milliseconds; a running timer is held as its end time, a stopped one as `none`.
-/
namespace Sys2Proof.Machine

/-! ### Names -/

/-- A pin level. -/
inductive Level where
  | low
  | high
  deriving DecidableEq, Repr

/-- The polarity of an output line (R1). -/
inductive Polarity where
  | activeHigh
  | activeLow
  deriving DecidableEq, Repr

/-- The drive field of a light line (R1). -/
inductive Drive where
  | full
  | reduced
  deriving DecidableEq, Repr

/-- The strength a light pin is driven at: `fixed` is the one strength of an inactive line (R1). -/
inductive Strength where
  | fixed
  | full
  | reduced
  deriving DecidableEq, Repr

/-- The logical value of a light line. -/
inductive Light where
  | dark
  | lit
  deriving DecidableEq, Repr

/-- Logical presence of a bay (R2). -/
inductive Presence where
  | absent
  | present
  deriving DecidableEq, Repr

/-- The states of a bay (R19). -/
inductive BayState where
  | empty
  | seating
  | off
  | queued
  | starting
  | online
  | cycling
  | faulted
  | test
  deriving DecidableEq, Repr

/-- What a bay does at seating expiry (R24). -/
inductive Policy where
  | auto
  | manual
  deriving DecidableEq, Repr

/-- Why a bay is FAULTED (R19, R21). -/
inductive FaultCause where
  | overcurrent
  | overtemp
  | noHello
  | overbudget
  | addressConflict
  deriving DecidableEq, Repr

/-- The state a TEST bay was in at entry, with the kept fault cause of a FAULTED bay (R19, R39). -/
inductive Prior where
  | empty
  | off
  | faulted (cause : FaultCause)
  deriving DecidableEq, Repr

/-- The two classes of the spin-up queue (R50). -/
inductive QueueClass where
  | priority
  | normal
  deriving DecidableEq, Repr

/-- The states of a bay's overcurrent filter (R61); TIMING holds its end time. -/
inductive OcFilter where
  | clear
  | timing (endsAt : Nat)
  | persisted
  deriving DecidableEq, Repr

/-- Frame kinds (section 12.5). -/
inductive FrameKind where
  | data
  | status
  | hello
  | mgmtReq
  | mgmtRsp
  | notice
  deriving DecidableEq, Repr

/-- Status codes of part-generated STATUS frames (R74). -/
inductive StatusCode where
  | unknownDestination
  | bayNotReady
  | noPath
  | bayGone
  | forwardTimeout
  | mgmtBusy
  | notManaged
  deriving DecidableEq, Repr

/-- Result codes of management responses (R171). -/
inductive Result where
  | ok
  | okClamped
  | already
  | refusedState
  | held
  | faultLatched
  | noDrive
  | outOfRange
  | tableFull
  | duplicate
  | notFound
  | badTable
  | badRequest
  deriving DecidableEq, Repr

/-- The states of a fan module and of a zone, best first (R142, R143). -/
inductive FanState where
  | ok
  | degraded
  | failed
  deriving DecidableEq, Repr

/-- How a snoop rule reads its value byte (R110). -/
inductive Encoding where
  | signedC
  | offset64C
  | nonzero
  deriving DecidableEq, Repr

/-- What a passing snoop rule does (R106). -/
inductive SnoopAction where
  | temperature
  | faultHint
  deriving DecidableEq, Repr

/-- The frame kinds a snoop rule may read (R106). -/
inductive SnoopKind where
  | data
  | status
  deriving DecidableEq, Repr

/-- The eight light causes, in the order of the map (R151). -/
inductive Cause where
  | steady
  | activity
  | slow
  | fault
  | locate
  | controllerFault
  | predictedFault
  | rebuild
  deriving DecidableEq, Repr

/-- The place of a cause in the map of R151. -/
def Cause.idx : Cause → Fin 8
  | .steady => 0
  | .activity => 1
  | .slow => 2
  | .fault => 3
  | .locate => 4
  | .controllerFault => 5
  | .predictedFault => 6
  | .rebuild => 7

/-- The ten latches of a bay, in code order (R184). -/
inductive BayEvent where
  | inserted
  | removed
  | online
  | startFailed
  | overcurrent
  | overtemp
  | tempWarn
  | overbudget
  | addressConflict
  | predictedFault
  deriving DecidableEq, Repr

/-- The place of a bay latch: its code (section 12.5) less 1. -/
def BayEvent.idx : BayEvent → Fin 10
  | .inserted => 0
  | .removed => 1
  | .online => 2
  | .startFailed => 3
  | .overcurrent => 4
  | .overtemp => 5
  | .tempWarn => 6
  | .overbudget => 7
  | .addressConflict => 8
  | .predictedFault => 9

/-- The five enclosure latches, in code order (R185). -/
inductive EnclEvent where
  | fanDegraded
  | fanFailed
  | fanRecovered
  | routeDisplaced
  | ceilingReached
  deriving DecidableEq, Repr

/-- The place of an enclosure latch: its code (section 12.5) less 0x11. -/
def EnclEvent.idx : EnclEvent → Fin 5
  | .fanDegraded => 0
  | .fanFailed => 1
  | .fanRecovered => 2
  | .routeDisplaced => 3
  | .ceilingReached => 4

/-- The seven counters of a port, in the order READ_COUNTERS gives them (R174). -/
inductive CounterKind where
  | forwarded
  | badCheck
  | discarded
  | reflected
  | timedOut
  | statusSent
  | statusDropped
  deriving DecidableEq, Repr

/-- The place of a counter in READ_COUNTERS. -/
def CounterKind.idx : CounterKind → Fin 7
  | .forwarded => 0
  | .badCheck => 1
  | .discarded => 2
  | .reflected => 3
  | .timedOut => 4
  | .statusSent => 5
  | .statusDropped => 6

/-- The place of an upstream port in a table of two. -/
def upIdx : UpPort → Fin 2
  | .u0 => 0
  | .u1 => 1

/-- The other upstream port (section 2.6). -/
def otherUp : UpPort → UpPort
  | .u0 => .u1
  | .u1 => .u0

/-- The number of a port (R200, "Ports"): 0 to 15 for B0 to B15, 16 for U0, 17 for U1. It is also the number of the
port's learned route slot (R90). -/
def portIdx : Port → Fin 18
  | .bay b => ⟨b.val, Nat.lt_trans b.isLt (by decide)⟩
  | .up .u0 => 16
  | .up .u1 => 17

/-! ### Line interface (chapter 1) -/

/-- The line configuration record of a bay (R1). -/
structure LineRecord where
  prsActive : Level
  pwrPol : Polarity
  laPol : Polarity
  laDrive : Drive
  lbPol : Polarity
  lbDrive : Drive
  deriving DecidableEq, Repr

/-- A light pin: its level and the strength it is driven at (R1, R3). -/
structure LightPin where
  level : Level
  strength : Strength
  deriving DecidableEq, Repr

/-- What the line interface holds for one bay. -/
structure LineUnit where
  record : LineRecord
  /-- What the connector does to the PRS pin (an input of the part, R2). -/
  prsIn : PrsDrive
  /-- Current logical presence (R2). -/
  presence : Presence
  /-- The seating debounce timer's end time (R9). -/
  debounce : Option Nat
  /-- Whether the bay is in the power-on scan group (R12). -/
  inGroup : Bool
  /-- The preload values (R15). -/
  preloadLA : Light
  preloadLB : Light
  /-- The test edge count, 0 to 255 (R14). -/
  edges : Nat
  /-- The output pins (R3, R4). -/
  pwrPin : Level
  laPin : LightPin
  lbPin : LightPin
  deriving DecidableEq, Repr

/-- The line interface. -/
structure LineBlock where
  bays : Vector LineUnit 16
  /-- The enclosure debounce setting, in 100 ms (R10). -/
  debounceSetting : Nat
  /-- The scan group's shared timer (R12). -/
  groupTimer : Option Nat
  deriving DecidableEq, Repr

/-! ### Bay controller (chapter 2) -/

/-- The record of one bay (R19), with the trips that were sent for it and not yet taken (R35). -/
structure BayRecord where
  state : BayState
  policy : Policy
  cfgClass : ClassNo
  cfgZone : Zone
  chargedClass : Option ClassNo
  activeZone : Option Zone
  retriesSetting : Nat
  retriesLeft : Nat
  fault : Option FaultCause
  hold : Option UpPort
  driveAddr : Option Addr
  declClass : Option ClassNo
  profile : Option (Fin 8)
  identity : Option (BitVec 64)
  prior : Option Prior
  ocProt : Bool
  otProt : Bool
  startTimer : Option Nat
  cycleTimer : Option Nat
  /-- An overcurrent trip was sent and is not yet taken or dropped (R35, R62). -/
  ocTrip : Bool
  /-- An overtemp trip was sent and is not yet taken or dropped (R35, R120). -/
  otTrip : Bool
  deriving DecidableEq, Repr

/-! ### Power admission unit (chapter 3) -/

/-- A class record (R43): PU, PU, 100 ms. -/
structure ClassRecord where
  startDraw : Nat
  runDraw : Nat
  startWindow : Nat
  deriving DecidableEq, Repr

/-- An entry of the spin-up queue (R50). -/
structure QueueEntry where
  bay : Bay
  cls : QueueClass
  deriving DecidableEq, Repr

/-- The power admission unit. -/
structure PowerBlock where
  classes : Vector ClassRecord 8
  charge : Vector Nat 16
  live : Nat
  pendingCeiling : Option Nat
  queue : List QueueEntry
  /-- Stagger setting, in 100 ms (R59). -/
  staggerSetting : Nat
  stagger : Option Nat
  /-- Configured concurrency limit (R53). -/
  limit : Nat
  /-- Whether each zone is blocked for admission (R55). -/
  blocked : Vector Bool 4
  /-- Overcurrent filter settings, in ms (R60). -/
  ocSetting : Vector Nat 16
  ocFilter : Vector OcFilter 16
  /-- The overcurrent sense input of each bay (an input of the part, R61, R63). -/
  ocIn : Vector Bool 16
  /-- MODEL'S OWN: an event of R56 has asked for an admission attempt that this step still owes (always false between
  steps). -/
  attemptAsked : Bool
  deriving DecidableEq, Repr

/-! ### Forwarding engine (chapter 4) -/

/-- A frame that passed the tests of R69, or that the part built. The payload length field is the payload's length in
words and the check word follows from the other fields (Operands.lean, `frameBytes`), so neither is held. -/
structure Frame where
  kind : FrameKind
  tag : Tag
  dest : Addr
  src : Addr
  /-- Header bytes 10 and 11. -/
  carried : BitVec 16
  payload : List Byte
  deriving DecidableEq, Repr

/-- Where a frame held by the part came from: its arrival port, or the mark that the part built it (R75). `restart`
marks the one response a pending warm restart names (R176). -/
inductive Origin where
  | arrived (p : Port)
  | built
  | restart
  deriving DecidableEq, Repr

/-- A frame in a queue or a transmission. -/
structure Held where
  frame : Frame
  origin : Origin
  deriving DecidableEq, Repr

/-- An occupied wait slot (R78): the frame, the port whose queue it waits for, the moment the wait started and the
timeout end time. `seq` numbers the waits in the order of the steps that started them (MODEL'S OWN, R79). `behind` says that
the link of a bay port holds the next frame back behind the slot (R69), which a flush of the port loses (R196). -/
structure Waiting where
  frame : Frame
  target : Port
  since : Nat
  endsAt : Nat
  seq : Nat
  behind : Bool
  deriving DecidableEq, Repr

/-- What the engine holds for one upstream port; `linkUp` is its link state (R67). -/
structure UpUnit where
  linkUp : Bool
  normal : List Held
  priority : List Held
  /-- The arbiter count, 0 to 4 (R77). -/
  arbiter : Nat
  deriving DecidableEq, Repr

/-- The forwarding engine. A bay port is ENABLED exactly while its bay is STARTING or ONLINE (R68), so its enable is
read from the bay record; a port is paused exactly while its wait slot is occupied (R69). -/
structure ForwardBlock where
  up : Vector UpUnit 2
  bayQueue : Vector (List Held) 16
  transmitting : Vector (Option Held) 18
  waiting : Vector (Option Waiting) 18
  counters : Vector (Vector Nat 7) 18
  /-- Forward timeout setting, in ms (R81). -/
  timeout : Nat
  /-- MODEL'S OWN: the number of waits started so far. -/
  waitSeq : Nat
  deriving DecidableEq, Repr

/-! ### Route table (chapter 5) -/

/-- A displacement note: the retired static slot's number and the port it named (R96). -/
structure Note where
  slot : Nat
  port : Port
  deriving DecidableEq, Repr

/-- A valid learned slot. -/
structure Learned where
  addr : Addr
  note : Option Note
  deriving DecidableEq, Repr

/-- A valid static slot. -/
structure Static where
  addr : Addr
  port : Port
  deriving DecidableEq, Repr

/-- The route table (R90): learned slots 0 to 17, static slots 18 to 47; `none` is valid NO. -/
structure RouteBlock where
  learned : Vector (Option Learned) 18
  statics : Vector (Option Static) 30
  deriving DecidableEq, Repr

/-! ### Telemetry snooper (chapter 6) -/

/-- A snoop rule (R106). -/
structure SnoopRule where
  enable : Bool
  profile : Fin 8
  kind : SnoopKind
  word : Nat
  mask : Word
  value : Word
  byte : Nat
  encoding : Encoding
  action : SnoopAction
  deriving DecidableEq, Repr

/-- The thermal record of a bay (R114). -/
structure ThermalRecord where
  reading : Option Int
  age : Nat
  samples : Nat
  bad : Nat
  streak : Nat
  deriving DecidableEq, Repr

/-- A local sensor record (R121). -/
structure Sensor where
  zone : Zone
  offset : Int
  enable : Bool
  reading : Option Int
  deriving DecidableEq, Repr

/-- The telemetry snooper. -/
structure ThermalBlock where
  rules : Vector SnoopRule 8
  records : Vector ThermalRecord 16
  sensors : Vector Sensor 4
  warn : Int
  shutdown : Int
  otFilter : Nat
  staleLimit : Nat
  /-- Whether each zone holds a hot reading (R116). -/
  hot : Vector Bool 4
  deriving DecidableEq, Repr

/-! ### Cooling controller (chapter 7) -/

/-- A breakpoint of a curve (R128). -/
structure Breakpoint where
  temp : Int
  duty : Nat
  deriving DecidableEq, Repr

/-- A zone: its record (R125), its output, the figures of its last computation and its state (chapter 7, opening). -/
structure ZoneUnit where
  curve : List Breakpoint
  minDuty : Nat
  staleFloor : Nat
  boost : Nat
  slewUp : Nat
  slewDown : Nat
  output : Option Nat
  base : Nat
  sum : Nat
  target : Nat
  state : FanState
  deriving DecidableEq, Repr

/-- A rotor record (R139, R141). -/
structure RotorUnit where
  pulses : Nat
  rpm : Nat
  stalled : Bool
  run : Nat
  deriving DecidableEq, Repr

/-- A running override (R137). -/
structure Override where
  duty : Nat
  endsAt : Nat
  deriving DecidableEq, Repr

/-- A fan module record (R124) with its rotors. The PWM output carries `duty`. -/
structure ModuleUnit where
  zone : Zone
  duty : Nat
  override : Option Override
  lowWindow : Bool
  state : FanState
  rotorA : RotorUnit
  rotorB : RotorUnit
  deriving DecidableEq, Repr

/-- The cooling controller. `periodLength` is the length the running update period was started with (R139). -/
structure CoolingBlock where
  zones : Vector ZoneUnit 4
  modules : Vector ModuleUnit 8
  period : Nat
  stallRpm : Nat
  stallFilter : Nat
  periodEnd : Nat
  periodLength : Nat
  deriving DecidableEq, Repr

/-! ### Light sequencer (chapter 8) -/

/-- A pattern record with its clock (R148, R149); `shown` is the output the lights that show it last took. -/
structure Pattern where
  onTime : Nat
  offTime : Nat
  clock : Nat
  shown : Light
  deriving DecidableEq, Repr

/-- The LOCATE flag (R156). -/
inductive Locate where
  | absent
  | forever
  | until (endsAt : Nat)
  deriving DecidableEq, Repr

/-- The light flags of a bay (R156) and its activity window (R154). -/
structure LightUnit where
  locate : Locate
  controllerFault : Bool
  rebuild : Bool
  predictedFault : Bool
  window : Option Nat
  deriving DecidableEq, Repr

/-- The light sequencer. -/
structure LightBlock where
  patterns : Vector Pattern 8
  map : Vector PatternNo 8
  /-- Activity hold, in ms (R152). -/
  hold : Nat
  dim : Bool
  bays : Vector LightUnit 16
  deriving DecidableEq, Repr

/-! ### Management endpoint (chapter 9) -/

/-- Where the response that a pending restart waits on is (R176). -/
inductive RestartPhase where
  | held
  | queued
  | transmitting
  deriving DecidableEq, Repr

/-- A pending restart (R176). -/
structure PendingRestart where
  port : UpPort
  phase : RestartPhase
  deriving DecidableEq, Repr

/-- The held response and the port it is for (R170). -/
structure HeldResponse where
  port : UpPort
  response : Held
  deriving DecidableEq, Repr

/-- The management endpoint. -/
structure MgmtBlock where
  requests : Vector (List Frame) 2
  lastServed : UpPort
  held : Option HeldResponse
  restart : Option PendingRestart
  deriving DecidableEq, Repr

/-! ### Event unit (chapter 10) -/

/-- A notice, as it was fixed when it was built (R187). -/
inductive Notice where
  | bay (b : Bay) (kind : BayEvent) (state : BayState) (cause : Option FaultCause)
  | enclosure (kind : EnclEvent) (detail : Nat)
  deriving DecidableEq, Repr

/-- The event unit. `fanSets` are the module sets of FAN_DEGRADED, FAN_FAILED and FAN_RECOVERED (R185). -/
structure EventBlock where
  bayLatches : Vector (Vector Bool 10) 16
  enclLatches : Vector Bool 5
  fanSets : Vector (Vector Bool 8) 3
  subscribed : Vector Bool 2
  notices : Vector (List Notice) 2
  overflow : Vector Bool 2
  /-- The ALERT line is asserted, at its low level (R193). -/
  alert : Bool
  deriving DecidableEq, Repr

/-! ### The whole part -/

/-- The FB16, its clock, and the commands that wait (first in, first out). -/
structure State where
  /-- MODEL'S OWN: the moment, in ms, that end times are compared with. -/
  now : Nat
  /-- The sampled address straps (READ_IDENT, R91). -/
  addrStrap : BitVec 3
  /-- The sampled budget straps (R47). -/
  budStrap : BitVec 2
  line : LineBlock
  bays : Vector BayRecord 16
  power : PowerBlock
  fwd : ForwardBlock
  route : RouteBlock
  therm : ThermalBlock
  cool : CoolingBlock
  light : LightBlock
  mgmt : MgmtBlock
  ev : EventBlock
  /-- MODEL'S OWN: the commands that wait, first in, first out. -/
  pending : List Instr
  deriving DecidableEq, Repr

/-- The reasons a step could end in a fault: NONE. The manual gives every step of the table a next state, and none of
them stops the part; an event that cannot arise in a state leaves it unchanged (log entry 3). -/
inductive Fault where
  deriving DecidableEq, Repr

/-- The reasons a step could be refused. -/
inductive Refusal where
  /-- Raised only by Machine/Dispatch.lean, for a row that has no meaning yet: safe, since nothing is claimed of such a
  row. No arm raises it now. -/
  | notModelled (mnemonic : String)
  deriving DecidableEq, Repr

/-! ### Power-on reset -/

/-- The default line configuration record (R1). -/
def LineRecord.default : LineRecord where
  prsActive := .low
  pwrPol := .activeHigh
  laPol := .activeHigh
  laDrive := .full
  lbPol := .activeHigh
  lbDrive := .full

/-- The scan judges each input with the default active level, LOW, against the pull toward HIGH (R2, R12). -/
def scanPresence : PrsDrive → Presence
  | .low => .present
  | .high => .absent
  | .released => .absent

/-- The line interface after the power-on presence scan (section 1.7, R5, R12). -/
def LineBlock.reset (now : Nat) (prs : Vector PrsDrive 16) : LineBlock where
  bays := tab fun b =>
    { record := .default, prsIn := prs[b], presence := scanPresence prs[b], debounce := none
      inGroup := scanPresence prs[b] = .present
      preloadLA := .dark, preloadLB := .dark, edges := 0
      pwrPin := .low, laPin := ⟨.low, .fixed⟩, lbPin := ⟨.low, .fixed⟩ }
  debounceSetting := 5
  groupTimer := if prs.toList.any (fun d => scanPresence d = .present) then some (now + 500) else none

/-- The default zone of a bay (R20). -/
def defaultZone (b : Bay) : Zone :=
  if b.val < 4 then 0 else if b.val < 8 then 1 else if b.val < 12 then 2 else 3

/-- The record of a bay after the scan: R20's values, moved to SEATING when the scan finds a drive (R12). -/
def BayRecord.reset (b : Bay) (d : PrsDrive) : BayRecord where
  state := match scanPresence d with
    | .present => .seating
    | .absent => .empty
  policy := .auto
  cfgClass := 1
  cfgZone := defaultZone b
  chargedClass := none
  activeZone := none
  retriesSetting := 1
  retriesLeft := 0
  fault := none
  hold := none
  driveAddr := none
  declClass := none
  profile := none
  identity := none
  prior := none
  ocProt := true
  otProt := true
  startTimer := none
  cycleTimer := none
  ocTrip := false
  otTrip := false

/-- The default class table (R43). -/
def ClassRecord.default (c : ClassNo) : ClassRecord :=
  match c.val with
  | 1 => ⟨300, 100, 80⟩
  | 2 => ⟨120, 60, 50⟩
  | 3 => ⟨90, 90, 20⟩
  | _ => ⟨350, 120, 100⟩

/-- The ceiling the budget straps give (R47). -/
def strappedCeiling (bud : BitVec 2) : Nat :=
  match bud.toNat with
  | 0 => 600
  | 1 => 900
  | 2 => 1200
  | _ => 1800

/-- The power admission unit after power-on reset (R66). -/
def PowerBlock.reset (bud : BitVec 2) (oc : Vector Bool 16) : PowerBlock where
  classes := tab ClassRecord.default
  charge := tab fun _ => 0
  live := strappedCeiling bud
  pendingCeiling := none
  queue := []
  staggerSetting := 30
  stagger := none
  limit := 2
  blocked := tab fun _ => false
  ocSetting := tab fun _ => 10
  ocFilter := tab fun _ => .clear
  ocIn := oc
  attemptAsked := false

/-- The forwarding engine after power-on reset (R89's table). -/
def ForwardBlock.reset : ForwardBlock where
  up := tab fun _ => ⟨false, [], [], 0⟩
  bayQueue := tab fun _ => []
  transmitting := tab fun _ => none
  waiting := tab fun _ => none
  counters := tab fun _ => tab fun _ => 0
  timeout := 20
  waitSeq := 0

/-- The route table after power-on reset (R105). -/
def RouteBlock.reset : RouteBlock where
  learned := tab fun _ => none
  statics := tab fun _ => none

/-- A snoop rule after power-on reset (R106). -/
def SnoopRule.default : SnoopRule := ⟨false, 0, .data, 0, 0, 0, 0, .signedC, .temperature⟩

/-- The telemetry snooper after power-on reset (R123's table). -/
def ThermalBlock.reset : ThermalBlock where
  rules := tab fun _ => .default
  records := tab fun _ => ⟨none, 0, 65535, 0, 0⟩
  sensors := tab fun n => ⟨n, 0, true, none⟩
  warn := 55
  shutdown := 65
  otFilter := 2
  staleLimit := 10
  hot := tab fun _ => false

/-- A zone after power-on reset (R125, R146). -/
def ZoneUnit.default : ZoneUnit where
  curve := [⟨25, 200⟩, ⟨35, 350⟩, ⟨45, 600⟩, ⟨55, 1000⟩]
  minDuty := 250
  staleFloor := 450
  boost := 50
  slewUp := 100
  slewDown := 20
  output := some 1000
  base := 0
  sum := 0
  target := 0
  state := .ok

/-- The default zone of a fan module (R124). -/
def defaultFanZone (m : FanModule) : Zone :=
  if m.val < 2 then 0 else if m.val < 4 then 1 else if m.val < 6 then 2 else 3

/-- The cooling controller after power-on reset (R146). -/
def CoolingBlock.reset (now : Nat) : CoolingBlock where
  zones := tab fun _ => .default
  modules := tab fun m =>
    { zone := defaultFanZone m, duty := 1000, override := none, lowWindow := false, state := .ok
      rotorA := ⟨0, 0, false, 0⟩, rotorB := ⟨0, 0, false, 0⟩ }
  period := 1000
  stallRpm := 800
  stallFilter := 3
  periodEnd := now + 1000
  periodLength := 1000

/-- The pattern records after power-on reset (R148); all clocks start at the moment of reset (R149). -/
def Pattern.default (now : Nat) (p : PatternNo) : Pattern :=
  match p.val with
  | 1 => ⟨1, 0, now, .lit⟩
  | 2 => ⟨5, 5, now, .lit⟩
  | 3 => ⟨50, 50, now, .lit⟩
  | 4 => ⟨25, 25, now, .lit⟩
  | 5 => ⟨10, 90, now, .lit⟩
  | 6 => ⟨100, 100, now, .lit⟩
  | _ => ⟨0, 0, now, .dark⟩

/-- The default cause-to-pattern map (R151). -/
def defaultMap (c : Fin 8) : PatternNo :=
  match c.val with
  | 0 => 1
  | 1 => 2
  | 2 => 3
  | 3 => 1
  | 4 => 4
  | 5 => 1
  | 6 => 5
  | _ => 6

/-- The light sequencer after power-on reset (R162). -/
def LightBlock.reset (now : Nat) : LightBlock where
  patterns := tab (Pattern.default now)
  map := tab defaultMap
  hold := 60
  dim := false
  bays := tab fun _ => ⟨.absent, false, false, false, none⟩

/-- The management endpoint after power-on reset (R163). -/
def MgmtBlock.reset : MgmtBlock where
  requests := tab fun _ => []
  lastServed := .u1
  held := none
  restart := none

/-- The event unit after power-on reset (R192's table). -/
def EventBlock.reset : EventBlock where
  bayLatches := tab fun _ => tab fun _ => false
  enclLatches := tab fun _ => false
  fanSets := tab fun _ => tab fun _ => false
  subscribed := tab fun _ => false
  notices := tab fun _ => []
  overflow := tab fun _ => false
  alert := false

/-- The part right after a power-on reset at the moment `now` that finds `pins` on its inputs: every block's initial
state, then the power-on presence scan (Resets; R12, R20, R47). -/
def State.powerOn (now : Nat) (pins : PowerOnPins) (pending : List Instr) : State where
  now := now
  addrStrap := pins.addr
  budStrap := pins.bud
  line := .reset now pins.prs
  bays := tab fun b => .reset b pins.prs[b]
  power := .reset pins.bud pins.oc
  fwd := .reset
  route := .reset
  therm := .reset
  cool := .reset now
  light := .reset now
  mgmt := .reset
  ev := .reset
  pending := pending

/-- DESIGN CHOICE (log entry 1): the inputs State.reset finds: straps 0, no connector drives its PRS pin, no
overcurrent. -/
def idlePins : PowerOnPins where
  addr := 0
  bud := 0
  prs := tab fun _ => .released
  oc := tab fun _ => false

/-- The part right after power-on reset, with no drive seated, at moment 0, and no command waiting. -/
def State.reset : State := State.powerOn 0 idlePins []

end Sys2Proof.Machine
end

