-- ==== Sys2Proof/Machine/Operands.lean ====
section
/-!
DEFINITION. Machine/Operands.lean: how frames and payloads are read and written (chapter 12): the check word, the
header, the code tables, the words of a request and of a response.
-/
namespace Sys2Proof.Machine

/-! ### Bytes and words, big-endian (R200, Conventions) -/

/-- Byte `k` of a list of bytes; 0 beyond its end (every reader of this model tests the length first). -/
def byteAt (bytes : List Byte) (k : Nat) : Byte := bytes.getD k 0

/-- The word whose first byte is byte `k`. -/
def wordAt (bytes : List Byte) (k : Nat) : Word :=
  byteAt bytes k ++ byteAt bytes (k + 1) ++ byteAt bytes (k + 2) ++ byteAt bytes (k + 3)

/-- The four bytes of a word. -/
def wordBytes (w : Word) : List Byte :=
  [w.extractLsb' 24 8, w.extractLsb' 16 8, w.extractLsb' 8 8, w.extractLsb' 0 8]

/-- The bytes of a list of words. -/
def wordsBytes : List Word → List Byte
  | [] => []
  | w :: ws => wordBytes w ++ wordsBytes ws

/-- The two bytes of a 16-bit field. -/
def halfBytes (h : BitVec 16) : List Byte := [h.extractLsb' 8 8, h.extractLsb' 0 8]

/-- The three bytes of a link address. -/
def addrBytes (a : Addr) : List Byte := [a.extractLsb' 16 8, a.extractLsb' 8 8, a.extractLsb' 0 8]

/-! ### The check word (R69) -/

/-- The generator polynomial of the CRC-32. -/
def crcPoly : Word := 0x04C11DB7

/-- Shift the remainder by `n` bits. -/
def crcShift : Nat → Word → Word
  | 0, c => c
  | n + 1, c => crcShift n (if c.getLsbD 31 then (c <<< 1) ^^^ crcPoly else c <<< 1)

/-- Take in one byte, most significant bit first (no reflection). -/
def crcByte (c : Word) (b : Byte) : Word := crcShift 8 (c ^^^ (b.setWidth 32 <<< 24))

/-- CRC-32 over bytes in frame order: initial value all ones, final value inverted. -/
def crc32 (bytes : List Byte) : Word := ~~~(bytes.foldl crcByte 0xFFFFFFFF)

/-! ### Code tables (section 12.5) -/

/-- Frame kind codes. -/
def kindCode : FrameKind → Byte
  | .data => 0x01
  | .status => 0x02
  | .hello => 0x03
  | .mgmtReq => 0x04
  | .mgmtRsp => 0x05
  | .notice => 0x06

/-- The kind a code names. -/
def kindOf (code : Byte) : Option FrameKind :=
  match code.toNat with
  | 1 => some .data
  | 2 => some .status
  | 3 => some .hello
  | 4 => some .mgmtReq
  | 5 => some .mgmtRsp
  | 6 => some .notice
  | _ => none

/-- Status codes. -/
def statusByte : StatusCode → Byte
  | .unknownDestination => 0x01
  | .bayNotReady => 0x02
  | .noPath => 0x03
  | .bayGone => 0x04
  | .forwardTimeout => 0x05
  | .mgmtBusy => 0x06
  | .notManaged => 0x07

/-- Result codes. -/
def resultByte : Result → Byte
  | .ok => 0x00
  | .okClamped => 0x01
  | .already => 0x02
  | .refusedState => 0x03
  | .held => 0x04
  | .faultLatched => 0x05
  | .noDrive => 0x06
  | .outOfRange => 0x07
  | .tableFull => 0x08
  | .duplicate => 0x09
  | .notFound => 0x0A
  | .badTable => 0x0B
  | .badRequest => 0x0C

/-- Event kind codes of the bay latches. -/
def bayEventCode (e : BayEvent) : Nat := e.idx.val + 1

/-- Event kind codes of the enclosure latches. -/
def enclEventCode (e : EnclEvent) : Nat := e.idx.val + 0x11

/-- Bay state codes (section 12.2, NOTICE). -/
def stateCode : BayState → Nat
  | .empty => 0
  | .seating => 1
  | .off => 2
  | .queued => 3
  | .starting => 4
  | .online => 5
  | .cycling => 6
  | .faulted => 7
  | .test => 8

/-- Fault cause codes (section 12.2, NOTICE); 0 stands for an absent cause there. -/
def faultCode : FaultCause → Nat
  | .overcurrent => 1
  | .overtemp => 2
  | .noHello => 3
  | .overbudget => 4
  | .addressConflict => 5

/-! ### Frames (section 12.1) -/

/-- The payload length field: the payload's length in words. -/
def Frame.words (f : Frame) : Nat := f.payload.length / 4

/-- The header of a frame. -/
def headerBytes (f : Frame) : List Byte :=
  [kindCode f.kind, BitVec.ofNat 8 f.words] ++ halfBytes f.tag ++ addrBytes f.dest ++ addrBytes f.src
    ++ halfBytes f.carried

/-- The whole frame as the link carries it: header, payload, check word. -/
def frameBytes (f : Frame) : List Byte :=
  let body := headerBytes f ++ f.payload
  body ++ wordBytes (crc32 body)

/-- The four tests of R69. `none` is a frame that fails one of them. -/
def parseFrame (bytes : List Byte) : Option Frame :=
  let n := bytes.length
  if n < 16 ∨ n % 4 ≠ 0 then none
  else if n ≠ 12 + 4 * (byteAt bytes 1).toNat + 4 then none
  else if crc32 (bytes.take (n - 4)) ≠ wordAt bytes (n - 4) then none
  else match kindOf (byteAt bytes 0) with
    | none => none
    | some kind => some
      { kind
        tag := byteAt bytes 2 ++ byteAt bytes 3
        dest := byteAt bytes 4 ++ byteAt bytes 5 ++ byteAt bytes 6
        src := byteAt bytes 7 ++ byteAt bytes 8 ++ byteAt bytes 9
        carried := byteAt bytes 10 ++ byteAt bytes 11
        payload := (bytes.drop 12).take (n - 16) }

/-! ### HELLO (R199, section 12.2) -/

/-- The role in the announcement: byte 10, upper four bits (1 DRIVE, 2 CONTROLLER). -/
def helloRole (f : Frame) : Nat := (f.carried.extractLsb' 12 4).toNat

/-- The declared class in the announcement: byte 10, lower four bits. -/
def helloClass (f : Frame) : Nat := (f.carried.extractLsb' 8 4).toNat

/-- The telemetry profile in the announcement: byte 11, upper four bits. -/
def helloProfile (f : Frame) : Nat := (f.carried.extractLsb' 4 4).toNat

/-- The identity: the two payload words, byte 0 first. -/
def helloIdentity (f : Frame) : BitVec 64 := wordAt f.payload 0 ++ wordAt f.payload 4

/-- What a HELLO that passes the screen of R27 declares. -/
structure Announcement where
  addr : Addr
  cls : ClassNo
  profile : Fin 8
  identity : BitVec 64
  deriving DecidableEq, Repr

/-- The screen of R27 for a HELLO from a bay port. -/
def screenDriveHello (f : Frame) : Option Announcement :=
  if f.words ≠ 2 then none
  else if helloRole f ≠ 1 then none
  else if hc : helloClass f < 8 then
    if hp : helloProfile f < 8 then some ⟨f.src, ⟨helloClass f, hc⟩, ⟨helloProfile f, hp⟩, helloIdentity f⟩
    else none
  else none

/-- The screen of R97 for a HELLO from an upstream port: its source address when it passes. -/
def screenControllerHello (f : Frame) : Option Addr :=
  if f.words ≠ 2 then none
  else if helloRole f ≠ 2 then none
  else some f.src

/-! ### Words of a response (R200) -/

/-- A number. -/
def wNat (n : Nat) : Word := BitVec.ofNat 32 n
/-- A temperature or an offset: two's complement. -/
def wInt (i : Int) : Word := BitVec.ofInt 32 i
/-- The word of an absent item. -/
def wAbsent : Word := 0xFFFFFFFF
/-- The second value of a pair is 1. -/
def wBool (b : Bool) : Word := if b then 1 else 0
/-- An item that may be absent. -/
def wOpt {α : Type} (f : α → Word) : Option α → Word
  | none => wAbsent
  | some a => f a

/-- A port (R200). -/
def wPort (p : Port) : Word := wNat (portIdx p).val
/-- A link address. -/
def wAddr (a : Addr) : Word := a.setWidth 32
/-- LOW 0, HIGH 1. -/
def wLevel : Level → Word
  | .low => 0
  | .high => 1
/-- ACTIVE_HIGH 0, ACTIVE_LOW 1. -/
def wPolarity : Polarity → Word
  | .activeHigh => 0
  | .activeLow => 1
/-- FULL 0, REDUCED 1. -/
def wDrive : Drive → Word
  | .full => 0
  | .reduced => 1
/-- DARK 0, LIT 1. -/
def wLight : Light → Word
  | .dark => 0
  | .lit => 1
/-- ABSENT 0, PRESENT 1. -/
def wPresence : Presence → Word
  | .absent => 0
  | .present => 1
/-- AUTO 0, MANUAL 1. -/
def wPolicy : Policy → Word
  | .auto => 0
  | .manual => 1
/-- A bay state. -/
def wState (x : BayState) : Word := wNat (stateCode x)
/-- A fault cause. -/
def wFault (x : FaultCause) : Word := wNat (faultCode x)
/-- A fault cause that may be absent; the absent word is that of any absent item, never 0 (R200, R42; log entry 13). -/
def wCause : Option FaultCause → Word := wOpt wFault
/-- OK 0, DEGRADED 1, FAILED 2. -/
def wFan : FanState → Word
  | .ok => 0
  | .degraded => 1
  | .failed => 2
/-- PRIORITY 0, NORMAL 1. -/
def wQueueClass : QueueClass → Word
  | .priority => 0
  | .normal => 1
/-- CLEAR 0, TIMING 1, PERSISTED 2. -/
def wFilter : OcFilter → Word
  | .clear => 0
  | .timing _ => 1
  | .persisted => 2
/-- SIGNED_C 0, OFFSET64_C 1, NONZERO 2. -/
def wEncoding : Encoding → Word
  | .signedC => 0
  | .offset64C => 1
  | .nonzero => 2
/-- TEMPERATURE 0, FAULT_HINT 1. -/
def wAction : SnoopAction → Word
  | .temperature => 0
  | .faultHint => 1
/-- A snoop kind is its frame kind code. -/
def wSnoopKind : SnoopKind → Word
  | .data => 1
  | .status => 2
/-- A prior state uses the bay state codes. -/
def wPrior : Prior → Word
  | .empty => wState .empty
  | .off => wState .off
  | .faulted _ => wState .faulted

/-- The sixteen bays in ascending number. -/
def allBays : List Bay := [0, 1, 2, 3, 4, 5, 6, 7, 8, 9, 10, 11, 12, 13, 14, 15]

/-- A mask word: each bit `k` below the bound is set exactly when `p k`. -/
def maskWord (p : Nat → Bool) : Nat → Word
  | 0 => 0
  | k + 1 => maskWord p k ||| (if p k then BitVec.ofNat 32 (2 ^ k) else 0)

/-- A set of bays as a mask word. -/
def wBays (p : Bay → Bool) : Word := maskWord (fun k => if h : k < 16 then p ⟨k, h⟩ else false) 16

/-- A set of zones as a mask word. -/
def wZones (v : Vector Bool 4) : Word := maskWord (fun k => v.toList.getD k false) 4

/-- Time left in units of `unit` ms, rounded up. -/
def timeLeft (unit now endsAt : Nat) : Nat := (endsAt - now + (unit - 1)) / unit

/-! ### Words of a request (R168, R200) -/

/-- The request code: bytes 0 and 1 of word 0; 0 for a payload of 0 words (R168, R169). -/
def requestCode (f : Frame) : BitVec 16 :=
  if f.words = 0 then 0 else byteAt f.payload 0 ++ byteAt f.payload 1

/-- Argument word `k`, counted from 0; the argument words start at word 1. -/
def arg (f : Frame) (k : Nat) : Word := wordAt f.payload (4 * (k + 1))

/-- An identifier below `n`. -/
def identifier (n : Nat) (w : Word) : Option (Fin n) := if h : w.toNat < n then some ⟨w.toNat, h⟩ else none

/-- A two-valued named value: false is the first of the pair, true the second; `none` is a value outside the list. -/
def twoValued (w : Word) : Option Bool :=
  match w.toNat with
  | 0 => some false
  | 1 => some true
  | _ => none

/-- Whether bay `b` is in the bay set `w`: bits 16 to 31 are not read. -/
def inSet (w : Word) (b : Bay) : Bool := w.getLsbD b.val

/-- A set whose bits 0 to 15 are all 0 is empty. -/
def emptySet (w : Word) : Bool := w.toNat % 65536 == 0

/-- The bays of a set, in ascending number. -/
def baysOf (w : Word) : List Bay := allBays.filter (inSet w)

/-- A port argument (R200, "Ports"). -/
def portArg (w : Word) : Option Port :=
  if h : w.toNat < 16 then some (.bay ⟨w.toNat, h⟩)
  else if w.toNat = 16 then some (.up .u0)
  else if w.toNat = 17 then some (.up .u1)
  else none

/-- An address argument: the low three bytes of its word. -/
def addrArg (w : Word) : Addr := w.setWidth 24

/-- A value clamped to a range, unsigned. -/
def clamp (lo hi n : Nat) : Nat := if n < lo then lo else if hi < n then hi else n

/-- A value clamped to a range, signed. -/
def clampInt (lo hi n : Int) : Int := if n < lo then lo else if hi < n then hi else n

/-! ### Requests and responses -/

/-- The codes of section 12.4. -/
def knownCodes : List Nat :=
  [0x0101, 0x0102, 0x0103, 0x0110, 0x0111, 0x0112, 0x0113, 0x0114, 0x0120, 0x0121, 0x0122, 0x0123, 0x0124, 0x0125,
   0x0130, 0x0131, 0x0132, 0x0133, 0x0134, 0x0140, 0x0141, 0x0150, 0x0151, 0x0152, 0x0160, 0x0161, 0x0162, 0x0163,
   0x0170, 0x0171, 0x0172, 0x0173, 0x0174, 0x0175, 0x0180, 0x0181, 0x0182, 0x0183, 0x0190, 0x0191, 0x01F0]

/-- What serving a request answers: a result code and the data of the response (R167). -/
structure Reply where
  result : Result
  data : List Word
  deriving DecidableEq, Repr

/-- A MGMT_RSP frame (R169, section 12.3). -/
def responseFrame (switch : Addr) (req : Frame) (r : Reply) : Frame where
  kind := .mgmtRsp
  tag := req.tag
  dest := req.src
  src := switch
  carried := 0
  payload := halfBytes (requestCode req) ++ [resultByte r.result, 0] ++ wordsBytes r.data

/-- A part-generated STATUS frame for the frame `orig` (R74, section 12.2). -/
def statusFrame (switch : Addr) (code : StatusCode) (orig : Frame) : Frame where
  kind := .status
  tag := orig.tag
  dest := orig.src
  src := switch
  carried := 0
  payload := [statusByte code, kindCode orig.kind] ++ halfBytes orig.tag ++ addrBytes orig.dest ++ [0]

/-- The payload of a NOTICE frame with its overflow item still CLEAR (section 12.2). -/
def noticePayload : Notice → List Byte
  | .bay b k st cause =>
    [BitVec.ofNat 8 b.val, BitVec.ofNat 8 (bayEventCode k), BitVec.ofNat 8 (stateCode st),
      BitVec.ofNat 8 (match cause with
        | none => 0
        | some c => faultCode c), 0, 0, 0, 0]
  | .enclosure k detail =>
    [0xFF, BitVec.ofNat 8 (enclEventCode k), 0xFF, 0] ++ halfBytes (BitVec.ofNat 16 detail) ++ [0, 0]

/-- A NOTICE frame as it joins the priority queue (R189). -/
def noticeFrame (switch dest : Addr) (n : Notice) : Frame where
  kind := .notice
  tag := 0
  dest := dest
  src := switch
  carried := 0
  payload := noticePayload n

/-- A NOTICE frame with its overflow item (payload byte 6) completed (R190). -/
def withOverflow (f : Frame) (flag : Bool) : Frame :=
  { f with payload := f.payload.set 6 (if flag then 1 else 0) }

/-- A MGMT_REQ frame with a request code and argument words (section 12.3). -/
def requestFrame (tag : Tag) (src switch : Addr) (code : BitVec 16) (args : List Word) : Frame where
  kind := .mgmtReq
  tag := tag
  dest := switch
  src := src
  carried := 0
  payload := halfBytes code ++ [0, 0] ++ wordsBytes args

end Sys2Proof.Machine
end

