-- ==== Sys2Proof/Machine/Flags.lean ====
section
/-!
DEFINITION. Machine/Flags.lean: the latches of the event unit and the notices that their setting builds (chapter 10),
the ALERT condition, and the port counters (R88).
-/
namespace Sys2Proof.Machine

/-! ### Notices (R187, R188) -/

/-- Offer a notice to one port's notice queue: nothing without a subscription; a full queue drops it and sets the
port's overflow flag. -/
def offerNotice (p : UpPort) (n : Notice) (e : EventBlock) : EventBlock :=
  if e.subscribed[upIdx p] then
    if e.notices[upIdx p].length < Config.noticeQueueSize then
      { e with notices := upd e.notices (upIdx p) (· ++ [n]) }
    else { e with overflow := put e.overflow (upIdx p) true }
  else e

/-- Offer a notice to both ports. -/
def announce (n : Notice) (e : EventBlock) : EventBlock := offerNotice .u1 n (offerNotice .u0 n e)

/-! ### Latches (R184, R185) -/

/-- Set a bay latch: absorbed when it is SET already, else the notice of R187 is built with the bay's state and fault
cause as they stand. -/
def latchBay (b : Bay) (k : BayEvent) (s : State) : State :=
  if s.ev.bayLatches[b][k.idx] then s
  else
    let e : EventBlock := { s.ev with bayLatches := upd s.ev.bayLatches b (put · k.idx true) }
    { s with ev := announce (.bay b k s.bays[b].state s.bays[b].fault) e }

/-- Set an enclosure latch, with the detail its notice carries. -/
def latchEncl (k : EnclEvent) (detail : Nat) (s : State) : State :=
  if s.ev.enclLatches[k.idx] then s
  else
    let e : EventBlock := { s.ev with enclLatches := put s.ev.enclLatches k.idx true }
    { s with ev := announce (.enclosure k detail) e }

/-- The latch that a new module state sets (R142). -/
def fanEvent : FanState → EnclEvent
  | .ok => .fanRecovered
  | .degraded => .fanDegraded
  | .failed => .fanFailed

/-- The module set of a fan latch. -/
def fanSetIdx : FanState → Fin 3
  | .degraded => 0
  | .failed => 1
  | .ok => 2

/-- A module's state has become `st`: the module joins the latch's set, and the latch is set (R142, R185). -/
def latchFan (st : FanState) (m : FanModule) (s : State) : State :=
  latchEncl (fanEvent st) m.val
    { s with ev := { s.ev with fanSets := upd s.ev.fanSets (fanSetIdx st) (put · m true) } }

/-- Whether a latch of the bay is SET. -/
def anyLatch (e : EventBlock) (b : Bay) : Bool := e.bayLatches[b].toList.any id

/-! ### ALERT (R193) -/

/-- ALERT is asserted exactly when a bay is FAULTED or a module is FAILED. -/
def alertCondition (s : State) : Bool :=
  s.bays.toList.any (fun r => r.state = .faulted) || s.cool.modules.toList.any (fun m => m.state = .failed)

/-- The event unit sets the line. -/
def driveAlert (s : State) : State := { s with ev := { s.ev with alert := alertCondition s } }

/-! ### Counters (R88) -/

/-- Add `n` to a counter of a port; it stops at its largest value. -/
def count (p : Port) (k : CounterKind) (n : Nat) (s : State) : State :=
  { s with fwd := { s.fwd with
      counters := upd s.fwd.counters (portIdx p) (fun c => upd c k.idx (fun v => min Config.counterMax (v + n))) } }

end Sys2Proof.Machine
end

