-- ==== Sys2Proof/Machine/Ops.lean ====
section
/-!
DEFINITION. Machine/Ops.lean: the operations that several commands share: statuses and queues, the snooper's capture,
the flush, charges, leaving power, the spin-up queue and the admission attempt, removal and seating, and what every
step ends with.
-/
namespace Sys2Proof.Machine

/-! ### Reading and changing one entry -/

/-- Change the record of one bay. -/
def modBay (b : Bay) (f : BayRecord → BayRecord) (s : State) : State := { s with bays := upd s.bays b f }

/-- Change what the line interface holds for one bay. -/
def modLine (b : Bay) (f : LineUnit → LineUnit) (s : State) : State :=
  { s with line := { s.line with bays := upd s.line.bays b f } }

/-- Change what the line interface holds for the bays that `p` names. -/
def modLines (p : Bay → Bool) (f : LineUnit → LineUnit) (s : State) : State :=
  { s with line := { s.line with bays := tab (fun b => if p b then f s.line.bays[b] else s.line.bays[b]) } }

/-- Change the records of the bays that `p` names. -/
def modBays (p : Bay → Bool) (f : BayRecord → BayRecord) (s : State) : State :=
  { s with bays := tab (fun b => if p b then f s.bays[b] else s.bays[b]) }

/-- Change the light flags or the activity window of one bay. -/
def modLight (b : Bay) (f : LightUnit → LightUnit) (s : State) : State :=
  { s with light := { s.light with bays := upd s.light.bays b f } }

/-- Change the thermal record of one bay. -/
def modTherm (b : Bay) (f : ThermalRecord → ThermalRecord) (s : State) : State :=
  { s with therm := { s.therm with records := upd s.therm.records b f } }

/-- Change what the forwarding engine holds for one upstream port. -/
def modUp (p : UpPort) (f : UpUnit → UpUnit) (s : State) : State :=
  { s with fwd := { s.fwd with up := upd s.fwd.up (upIdx p) f } }

/-- Put a bay into a state. -/
def setState (b : Bay) (st : BayState) (s : State) : State := modBay b (fun r => { r with state := st }) s

/-- A bay has power, and its port is ENABLED, exactly while it is STARTING or ONLINE (R4, R68). -/
def powered : BayState → Bool
  | .starting => true
  | .online => true
  | _ => false

/-- The bay port is ENABLED (R68). -/
def enabled (b : Bay) (s : State) : Bool := powered s.bays[b].state

/-- The part's own link address: 0xFA0000 plus the address strap value (R91). -/
def switchAddr (s : State) : Addr := 0xFA0000 + s.addrStrap.setWidth 24

/-- The moment `t` has come: an event at an end time is taken at that end time (log entry 2). -/
def advance (t : Nat) (s : State) : State := { s with now := max s.now t }

/-- An event of R56 asks for an admission attempt. -/
def ask (s : State) : State := { s with power := { s.power with attemptAsked := true } }

/-! ### Lights: activity marks (R83, R154) -/

/-- An activity mark opens the bay's activity window or extends it. -/
def markActivity (b : Bay) (s : State) : State :=
  modLight b (fun u => { u with window := some (match u.window with
    | none => s.now + s.light.hold
    | some e => max e (s.now + s.light.hold)) }) s

/-! ### Part-generated STATUS frames (R73, R74) -/

/-- Put a frame at the tail of a bay egress queue. -/
def pushBay (b : Bay) (h : Held) (s : State) : State :=
  { s with fwd := { s.fwd with bayQueue := upd s.fwd.bayQueue b (· ++ [h]) } }

/-- Put a frame at the tail of an upstream priority queue. -/
def pushPriority (p : UpPort) (h : Held) (s : State) : State :=
  modUp p (fun u => { u with priority := u.priority ++ [h] }) s

/-- Put a frame at the tail of an upstream normal queue. -/
def pushNormal (p : UpPort) (h : Held) (s : State) : State :=
  modUp p (fun u => { u with normal := u.normal ++ [h] }) s

/-- The priority queue of a port has a free place. -/
def priorityRoom (p : UpPort) (s : State) : Bool :=
  s.fwd.up[upIdx p].priority.length < Config.priorityQueueSize

/-- Answer the frame `orig`, which arrived on `p`, with a status: none for a STATUS frame; otherwise it joins the
queue of `p` or is dropped, and is counted either way (R73, R74). -/
def sendStatus (code : StatusCode) (p : Port) (orig : Frame) (s : State) : State :=
  if orig.kind = .status then s
  else
    let h : Held := ⟨statusFrame (switchAddr s) code orig, .built⟩
    match p with
    | .up u =>
      if s.fwd.up[upIdx u].linkUp && priorityRoom u s then count p .statusSent 1 (pushPriority u h s)
      else count p .statusDropped 1 s
    | .bay b =>
      if s.fwd.bayQueue[b].length < Config.bayQueueSize then
        markActivity b (count p .statusSent 1 (pushBay b h s))
      else count p .statusDropped 1 s

/-- Discard a frame on arrival and answer it with a status (R70 to R72). -/
def refuseFrame (code : StatusCode) (p : Port) (f : Frame) (s : State) : State :=
  sendStatus code p f (count p .discarded 1 s)

/-! ### The telemetry snooper's evaluation (R108 to R113, R119, R120) -/

/-- A rule is considered for a frame of this profile and kind (R108). -/
def considered (profile : Fin 8) (kind : FrameKind) (r : SnoopRule) : Bool :=
  r.enable && decide (r.profile = profile) && (match r.kind with
    | .data => decide (kind = .data)
    | .status => decide (kind = .status))

/-- A considered rule passes the frame (R109). -/
def rulePasses (f : Frame) (r : SnoopRule) : Bool :=
  decide (r.word < f.words) && decide (r.byte < 4 * f.words) &&
    decide (wordAt f.payload (4 * r.word) &&& r.mask = r.value)

/-- The rule that acts on a frame: the first considered rule, in ascending number, that passes (R109). -/
def actingRule (rules : Vector SnoopRule 8) (profile : Fin 8) (f : Frame) : Option SnoopRule :=
  rules.toList.find? (fun r => considered profile f.kind r && rulePasses f r)

/-- A temperature is valid from -20 to 120 °C (R110). -/
def validTemp (t : Int) : Bool := decide (-20 ≤ t) && decide (t ≤ 120)

/-- The temperature a value byte decodes to; `none` for NONZERO (R110). -/
def decodeTemp (e : Encoding) (v : Byte) : Option Int :=
  match e with
  | .signedC => some v.toInt
  | .offset64C => some ((v.toNat : Int) - 64)
  | .nonzero => none

/-- TEMP_WARN is latched when a capture at or above warn replaces a reading that was absent or below it (R119). -/
def warnsAt (warn t : Int) (old : Option Int) : Bool :=
  decide (warn ≤ t) && (match old with
    | none => true
    | some r => decide (r < warn))

/-- The shutdown streak after a valid capture (R120). -/
def streakAfter (shutdown t : Int) (streak : Nat) : Nat :=
  if shutdown ≤ t then min 4 (streak + 1) else 0

/-- The capture's increase makes the streak equal to the overtemp filter (R120). -/
def reachesFilter (shutdown t : Int) (streak filter : Nat) : Bool :=
  decide (shutdown ≤ t) && decide (streak < 4) && decide (streak + 1 = filter)

/-- The record after a valid capture of `t` (R111). -/
def capturedRecord (shutdown t : Int) (r : ThermalRecord) : ThermalRecord :=
  { r with reading := some t, age := 0, samples := (r.samples + 1) % 65536, streak := streakAfter shutdown t r.streak }

/-- A valid capture for a bay, in R111's order; the trip is sent, and taken later by PROTECTION_TRIP (R35). -/
def capture (b : Bay) (t : Int) (s : State) : State :=
  let r := s.therm.records[b]
  let s := if warnsAt s.therm.warn t r.reading then latchBay b .tempWarn s else s
  let s := modTherm b (capturedRecord s.therm.shutdown t) s
  if reachesFilter s.therm.shutdown t r.streak s.therm.otFilter then
    let s := latchBay b .overtemp s
    if s.bays[b].otProt then modBay b (fun r => { r with otTrip := true }) s else s
  else s

/-- An invalid capture (R112). -/
def badCapture (b : Bay) (s : State) : State := modTherm b (fun r => { r with bad := min 65535 (r.bad + 1) }) s

/-- A NONZERO fault hint (R113). -/
def faultHint (b : Bay) (s : State) : State :=
  latchBay b .predictedFault (modLight b (fun u => { u with predictedFault := true }) s)

/-- The passing rule acts on the value byte (R109 to R113). -/
def applyRule (b : Bay) (r : SnoopRule) (v : Byte) (s : State) : State :=
  match r.action with
  | .temperature =>
    match decodeTemp r.encoding v with
    | some t => if validTemp t then capture b t s else badCapture b s
    | none => s
  | .faultHint => if v = 0 then s else faultHint b s

/-- The offer of a frame of bay `b` (R85, R108): only an ONLINE bay's frames are read. -/
def snoop (b : Bay) (f : Frame) (s : State) : State :=
  let r := s.bays[b]
  if r.state = .online then
    match r.profile with
    | none => s
    | some profile =>
      match actingRule s.therm.rules profile f with
      | none => s
      | some rule => applyRule b rule (byteAt f.payload rule.byte) s
  else s

/-! ### Egress queues and wait slots (R72, R75, R78, R79, R83, R85) -/

/-- The queue a frame for `q` joins has room: `q`'s egress queue, or its normal queue. -/
def queueRoom (q : Port) (s : State) : Bool :=
  match q with
  | .bay b => s.fwd.bayQueue[b].length < Config.bayQueueSize
  | .up u => s.fwd.up[upIdx u].normal.length < Config.normalQueueSize

/-- The frame `f`, which arrived on `p`, joins the queue of `q`: counted as forwarded on `p`; an activity mark for a
bay at either end; offered to the snooper when it goes from a bay upstream. -/
def place (p q : Port) (f : Frame) (s : State) : State :=
  let h : Held := ⟨f, .arrived p⟩
  match q with
  | .bay b => markActivity b (count p .forwarded 1 (pushBay b h s))
  | .up u =>
    let s := count p .forwarded 1 (pushNormal u h s)
    match p with
    | .bay a => snoop a f (markActivity a s)
    | .up _ => s

/-- Empty a wait slot; the port's pause is released with it (R69). -/
def clearSlot (p : Port) (s : State) : State :=
  { s with fwd := { s.fwd with waiting := put s.fwd.waiting (portIdx p) none } }

/-- The frame `f` enters the wait slot of `p` for the queue of `q` (R78). -/
def enterSlot (p q : Port) (f : Frame) (s : State) : State :=
  { s with fwd := { s.fwd with
      waiting := put s.fwd.waiting (portIdx p) (some ⟨f, q, s.now, s.now + s.fwd.timeout, s.fwd.waitSeq, false⟩)
      waitSeq := s.fwd.waitSeq + 1 } }

/-- The ports in R79's order: U0, U1, B0 to B15. -/
def portsInOrder : List Port := .up .u0 :: .up .u1 :: allBays.map Port.bay

/-- Put a waiting frame in its place by the order in which the waits started; the lower port first among equals. -/
def insertWaiting (x : Port × Waiting) : List (Port × Waiting) → List (Port × Waiting)
  | [] => [x]
  | y :: ys => if y.2.seq ≤ x.2.seq then y :: insertWaiting x ys else x :: y :: ys

/-- The wait slots that wait for the queue of `q`, the earliest wait first (R79, R84). -/
def waitersFor (q : Port) (s : State) : List (Port × Waiting) :=
  (portsInOrder.filterMap fun p =>
    match s.fwd.waiting[portIdx p] with
    | some w => if w.target = q then some (p, w) else none
    | none => none).foldl (fun acc x => insertWaiting x acc) []

/-- A place has opened in the queue of `q`: the earliest waiting slot takes it (R79). -/
def fillPlace (q : Port) (s : State) : State :=
  match waitersFor q s with
  | [] => s
  | (p, w) :: _ => place p q w.frame (clearSlot p s)

/-! ### The bay port flush (R84) -/

/-- Abandon the frame in transmission on a port, counted as discarded there (R76). -/
def abandon (p : Port) (s : State) : State :=
  match s.fwd.transmitting[portIdx p] with
  | none => s
  | some _ => count p .discarded 1 { s with fwd := { s.fwd with transmitting := put s.fwd.transmitting (portIdx p) none } }

/-- Empty the wait slot of `p`, whose frame's destination went away: counted as discarded on `p` and answered. -/
def endWait (code : StatusCode) (x : Port × Waiting) (s : State) : State :=
  refuseFrame code x.1 x.2.frame (clearSlot x.1 s)

/-- The frames that are lost when a port closes with an occupied wait slot: the waiting frame, and at a bay port the frame that
the link holds back behind it, which finds the port disabled (R84, R86, R68, R196). -/
def lostWithSlot (p : Port) (w : Waiting) : Nat :=
  match p with
  | .bay _ => if w.behind then 2 else 1
  | .up _ => 1

/-- Discard the frame in a port's own wait slot, without status. The frame that the link of a bay port holds back is discarded
and counted in the same step, even when the bay is admitted again in that step (R196; that it is counted in the step of the
flush is DEDUCED, unsafe: log entry 23). -/
def dropOwnWait (p : Port) (s : State) : State :=
  match s.fwd.waiting[portIdx p] with
  | none => s
  | some w => count p .discarded (lostWithSlot p w) (clearSlot p s)

/-- BAY_GONE for a frame removed from a bay egress queue: only one that arrived on an upstream port is answered. -/
def bayGone (h : Held) (s : State) : State :=
  match h.origin with
  | .arrived (.up u) => sendStatus .bayGone (.up u) h.frame s
  | _ => s

/-- Step 1 of the flush: the egress queue is emptied and counted, and answered in queue order. -/
def flushQueue (b : Bay) (s : State) : State :=
  let q := s.fwd.bayQueue[b]
  let s := count (.bay b) .discarded q.length
    { s with fwd := { s.fwd with bayQueue := put s.fwd.bayQueue b [] } }
  q.foldl (fun s h => bayGone h s) s

/-- Step 3 of the flush: the other ports' wait slots for this bay's queue. -/
def flushWaiters (b : Bay) (s : State) : State :=
  ((waitersFor (.bay b) s).filter (fun x => x.1 ≠ .bay b)).foldl (fun s x => endWait .bayGone x s) s

/-- The bay port flush (R84). -/
def flush (b : Bay) (s : State) : State :=
  dropOwnWait (.bay b) (flushWaiters b (abandon (.bay b) (flushQueue b s)))

/-! ### Charges and the ceiling (R45, R46, R49) -/

/-- The committed draw: the sum of the sixteen charges (R45). -/
def committed (s : State) : Nat := s.power.charge.toList.sum

/-- The step-down of R49, after a fall of the committed draw. -/
def stepDown (s : State) : State :=
  match s.power.pendingCeiling with
  | none => s
  | some p =>
    let live := max p (committed s)
    if live = p then
      latchEncl .ceilingReached live { s with power := { s.power with live := live, pendingCeiling := none } }
    else { s with power := { s.power with live := live } }

/-- Set the charge of a bay; a fall steps the ceiling down and asks for an attempt (R45, R46). -/
def setCharge (b : Bay) (v : Nat) (s : State) : State :=
  let old := s.power.charge[b]
  let s := { s with power := { s.power with charge := put s.power.charge b v } }
  if v < old then ask (stepDown s) else s

/-! ### The leaving-power step (R22) -/

/-- The record of a bay that leaves STARTING or ONLINE: timer stopped, charged class and active zone absent, drive
fields absent, any trip that was sent dropped (R22, R35). -/
def unpowerRecord (r : BayRecord) : BayRecord :=
  { r with startTimer := none, chargedClass := none, activeZone := none, driveAddr := none, declClass := none,
           profile := none, identity := none, ocTrip := false, otTrip := false }

/-- The thermal record of a bay that leaves ONLINE (R114). -/
def clearReading (r : ThermalRecord) : ThermalRecord := { r with reading := none, age := 0, streak := 0 }

/-- Clear the learned slot of a port, with its displacement note (R93, R103). -/
def clearLearned (p : Port) (s : State) : State :=
  { s with route := { s.route with learned := put s.route.learned (portIdx p) none } }

/-- Set the overcurrent filter of a bay. -/
def setFilter (b : Bay) (x : OcFilter) (s : State) : State :=
  { s with power := { s.power with ocFilter := put s.power.ocFilter b x } }

/-- A bay leaves STARTING or ONLINE (R22). The transition that causes it then sets the new state and its own latch, so that
CEILING_REACHED of the charge release comes first, an order that R22 leaves open (DESIGN CHOICE, unsafe: log entry 22). -/
def leavePower (b : Bay) (s : State) : State :=
  let was := s.bays[b].state
  let s := setCharge b 0 (modBay b unpowerRecord s)
  let s := flush b (setFilter b .clear s)
  let s := if was = .online then modTherm b clearReading (clearLearned (.bay b) s) else s
  let s := modLight b (fun u => { u with window := none }) s
  if was = .starting then ask s else s

/-- A bay leaves power and becomes FAULTED with a cause (R21). -/
def faultBay (b : Bay) (cause : FaultCause) (s : State) : State :=
  modBay b (fun r => { r with state := .faulted, fault := some cause }) (leavePower b s)

/-! ### The spin-up queue (R50 to R52) -/

/-- Take a bay's entry out of the queue. -/
def dropEntry (b : Bay) (q : List QueueEntry) : List QueueEntry := q.filter (fun e => e.bay ≠ b)

/-- Put an entry at the tail of its class: every PRIORITY entry stands before every NORMAL one. -/
def joinClass (e : QueueEntry) (q : List QueueEntry) : List QueueEntry :=
  match e.cls with
  | .normal => q ++ [e]
  | .priority => q.filter (fun x => x.cls = .priority) ++ [e] ++ q.filter (fun x => x.cls = .normal)

/-- A bay joins the queue, or moves within it, at the tail of a class; an attempt is asked for (R51, R56). -/
def joinQueue (b : Bay) (cls : QueueClass) (s : State) : State :=
  ask { s with power := { s.power with queue := joinClass ⟨b, cls⟩ (dropEntry b s.power.queue) } }

/-- A bay's entry leaves the queue by removal or POWER_OFF; an attempt is asked for (R52, R56). -/
def leaveQueue (b : Bay) (s : State) : State :=
  ask { s with power := { s.power with queue := dropEntry b s.power.queue } }

/-- The bay becomes QUEUED in a class, with retries left set to the retries setting (R24, R30, R33). -/
def enqueueFresh (b : Bay) (cls : QueueClass) (s : State) : State :=
  joinQueue b cls (modBay b (fun r => { r with state := .queued, retriesLeft := r.retriesSetting }) s)

/-! ### Admission (R53, R57, R58, R25) -/

/-- The zones whose state is DEGRADED or FAILED (R53). -/
def weakZones (s : State) : Nat := s.cool.zones.toList.countP (fun z => z.state ≠ .ok)

/-- The effective limit (R53). -/
def effectiveLimit (s : State) : Nat := max 1 (s.power.limit - weakZones s)

/-- The number of STARTING bays. -/
def startingCount (s : State) : Nat := s.bays.toList.countP (fun r => r.state = .starting)

/-- The class record a bay would be started under. -/
def startClass (b : Bay) (s : State) : ClassRecord := s.power.classes[s.bays[b].cfgClass]

/-- The walk of R57: the first entry whose bay's configured zone is not blocked is tested for budget. -/
def walk (s : State) : List QueueEntry → Option Bay
  | [] => none
  | e :: rest =>
    if s.power.blocked[s.bays[e.bay].cfgZone] then walk s rest
    else if committed s + (startClass e.bay s).startDraw ≤ s.power.live then some e.bay
    else none

/-- The filter of a bay whose evaluation starts (R61). -/
def filterAtStart (s : State) (b : Bay) : OcFilter :=
  if s.power.ocIn[b] then .timing (s.now + s.power.ocSetting[b]) else .clear

/-- The admission of a bay (R25, R58). -/
def admitBay (b : Bay) (s : State) : State :=
  let c := startClass b s
  let s := { s with power := { s.power with queue := dropEntry b s.power.queue } }
  let s := modBay b (fun r => { r with state := .starting, chargedClass := some r.cfgClass,
                                        activeZone := some r.cfgZone,
                                        startTimer := some (s.now + 100 * c.startWindow) }) s
  let s := setFilter b (filterAtStart s b) (setCharge b c.startDraw s)
  if 0 < s.power.staggerSetting then
    { s with power := { s.power with stagger := some (s.now + 100 * s.power.staggerSetting) } }
  else s

/-- An attempt goes on only while the stagger timer is stopped and a starting place is free (R57). -/
def mayAdmit (s : State) : Bool := s.power.stagger.isNone && decide (startingCount s < effectiveLimit s)

/-- The admission attempt (R57), repeated while the stagger setting is 0 (R58). Every admission takes an entry out of
the queue, so a fuel of one more than its length is never used up. -/
def attemptLoop : Nat → State → State
  | 0, s => s
  | fuel + 1, s =>
    if mayAdmit s then
      match walk s s.power.queue with
      | none => s
      | some b => attemptLoop fuel (admitBay b s)
    else s

/-- One admission attempt. -/
def attempt (s : State) : State := attemptLoop (s.power.queue.length + 1) s

/-- Make the attempt that the event's effects asked for: one, after all of them (R56). -/
def attemptIfAsked (s : State) : State :=
  if s.power.attemptAsked then attempt { s with power := { s.power with attemptAsked := false } } else s

/-! ### Seating and removal (R8, R9, R23, R24) -/

/-- SEATING_EXPIRED is delivered to a bay (R24): its timer is over, and it moves on by its policy. -/
def seat (b : Bay) (s : State) : State :=
  let s := modLine b (fun u => { u with debounce := none, inGroup := false }) s
  match s.bays[b].policy with
  | .auto => latchBay b .inserted (enqueueFresh b .normal s)
  | .manual => latchBay b .inserted (modBay b (fun r => { r with state := .off, hold := none }) s)

/-- A bay enters SEATING (R9): a debounce timer of full length starts, or expires at once when the setting is 0. -/
def startSeating (b : Bay) (s : State) : State :=
  let s := setState b .seating s
  if s.line.debounceSetting = 0 then seat b s
  else modLine b (fun u => { u with debounce := some (s.now + 100 * s.line.debounceSetting) }) s

/-- The group timer is cancelled when every bay has left the group (R12). -/
def cancelEmptyGroup (s : State) : State :=
  if s.line.bays.toList.any (·.inGroup) then s else { s with line := { s.line with groupTimer := none } }

/-- A loss of presence in SEATING (R8, R9, R12). -/
def unseat (b : Bay) (s : State) : State :=
  cancelEmptyGroup (modLine b (fun u => { u with debounce := none, inGroup := false }) (setState b .empty s))

/-- The light flags that a removal clears; LOCATE is kept (R159). -/
def clearDriveFlags (u : LightUnit) : LightUnit :=
  { u with controllerFault := false, rebuild := false, predictedFault := false }

/-- The record of a removed bay: cycle timer stopped, fault cause, hold and prior state dropped (R23). -/
def emptyRecord (r : BayRecord) : BayRecord :=
  { r with state := .empty, cycleTimer := none, fault := none, hold := none, prior := none }

/-- Removal (R11, R23, R159). REMOVED is latched after what the charge release latches, CEILING_REACHED; the manual leaves the
order of the two notices open (DESIGN CHOICE, unsafe: log entry 22). -/
def remove (b : Bay) (s : State) : State :=
  let st := s.bays[b].state
  let s := if powered st then leavePower b s else s
  let s := if st = .queued then leaveQueue b s else s
  latchBay b .removed (modLight b clearDriveFlags (modBay b emptyRecord s))

/-- Logical presence is PRESENT while the PRS pin, pulled toward the inactive level, is at the active level (R2). -/
def presenceOf (active : Level) (d : PrsDrive) : Presence :=
  match active, d with
  | .low, .low => .present
  | .high, .high => .present
  | _, _ => .absent

/-- A change of logical presence: one presence edge, delivered by the bay's state, or counted in TEST (R8, R14). -/
def presenceEdge (b : Bay) (s : State) : State :=
  match s.bays[b].state, s.line.bays[b].presence with
  | .test, _ => modLine b (fun u => { u with edges := min 255 (u.edges + 1) }) s
  | .empty, .present => startSeating b s
  | .empty, .absent => s
  | .seating, .absent => unseat b s
  | _, .absent => remove b s
  | _, .present => s

/-- Judge a bay's logical presence again from its pin; a change is a presence edge (R2, R7). -/
def judgePresence (b : Bay) (s : State) : State :=
  let u := s.line.bays[b]
  let now := presenceOf u.record.prsActive u.prsIn
  if now = u.presence then s else presenceEdge b (modLine b (fun u => { u with presence := now }) s)

/-! ### What the snooper and the cooling controller report (R55, R116) -/

/-- A reading is fresh while its age is at or below the stale limit (R115, R118). -/
def fresh (s : State) (b : Bay) : Bool := decide (s.therm.records[b].age ≤ s.therm.staleLimit)

/-- Bay `b` gives zone `z` a hot reading (R116). -/
def hotIn (s : State) (z : Zone) (b : Bay) : Bool :=
  decide (s.bays[b].state = .online) && decide (s.bays[b].activeZone = some z) && fresh s b &&
    (match s.therm.records[b].reading with
    | none => false
    | some t => decide (s.therm.warn ≤ t))

/-- Zone `z` holds a hot reading (R116). -/
def zoneHot (s : State) (z : Zone) : Bool := allBays.any (hotIn s z)

/-- Zone `z` has a FAILED module (R143). -/
def zoneFailed (s : State) (z : Zone) : Bool :=
  s.cool.modules.toList.any (fun m => decide (m.zone = z) && decide (m.state = .failed))

/-- The snooper evaluates the zones again (R116). -/
def refreshHot (s : State) : State := { s with therm := { s.therm with hot := tab (zoneHot s) } }

/-- The zone blocks that the two reports give (R55). -/
def blocksNow (s : State) : Vector Bool 4 := tab fun z => s.therm.hot[z] || zoneFailed s z

/-- The power admission unit takes the reports; a zone that is unblocked asks for an attempt (R55, R56). -/
def refreshBlocks (s : State) : State :=
  let new := blocksNow s
  let opened := [(0 : Zone), 1, 2, 3].any (fun z => s.power.blocked[z] && !new[z])
  let s := { s with power := { s.power with blocked := new } }
  if opened then ask s else s

/-! ### Output pins (R3, R4, R149, R153, R155) -/

/-- The output of a pattern at a moment (R148, R149). -/
def patternOutput (now : Nat) (p : Pattern) : Light :=
  if p.onTime = 0 then .dark
  else if p.offTime = 0 then .lit
  else if (now - p.clock) % ((p.onTime + p.offTime) * 10) < p.onTime * 10 then .lit
  else .dark

/-- What a light shows: the pattern of a cause, nothing, or a preload value. -/
inductive Shown where
  | cause (c : Cause)
  | dark
  | preload
  deriving DecidableEq, Repr

/-- The green selection (R153). -/
def greenShown (b : Bay) (s : State) : Shown :=
  match s.bays[b].state with
  | .queued => .cause .slow
  | .starting => .cause .slow
  | .cycling => .cause .slow
  | .online => if s.light.bays[b].window.isSome then .cause .activity else .cause .steady
  | .test => .preload
  | _ => .dark

/-- The amber selection: the first cause present, in R155's order. -/
def amberShown (b : Bay) (s : State) : Shown :=
  let u := s.light.bays[b]
  match s.bays[b].state with
  | .test => .preload
  | .faulted => .cause .fault
  | _ =>
    if u.locate ≠ .absent then .cause .locate
    else if u.controllerFault then .cause .controllerFault
    else if u.predictedFault then .cause .predictedFault
    else if u.rebuild then .cause .rebuild
    else .dark

/-- The logical value of a light that shows `x`, with `pre` as its preload value. -/
def lightValue (s : State) (pre : Light) : Shown → Light
  | .dark => .dark
  | .preload => pre
  | .cause c => patternOutput s.now s.light.patterns[s.light.map[c.idx]]

/-- The logical value of LA (R3). -/
def laValue (b : Bay) (s : State) : Light := lightValue s s.line.bays[b].preloadLA (greenShown b s)

/-- The logical value of LB (R3). -/
def lbValue (b : Bay) (s : State) : Light := lightValue s s.line.bays[b].preloadLB (amberShown b s)

/-- The pin level of an output line (R1, R3). -/
def pinLevel (pol : Polarity) (active : Bool) : Level :=
  match pol, active with
  | .activeHigh, true => .high
  | .activeHigh, false => .low
  | .activeLow, true => .low
  | .activeLow, false => .high

/-- A light pin: an active line at the strength of its drive field, REDUCED under night dim (R1, R3, R161). -/
def lightPin (pol : Polarity) (drive : Drive) (dim : Bool) (v : Light) : LightPin :=
  match v with
  | .dark => ⟨pinLevel pol false, .fixed⟩
  | .lit => ⟨pinLevel pol true, if dim then .reduced else
      match drive with
      | .full => .full
      | .reduced => .reduced⟩

/-- Set every output pin from its logical value and the bay's record, and let every pattern's lights take its output
(R3, R4, R149). -/
def drivePins (s : State) : State :=
  { s with
    line := { s.line with bays := tab fun b =>
      let u := s.line.bays[b]
      { u with
        pwrPin := pinLevel u.record.pwrPol (enabled b s)
        laPin := lightPin u.record.laPol u.record.laDrive s.light.dim (laValue b s)
        lbPin := lightPin u.record.lbPol u.record.lbDrive s.light.dim (lbValue b s) } }
    light := { s.light with patterns := tab fun p =>
      { s.light.patterns[p] with shown := patternOutput s.now s.light.patterns[p] } } }

/-! ### Releasing notices (R189) -/

/-- The endpoint holds a response for this port. -/
def holdsFor (p : UpPort) (s : State) : Bool :=
  match s.mgmt.held with
  | none => false
  | some h => decide (h.port = p)

/-- Release notices from the front while R189's test passes. -/
def releaseLoop : Nat → UpPort → State → State
  | 0, _, s => s
  | fuel + 1, p, s =>
    match s.ev.notices[upIdx p], s.route.learned[portIdx (.up p)] with
    | n :: rest, some l =>
      if priorityRoom p s && !holdsFor p s then
        let s := { s with ev := { s.ev with notices := put s.ev.notices (upIdx p) rest } }
        releaseLoop fuel p (pushPriority p ⟨noticeFrame (switchAddr s) l.addr n, .built⟩ s)
      else s
    | _, _ => s

/-- Release the notices of one port (R189). -/
def release (p : UpPort) (s : State) : State := releaseLoop s.ev.notices[upIdx p].length p s

/-! ### The end of every step -/

/-- What every step ends with, after its own effects: the reports of hot readings and blocks (R55, R116), the attempt
that was asked for (R56), the notices that may be released (R82, R189), the ALERT line (R193) and the output pins
(R3, R4). -/
def settle (s : State) : State :=
  drivePins (driveAlert (release .u1 (release .u0 (attemptIfAsked (refreshBlocks (refreshHot s))))))

end Sys2Proof.Machine
end

