-- ==== Sys2Proof/Machine/Serve.lean ====
section
/-!
DEFINITION. Machine/Serve.lean: how the management endpoint takes a request, checks its envelope, and offers its
response (R163 to R170). Every request row of the table is one serving.
-/
namespace Sys2Proof.Machine

/-- The outcome of every step. -/
abbrev StepResult := Host.Outcome State Fault Refusal

/-- The endpoint is READY: neither a held response nor a pending restart (R163). -/
def ready (s : State) : Bool := s.mgmt.held.isNone && s.mgmt.restart.isNone

/-- The port arbiter's choice (R166). -/
def nextPort (s : State) : Option UpPort :=
  match s.mgmt.requests[upIdx .u0], s.mgmt.requests[upIdx .u1] with
  | [], [] => none
  | _ :: _, [] => some .u0
  | [], _ :: _ => some .u1
  | _ :: _, _ :: _ => some (otherUp s.mgmt.lastServed)

/-- The request that the endpoint would serve now, with its port (R165, R166). -/
def nextRequest (s : State) : Option (UpPort × Frame) :=
  if ready s then
    match nextPort s with
    | none => none
    | some p =>
      match s.mgmt.requests[upIdx p] with
      | [] => none
      | f :: _ => some (p, f)
  else none

/-- The request leaves its queue, and its port is the last-served one (R164, R166). -/
def takeRequest (p : UpPort) (s : State) : State :=
  { s with mgmt := { s.mgmt with requests := upd s.mgmt.requests (upIdx p) List.tail, lastServed := p } }

/-- Some notice of the port could be released now (R189). -/
def releasable (p : UpPort) (s : State) : Bool :=
  !s.ev.notices[upIdx p].isEmpty && s.route.learned[portIdx (.up p)].isSome && priorityRoom p s && !holdsFor p s

/-- Offer a response to the priority queue of its port; a full queue makes it the held response (R170). -/
def offerResponse (p : UpPort) (h : Held) (s : State) : State :=
  if priorityRoom p s then pushPriority p h s else { s with mgmt := { s.mgmt with held := some ⟨p, h⟩ } }

/-- Stages 3 and 4 of a serving (R167): the response is built and offered. Whether notices that this same serving made
releasable go first is a free value (log entry 6). -/
def respond (p : UpPort) (req : Frame) (x : State × Reply) : State :=
  let s := if releasable p x.1 && Config.noticesBeforeResponse then release p x.1 else x.1
  offerResponse p ⟨responseFrame (switchAddr s) req x.2, .built⟩ s

/-- Serve the next request if it is one that `accepts`; otherwise this serving does not arise, and nothing changes. -/
def serveIf (accepts : Frame → Bool) (body : UpPort → Frame → State → State × Reply) (s : State) : StepResult :=
  match nextRequest s with
  | none => .next s
  | some (p, req) =>
    if accepts req then .next (settle (respond p req (body p req (takeRequest p s)))) else .next s

/-- The answer to a request that its envelope or a value outside a list refuses (R168, R171). -/
def badRequest : Reply := ⟨.badRequest, []⟩
/-- The answer to an identifier outside its numbering (R171). -/
def outOfRange : Reply := ⟨.outOfRange, []⟩
/-- The answer to a structure that breaks its own rules (R171). -/
def badTable : Reply := ⟨.badTable, []⟩
/-- OK_CLAMPED when a value was changed to fit its range, OK otherwise (R171). -/
def okOr (clamped : Bool) : Result := if clamped then .okClamped else .ok

/-- Serve a request of the code `code` with `n` argument words: a shorter payload is answered BAD_REQUEST before any
argument is read, and words beyond the required length are not read (R168). -/
def serveCode (code : BitVec 16) (n : Nat) (body : UpPort → Frame → State → State × Reply) (s : State) : StepResult :=
  serveIf (fun f => decide (requestCode f = code))
    (fun p f s => if f.words < 1 + n then (s, badRequest) else body p f s) s

/-- Serve a request that changes no state of any block: it only reports (R182). -/
def serveRead (code : BitVec 16) (n : Nat) (report : UpPort → Frame → State → Reply) (s : State) : StepResult :=
  serveCode code n (fun p f s => (s, report p f s)) s

/-- Put a request frame at the tail of a port's request queue, as MANAGEMENT_INTAKE does (R71). -/
def pushRequest (p : UpPort) (f : Frame) (s : State) : State :=
  { s with mgmt := { s.mgmt with requests := upd s.mgmt.requests (upIdx p) (· ++ [f]) } }

/-- A state in which the request with this code and these arguments waits at `p`: for tests and witnesses. -/
def State.withRequest (s : State) (p : UpPort) (tag : Tag) (src : Addr) (code : BitVec 16) (args : List Word) : State :=
  pushRequest p (requestFrame tag src (switchAddr s) code args) s

end Sys2Proof.Machine
end

