-- ==== Sys2Proof/Machine/Lines.lean ====
section
/-!
DEFINITION. Machine/Lines.lean: the commands of chapter 1, bay lines and presence.
-/
namespace Sys2Proof.Machine

/-! ### Presence and seating -/

/-- How a connector drives the PRS pin to a level. -/
def driveOf : Level → PrsDrive
  | .low => .low
  | .high => .high

/-- The connector of a bay does `d` to the PRS pin. -/
def setConnector (b : Bay) (d : PrsDrive) (s : State) : State :=
  judgePresence b (modLine b (fun u => { u with prsIn := d }) s)

/-- PRESENCE_ASSERTED (R8): the connector drives the pin to the bay's active level. -/
def execPresenceAsserted (b : Bay) (s : State) : StepResult :=
  .next (settle (setConnector b (driveOf s.line.bays[b].record.prsActive) s))

/-- PRESENCE_LOST (R8): the connector lets the pin go, and the pull takes it to the inactive level (log entry 4). -/
def execPresenceLost (b : Bay) (s : State) : StepResult :=
  .next (settle (setConnector b .released s))

/-- SEATING_EXPIRED (R9, R24): a running debounce timer of a SEATING bay ends. -/
def execSeatingExpired (b : Bay) (s : State) : StepResult :=
  match s.bays[b].state, s.line.bays[b].debounce with
  | .seating, some t => .next (settle (seat b (advance t s)))
  | _, _ => .next s

/-- The bays that SEATING_EXPIRED is delivered to when the group timer ends (R12). -/
def groupBays (s : State) : List Bay :=
  allBays.filter (fun b => s.line.bays[b].inGroup && decide (s.bays[b].state = .seating))

/-- SCAN_GROUP_EXPIRY (R12, R51): the group's bays in ascending number, with an attempt after each join. -/
def execScanGroupExpiry (s : State) : StepResult :=
  match s.line.groupTimer with
  | none => .next s
  | some t =>
    let s := advance t { s with line := { s.line with groupTimer := none } }
    .next (settle ((groupBays s).foldl (fun s b => attemptIfAsked (seat b s)) s))

/-! ### Settings -/

/-- The six fields of a SET_BAY_LINES request; `none` when one is outside its two values. -/
def lineRecordArg (f : Frame) : Option LineRecord :=
  match twoValued (arg f 1), twoValued (arg f 2), twoValued (arg f 3), twoValued (arg f 4), twoValued (arg f 5),
    twoValued (arg f 6) with
  | some prs, some pwr, some la, some laD, some lb, some lbD => some
    { prsActive := if prs then .high else .low
      pwrPol := if pwr then .activeLow else .activeHigh
      laPol := if la then .activeLow else .activeHigh
      laDrive := if laD then .reduced else .full
      lbPol := if lb then .activeLow else .activeHigh
      lbDrive := if lbD then .reduced else .full }
  | _, _, _, _, _, _ => none

/-- A bay refuses a change of PWR polarity while it has power (R6). -/
def refusesLines (s : State) (rec : LineRecord) (b : Bay) : Bool :=
  powered s.bays[b].state && decide (s.line.bays[b].record.pwrPol ≠ rec.pwrPol)

/-- Write a bay's line configuration record; its presence is judged again (R2, R6, R7). -/
def writeLines (rec : LineRecord) (b : Bay) (s : State) : State :=
  judgePresence b (modLine b (fun u => { u with record := rec }) s)

/-- The effect of SET_BAY_LINES (R6, R172). R6 takes the bays "in turn" without an order: the model takes them in ascending
number, and so the order of their edges, notices and queue joins (DESIGN CHOICE, unsafe: log entry 19). -/
def setBayLines (_p : UpPort) (f : Frame) (s : State) : State × Reply :=
  let bset := arg f 0
  match lineRecordArg f with
  | none => (s, badRequest)
  | some rec =>
    if emptySet bset then (s, badRequest)
    else
      let refused := fun b => inSet bset b && refusesLines s rec b
      let taken := (baysOf bset).filter (fun b => !refused b)
      (taken.foldl (fun s b => writeLines rec b s) s,
        ⟨if allBays.any refused then .refusedState else .ok, [wBays refused]⟩)

/-- SET_BAY_LINES. -/
def execSetBayLines (s : State) : StepResult := serveCode 0x0120 7 setBayLines s

/-- The effect of SET_SEATING (R10). -/
def setSeating (_p : UpPort) (f : Frame) (s : State) : State × Reply :=
  let v := (arg f 0).toNat
  ({ s with line := { s.line with debounceSetting := min v 50 } }, ⟨okOr (decide (50 < v)), []⟩)

/-- SET_SEATING. -/
def execSetSeating (s : State) : StepResult := serveCode 0x0121 1 setSeating s

/-! ### Line test -/

/-- What LINE_TEST_ENTER does with a bay (R13). -/
inductive EnterOutcome where
  | entered
  | held
  | already
  | refused
  deriving DecidableEq, Repr

/-- The outcome of LINE_TEST_ENTER for a bay, from its record (R13). -/
def enterOutcome (r : BayRecord) : EnterOutcome :=
  match r.state with
  | .empty => .entered
  | .faulted => .entered
  | .off => if r.hold.isSome then .held else .entered
  | .test => .already
  | _ => .refused

/-- The prior state of a bay that enters TEST, with the fault cause a FAULTED bay keeps (R39). -/
def priorOf (r : BayRecord) : Prior :=
  match r.state, r.fault with
  | .faulted, some c => .faulted c
  | .off, _ => .off
  | _, _ => .empty

/-- A bay moves to TEST (R13, R39). -/
def enterTest (b : Bay) (s : State) : State :=
  modLine b (fun u => { u with edges := 0 })
    (modBay b (fun r => { r with state := .test, prior := some (priorOf r), fault := none }) s)

/-- The effect of LINE_TEST_ENTER (R13, R172). -/
def lineTestEnter (_p : UpPort) (f : Frame) (s : State) : State × Reply :=
  let bset := arg f 0
  if emptySet bset then (s, badRequest)
  else
    let outcome := fun (o : EnterOutcome) (b : Bay) => inSet bset b && decide (enterOutcome s.bays[b] = o)
    let turned := allBays.any (fun b => outcome .held b || outcome .refused b)
    ((allBays.filter (outcome .entered)).foldl (fun s b => enterTest b s) s,
      ⟨if turned then .refusedState else .ok,
        [wBays (outcome .entered), wBays (outcome .held), wBays (outcome .already), wBays (outcome .refused)]⟩)

/-- LINE_TEST_ENTER. -/
def execLineTestEnter (s : State) : StepResult := serveCode 0x0122 1 lineTestEnter s

/-- The bays in TEST. -/
def testBays (s : State) : List Bay := allBays.filter (fun b => decide (s.bays[b].state = .test))

/-- The capture of a TEST bay (R16). -/
def captureWords (s : State) (b : Bay) : List Word :=
  let u := s.line.bays[b]
  [wPresence u.presence, wLight u.preloadLA, wLight u.preloadLB, wNat u.edges]

/-- The effect of LINE_SAMPLE (R16): the captures, then the captured bays' edge counts are set to 0. -/
def lineSample (_p : UpPort) (_f : Frame) (s : State) : State × Reply :=
  let bs := testBays s
  let isTest := fun (b : Bay) => decide (s.bays[b].state = .test)
  (modLines isTest (fun u => { u with edges := 0 }) s,
    ⟨if bs.isEmpty then .refusedState else .ok, [wBays isTest, wNat bs.length] ++ bs.flatMap (captureWords s)⟩)

/-- LINE_SAMPLE. -/
def execLineSample (s : State) : StepResult := serveCode 0x0123 0 lineSample s

/-- A light value argument. -/
def lightArg (v : Bool) : Light := if v then .lit else .dark

/-- The effect of LINE_PRELOAD (R15). -/
def linePreload (_p : UpPort) (f : Frame) (s : State) : State × Reply :=
  let bset := arg f 0
  match twoValued (arg f 1), twoValued (arg f 2) with
  | some la, some lb =>
    if emptySet bset then (s, badRequest)
    else
      (modLines (inSet bset) (fun u => { u with preloadLA := lightArg la, preloadLB := lightArg lb }) s, ⟨.ok, []⟩)
  | _, _ => (s, badRequest)

/-- LINE_PRELOAD. -/
def execLinePreload (s : State) : StepResult := serveCode 0x0124 3 linePreload s

/-- A bay leaves TEST for the state that its prior state and its presence give (R17, R39). -/
def exitTest (b : Bay) (s : State) : State :=
  let leave := fun (st : BayState) (cause : Option FaultCause) =>
    modBay b (fun r => { r with state := st, fault := cause, hold := none, prior := none }) s
  match s.bays[b].prior, s.line.bays[b].presence with
  | none, _ => s
  | some .empty, .present => startSeating b (leave .seating none)
  | some .empty, .absent => leave .empty none
  | some .off, .present => leave .off none
  | some (.faulted c), .present => leave .faulted (some c)
  | some .off, .absent => remove b s
  | some (.faulted _), .absent => remove b s

/-- The effect of LINE_TEST_EXIT (R17, R172). R17 gives the bays of a set no order: the model takes them in ascending number,
and so the order of their notices and queue joins (DESIGN CHOICE, unsafe: log entry 19). -/
def lineTestExit (_p : UpPort) (f : Frame) (s : State) : State × Reply :=
  let bset := arg f 0
  if emptySet bset then (s, badRequest)
  else
    let exited := fun (b : Bay) => inSet bset b && decide (s.bays[b].state = .test)
    let refused := fun (b : Bay) => inSet bset b && decide (s.bays[b].state ≠ .test)
    ((allBays.filter exited).foldl (fun s b => exitTest b s) s,
      ⟨if allBays.any refused then .refusedState else .ok, [wBays exited, wBays refused]⟩)

/-- LINE_TEST_EXIT. -/
def execLineTestExit (s : State) : StepResult := serveCode 0x0125 1 lineTestExit s

end Sys2Proof.Machine
end

