-- ==== Sys2Proof/Machine/Bays.lean ====
section
/-!
DEFINITION. Machine/Bays.lean: the commands of chapter 2, the bay record and its states.
-/
namespace Sys2Proof.Machine

/-! ### Timers and trips -/

/-- A STARTING bay whose window ended: queued again at the tail of NORMAL while retries are left, else FAULTED with
NO_HELLO; START_FAILED is latched either way, after the state change (R26, R187) and after a CEILING_REACHED (DESIGN CHOICE,
unsafe: log entry 22). -/
def failStart (b : Bay) (s : State) : State :=
  let left := s.bays[b].retriesLeft
  latchBay b .startFailed
    (if 0 < left then
      joinQueue b .normal (modBay b (fun r => { r with state := .queued, retriesLeft := left - 1 }) (leavePower b s))
    else faultBay b .noHello s)

/-- START_WINDOW_EXPIRY (R26): a running start window of a STARTING bay ends. -/
def execStartWindowExpiry (b : Bay) (s : State) : StepResult :=
  match s.bays[b].state, s.bays[b].startTimer with
  | .starting, some t => .next (settle (failStart b (advance t s)))
  | _, _ => .next s

/-- CYCLE_TIMER_EXPIRY (R33): a running cycle timer of a CYCLING bay ends. -/
def execCycleTimerExpiry (b : Bay) (s : State) : StepResult :=
  match s.bays[b].state, s.bays[b].cycleTimer with
  | .cycling, some t =>
    .next (settle (enqueueFresh b .priority (modBay b (fun r => { r with cycleTimer := none }) (advance t s))))
  | _, _ => .next s

/-- The fault cause that matches a trip (R35). -/
def tripFault : TripCause → FaultCause
  | .overcurrent => .overcurrent
  | .overtemp => .overtemp

/-- A trip for this cause was sent for the bay and not yet taken or dropped (R35). -/
def tripPending (c : TripCause) (r : BayRecord) : Bool :=
  match c with
  | .overcurrent => r.ocTrip
  | .overtemp => r.otTrip

/-- PROTECTION_TRIP (R35): a trip that was sent is taken by a bay with power; a trip that was never sent or was dropped
is never taken. -/
def execProtectionTrip (b : Bay) (c : TripCause) (s : State) : StepResult :=
  if tripPending c s.bays[b] && powered s.bays[b].state then .next (settle (faultBay b (tripFault c) s)) else .next s

/-! ### Power requests (section 2.6) -/

/-- The bay that a one-bay request names; OUT_OF_RANGE outside 0 to 15 (section 2.6). -/
def withBay (f : Frame) (s : State) (k : Bay → State × Reply) : State × Reply :=
  match identifier 16 (arg f 0) with
  | none => (s, outOfRange)
  | some b => k b

/-- A request that is answered and changes nothing. -/
def answer (r : Result) (s : State) : State × Reply := (s, ⟨r, []⟩)

/-- The entry of a bay in the spin-up queue is in the NORMAL class. -/
def inNormal (b : Bay) (s : State) : Bool := s.power.queue.any (fun e => decide (e.bay = b) && decide (e.cls = .normal))

/-- The effect of POWER_ON on a bay (R30). -/
def powerOnBay (p : UpPort) (b : Bay) (s : State) : State × Reply :=
  match s.bays[b].state with
  | .off =>
    if s.bays[b].hold = some (otherUp p) then answer .held s
    else answer .ok (enqueueFresh b .priority (modBay b (fun r => { r with hold := none }) s))
  | .queued => if inNormal b s then answer .ok (joinQueue b .priority s) else answer .already s
  | .starting => answer .already s
  | .online => answer .already s
  | .faulted => answer .faultLatched s
  | .empty => answer .noDrive s
  | .seating => answer .refusedState s
  | .cycling => answer .refusedState s
  | .test => answer .refusedState s

/-- POWER_ON. -/
def execPowerOn (s : State) : StepResult :=
  serveCode 0x0110 1 (fun p f s => withBay f s (fun b => powerOnBay p b s)) s

/-- A bay arrives in OFF, with the requester as its holder when the hold flag is set (R31). -/
def arriveOff (p : UpPort) (flag : Bool) (b : Bay) (s : State) : State :=
  modBay b (fun r => { r with state := .off, cycleTimer := none, hold := if flag then some p else none }) s

/-- The effect of POWER_OFF on a bay (R31). -/
def powerOffBay (p : UpPort) (flag : Bool) (b : Bay) (s : State) : State × Reply :=
  match s.bays[b].state with
  | .queued => answer .ok (arriveOff p flag b (leaveQueue b s))
  | .starting => answer .ok (arriveOff p flag b (leavePower b s))
  | .online => answer .ok (arriveOff p flag b (leavePower b s))
  | .cycling => answer .ok (arriveOff p flag b s)
  | .off =>
    if flag then
      match s.bays[b].hold with
      | none => answer .ok (arriveOff p true b s)
      | some h => if h = p then answer .already s else answer .held s
    else answer .already s
  | .faulted => answer .faultLatched s
  | .empty => answer .noDrive s
  | .seating => answer .refusedState s
  | .test => answer .refusedState s

/-- POWER_OFF: the hold flag reads 0 as clear and any other value as set (R200). -/
def execPowerOff (s : State) : StepResult :=
  serveCode 0x0111 2 (fun p f s => withBay f s (fun b => powerOffBay p (decide (arg f 1 ≠ 0)) b s)) s

/-- A bay with power moves to CYCLING for an off time (R32). -/
def startCycle (units : Nat) (b : Bay) (s : State) : State :=
  modBay b (fun r => { r with state := .cycling, cycleTimer := some (s.now + 100 * units) }) (leavePower b s)

/-- The effect of POWER_CYCLE on a bay (R32); an off time of 0 is taken as 1. -/
def powerCycleBay (units : Nat) (b : Bay) (s : State) : State × Reply :=
  match s.bays[b].state with
  | .starting => answer (okOr (decide (units = 0))) (startCycle (max 1 units) b s)
  | .online => answer (okOr (decide (units = 0))) (startCycle (max 1 units) b s)
  | .faulted => answer .faultLatched s
  | .empty => answer .noDrive s
  | .seating => answer .refusedState s
  | .off => answer .refusedState s
  | .queued => answer .refusedState s
  | .cycling => answer .refusedState s
  | .test => answer .refusedState s

/-- POWER_CYCLE: the off time is read from the low byte of its word (R200). -/
def execPowerCycle (s : State) : StepResult :=
  serveCode 0x0112 2 (fun _ f s => withBay f s (fun b => powerCycleBay ((arg f 1).toNat % 256) b s)) s

/-- The effect of CLEAR_FAULT on a bay (R34). -/
def clearFaultBay (b : Bay) (s : State) : State × Reply :=
  match s.bays[b].state with
  | .faulted => answer .ok (modBay b (fun r => { r with state := .off, fault := none, hold := none }) s)
  | .empty => answer .noDrive s
  | _ => answer .refusedState s

/-- CLEAR_FAULT. -/
def execClearFault (s : State) : StepResult :=
  serveCode 0x0113 1 (fun _ f s => withBay f s (fun b => clearFaultBay b s)) s

/-! ### Bay policy -/

/-- The six settings of SET_BAY_POLICY (R40). -/
structure PolicySettings where
  policy : Policy
  cls : ClassNo
  zone : Zone
  retries : Nat
  oc : Bool
  ot : Bool
  deriving DecidableEq, Repr

/-- Write the six settings to a record. -/
def writePolicy (x : PolicySettings) (r : BayRecord) : BayRecord :=
  { r with policy := x.policy, cfgClass := x.cls, cfgZone := x.zone, retriesSetting := x.retries, ocProt := x.oc,
           otProt := x.ot }

/-- The effect of SET_BAY_POLICY (R40); a QUEUED bay in the set brings an attempt (R56). -/
def setBayPolicy (_p : UpPort) (f : Frame) (s : State) : State × Reply :=
  let bset := arg f 0
  match twoValued (arg f 1), twoValued (arg f 5), twoValued (arg f 6) with
  | some manual, some oc, some ot =>
    if emptySet bset then (s, badRequest)
    else
      match identifier 8 (arg f 2), identifier 4 (arg f 3) with
      | some cls, some zone =>
        let retries := (arg f 4).toNat
        let x : PolicySettings := ⟨if manual then .manual else .auto, cls, zone, min retries 3, oc, ot⟩
        let s' := modBays (inSet bset) (writePolicy x) s
        let anyQueued := allBays.any (fun b => inSet bset b && decide (s.bays[b].state = .queued))
        (if anyQueued then ask s' else s', ⟨okOr (decide (3 < retries)), []⟩)
      | _, _ => (s, outOfRange)
  | _, _, _ => (s, badRequest)

/-- SET_BAY_POLICY. -/
def execSetBayPolicy (s : State) : StepResult := serveCode 0x0114 7 setBayPolicy s

/-! ### Reading the bays (R42, R18) -/

/-- The time left of the start window or the cycle timer, in 100 ms rounded up. -/
def bayTimerWord (s : State) (r : BayRecord) : Word :=
  match r.startTimer, r.cycleTimer with
  | some t, _ => wNat (timeLeft 100 s.now t)
  | none, some t => wNat (timeLeft 100 s.now t)
  | none, none => wAbsent

/-- The spin-up queue class and position of a bay, counted from the front. -/
def queuePlace (b : Bay) : Nat → List QueueEntry → List Word
  | _, [] => [wAbsent, wAbsent]
  | k, e :: rest => if e.bay = b then [wQueueClass e.cls, wNat k] else queuePlace b (k + 1) rest

/-- The words of an identity in a response: two, bytes 0 to 3 first, and two absent words when it is absent. R42 and R200 do
not lay the eight bytes out (DESIGN CHOICE, unsafe: log entry 20). -/
def identityWords : Option (BitVec 64) → List Word
  | none => [wAbsent, wAbsent]
  | some i => [i.extractLsb' 32 32, i.extractLsb' 0 32]

/-- The fault cause a prior state keeps. -/
def keptCause : Option Prior → Option FaultCause
  | some (.faulted c) => some c
  | _ => none

/-- The logical value of PWR: OFF 0, ON 1. -/
def pwrWord (b : Bay) (s : State) : Word := wBool (enabled b s)

/-- The seating debounce timer that runs for a bay: its own, or the one its scan group shares (R9, R12; log entry 13). -/
def seatingTimer (b : Bay) (s : State) : Option Nat :=
  if s.line.bays[b].inGroup then s.line.groupTimer else s.line.bays[b].debounce

/-- The line-interface items of READ_BAY (R18). -/
def lineWords (b : Bay) (s : State) : List Word :=
  let u := s.line.bays[b]
  [wLevel u.record.prsActive, wPolarity u.record.pwrPol, wPolarity u.record.laPol, wDrive u.record.laDrive,
    wPolarity u.record.lbPol, wDrive u.record.lbDrive, wPresence u.presence, pwrWord b s, wLight (laValue b s),
    wLight (lbValue b s), wOpt (fun t => wNat (timeLeft 100 s.now t)) (seatingTimer b s), wBool u.inGroup,
    wLight u.preloadLA, wLight u.preloadLB, wNat u.edges]

/-- The items READ_BAY and READ_BAYS share, in the order of R42's table. -/
def bayHeadWords (r : BayRecord) : List Word :=
  [wState r.state, wPolicy r.policy, wNat r.cfgClass.val, wNat r.cfgZone.val, wOpt (fun c => wNat c.val) r.chargedClass,
    wOpt (fun z => wNat z.val) r.activeZone, wCause r.fault, wOpt (fun p => wPort (.up p)) r.hold]

/-- The data of READ_BAY (R42). -/
def bayWords (b : Bay) (s : State) : List Word :=
  let r := s.bays[b]
  bayHeadWords r
    ++ [wNat r.retriesSetting, wNat r.retriesLeft, wOpt wAddr r.driveAddr, wOpt (fun c => wNat c.val) r.declClass,
        wOpt (fun x => wNat x.val) r.profile]
    ++ identityWords r.identity
    ++ [wOpt wPrior r.prior, wOpt wFault (keptCause r.prior), wBool r.ocProt, wBool r.otProt, bayTimerWord s r,
        wNat s.power.charge[b]]
    ++ queuePlace b 0 s.power.queue ++ lineWords b s

/-- READ_BAY (R42). -/
def execReadBay (s : State) : StepResult :=
  serveRead 0x0102 1 (fun _ f s =>
    match identifier 16 (arg f 0) with
    | none => outOfRange
    | some b => ⟨.ok, bayWords b s⟩) s

/-- A bay's entry in READ_BAYS (R42, R18). -/
def bayShortWords (s : State) (b : Bay) : List Word :=
  let r := s.bays[b]
  bayHeadWords r ++ [wOpt wAddr r.driveAddr, wNat s.power.charge[b], wPresence s.line.bays[b].presence]

/-- READ_BAYS (R42): the sixteen entries, then the debounce and night dim settings (R18). -/
def execReadBays (s : State) : StepResult :=
  serveRead 0x0103 0 (fun _ _ s =>
    ⟨.ok, allBays.flatMap (bayShortWords s) ++ [wNat s.line.debounceSetting, wBool s.light.dim]⟩) s

end Sys2Proof.Machine
end

