-- ==== Sys2Proof/Machine/Power.lean ====
section
/-!
DEFINITION. Machine/Power.lean: the commands of chapter 3, power admission.
-/
namespace Sys2Proof.Machine

/-- STAGGER_EXPIRY (R59): the running stagger timer stops at its end, and an attempt follows. -/
def execStaggerExpiry (s : State) : StepResult :=
  match s.power.stagger with
  | none => .next s
  | some t => .next (settle (ask (advance t { s with power := { s.power with stagger := none } })))

/-! ### Overcurrent protection (R60 to R63) -/

/-- The sense input of a bay. -/
def setSense (b : Bay) (v : Bool) (s : State) : State :=
  { s with power := { s.power with ocIn := put s.power.ocIn b v } }

/-- OC_CONDITION_ASSERTED (R61, R63): an evaluated bay's filter goes from CLEAR to TIMING; the input of any other bay is
not evaluated. -/
def execOcConditionAsserted (b : Bay) (s : State) : StepResult :=
  let t := setSense b true s
  if powered s.bays[b].state && decide (s.power.ocFilter[b] = .clear) then
    .next (settle (setFilter b (.timing (s.now + s.power.ocSetting[b])) t))
  else .next (settle t)

/-- OC_CONDITION_LAPSED (R61, R63): the filter is CLEAR again. -/
def execOcConditionLapsed (b : Bay) (s : State) : StepResult :=
  .next (settle (setFilter b .clear (setSense b false s)))

/-- The persistence of R62: OVERCURRENT is latched, and a trip is sent when protection is ENABLED. -/
def persist (b : Bay) (s : State) : State :=
  let s := latchBay b .overcurrent (setFilter b .persisted s)
  if s.bays[b].ocProt then modBay b (fun r => { r with ocTrip := true }) s else s

/-- OC_FILTER_EXPIRY (R61, R62): a TIMING filter of an evaluated bay reaches its end time. -/
def execOcFilterExpiry (b : Bay) (s : State) : StepResult :=
  match s.power.ocFilter[b], powered s.bays[b].state with
  | .timing t, true => .next (settle (persist b (advance t s)))
  | _, _ => .next s

/-- The filter values SET_OC_FILTER may carry (R60). -/
def ocFilterValues : List Nat := [1, 5, 10, 50]

/-- The effect of SET_OC_FILTER (R60). -/
def setOcFilter (_p : UpPort) (f : Frame) (s : State) : State × Reply :=
  let bset := arg f 0
  let v := (arg f 1).toNat
  if emptySet bset || !ocFilterValues.contains v then (s, badRequest)
  else
    let setting := tab (fun b => if inSet bset b then v else s.power.ocSetting[b])
    ({ s with power := { s.power with ocSetting := setting } }, ⟨.ok, []⟩)

/-- SET_OC_FILTER. -/
def execSetOcFilter (s : State) : StepResult := serveCode 0x0133 2 setOcFilter s

/-! ### The ceiling, the stagger and the classes -/

/-- SET_CEILING's two cases, on the clamped value V against the committed draw C (R48). -/
def applyCeiling (v : Nat) (s : State) : State :=
  let c := committed s
  if c ≤ v then
    let s' := { s with power := { s.power with live := v, pendingCeiling := none } }
    if s.power.live < v then ask s' else s'
  else { s with power := { s.power with live := c, pendingCeiling := some v } }

/-- The committed draw that SET_CEILING reports (R48); a free value decides between the draw before and after the
admission that the rise brings, where the two differ (log entry 8). -/
def reportedDraw (s : State) : Nat :=
  let before := committed s
  let after := committed (attemptIfAsked s)
  if before = after then before else if Config.ceilingReportsAfterAttempt then after else before

/-- The effect of SET_CEILING (R48). -/
def setCeiling (_p : UpPort) (f : Frame) (s : State) : State × Reply :=
  let n := (arg f 0).toNat
  let v := clamp 100 4000 n
  let s := applyCeiling v s
  (s, ⟨okOr (decide (v ≠ n)), [wNat s.power.live, wOpt wNat s.power.pendingCeiling, wNat (reportedDraw s)]⟩)

/-- SET_CEILING. -/
def execSetCeiling (s : State) : StepResult := serveCode 0x0130 1 setCeiling s

/-- The effect of SET_STAGGER (R54); a rise of the effective limit brings an attempt (R53, R56). -/
def setStagger (_p : UpPort) (f : Frame) (s : State) : State × Reply :=
  let n := (arg f 0).toNat
  let k := (arg f 1).toNat
  let n' := min n 150
  let k' := clamp 1 8 k
  let s' := { s with power := { s.power with staggerSetting := n', limit := k' } }
  (if effectiveLimit s < effectiveLimit s' then ask s' else s',
    ⟨okOr (decide (n' ≠ n) || decide (k' ≠ k)), [wNat n', wNat k', wNat (effectiveLimit s')]⟩)

/-- SET_STAGGER. -/
def execSetStagger (s : State) : StepResult := serveCode 0x0131 2 setStagger s

/-- The effect of LOAD_CLASS (R44): an attempt follows whatever the values. -/
def loadClass (_p : UpPort) (f : Frame) (s : State) : State × Reply :=
  match identifier 8 (arg f 0) with
  | none => (s, outOfRange)
  | some c =>
    let a := (arg f 1).toNat
    let r := (arg f 2).toNat
    let w := (arg f 3).toNat
    let new : ClassRecord := ⟨min a 1000, min r 1000, clamp 10 200 w⟩
    (ask { s with power := { s.power with classes := put s.power.classes c new } },
      ⟨okOr (decide (new ≠ ⟨a, r, w⟩)),
        [wNat c.val, wNat new.startDraw, wNat new.runDraw, wNat new.startWindow]⟩)

/-- LOAD_CLASS. -/
def execLoadClass (s : State) : StepResult := serveCode 0x0132 4 loadClass s

/-! ### READ_POWER (R64) -/

/-- The words of a class record. -/
def classWords (c : ClassRecord) : List Word := [wNat c.startDraw, wNat c.runDraw, wNat c.startWindow]

/-- The words of a queue entry. -/
def entryWords (e : QueueEntry) : List Word := [wNat e.bay.val, wQueueClass e.cls]

/-- The data of READ_POWER, in R64's order. -/
def powerWords (s : State) : List Word :=
  let p := s.power
  [wNat p.live, wOpt wNat p.pendingCeiling, wNat (strappedCeiling s.budStrap), wNat (committed s)]
    ++ p.charge.toList.map wNat
    ++ [wNat p.queue.length] ++ p.queue.flatMap entryWords
    ++ [wNat (startingCount s), wNat p.limit, wNat (effectiveLimit s), wNat (weakZones s), wNat p.staggerSetting,
        wOpt (fun t => wNat (timeLeft 100 s.now t)) p.stagger, wZones p.blocked]
    ++ p.classes.toList.flatMap classWords
    ++ allBays.flatMap (fun b => [wNat p.ocSetting[b], wFilter p.ocFilter[b]])

/-- READ_POWER. -/
def execReadPower (s : State) : StepResult := serveRead 0x0134 0 (fun _ _ s => ⟨.ok, powerWords s⟩) s

end Sys2Proof.Machine
end

