-- ==== Sys2Proof/Machine/Forward.lean ====
section
/-!
DEFINITION. Machine/Forward.lean: the commands of chapter 4, frame forwarding, with the judging of HELLOs (R27 to R29,
R97, R98), the learning of addresses (R94 to R96) and the warm restart (R178) that they bring about.
-/
namespace Sys2Proof.Machine

/-! ### Learning (R94 to R96) -/

/-- The number of the static slot that holds an address, counted from 0, with the port it names. -/
def staticHolding (a : Addr) (s : State) : Option (Fin 30 × Port) :=
  (List.finRange 30).findSome? (fun i =>
    match s.route.statics[i] with
    | some x => if x.addr = a then some (i, x.port) else none
    | none => none)

/-- The learning write of address `a` in the slot of port `p`: a static slot holding `a` is retired, the displacement
note is written and ROUTE_DISPLACED is latched; otherwise the note is absent (R95, R96). -/
def learn (p : Port) (a : Addr) (s : State) : State :=
  match staticHolding a s with
  | none => { s with route := { s.route with learned := put s.route.learned (portIdx p) (some ⟨a, none⟩) } }
  | some (i, q) =>
    let slot := 18 + i.val
    latchEncl .routeDisplaced slot
      { s with route :=
        { learned := put s.route.learned (portIdx p) (some ⟨a, some ⟨slot, q⟩⟩)
          statics := put s.route.statics i none } }

/-- A valid learned slot other than that of `own` holds `a`. -/
def learnedElsewhere (own : Port) (a : Addr) (s : State) : Bool :=
  portsInOrder.any (fun p => decide (p ≠ own) && (match s.route.learned[portIdx p] with
    | some l => decide (l.addr = a)
    | none => false))

/-- The address test of R28, R29 and R98 fails: another valid learned slot holds `a`, or it is the switch address. -/
def addressTaken (own : Port) (a : Addr) (s : State) : Bool :=
  decide (a = switchAddr s) || learnedElsewhere own a s

/-! ### Drive hellos (R27 to R29) -/

/-- The run draw of a class as the table holds it. -/
def runDraw (c : ClassNo) (s : State) : Nat := s.power.classes[c].runDraw

/-- The budget test fails: the committed draw with this bay's charge taken out and the declared run draw put in is
above the live ceiling (R28, R29, R45). -/
def overBudget (b : Bay) (c : ClassNo) (s : State) : Bool :=
  decide (s.power.live < committed s - s.power.charge[b] + runDraw c s)

/-- A HELLO refused by the bay controller's tests: the bay leaves power and is FAULTED, the event is latched (R28, R29),
and the frame is counted as discarded on its port (R70, R88; log entry 9). The event is latched after a CEILING_REACHED
(DESIGN CHOICE, unsafe: log entry 22). -/
def refuseHello (b : Bay) (cause : FaultCause) (k : BayEvent) (s : State) : State :=
  count (.bay b) .discarded 1 (latchBay b k (faultBay b cause s))

/-- What an accepted HELLO stores (R28, R29). -/
def storeHello (a : Announcement) (r : BayRecord) : BayRecord :=
  { r with chargedClass := some a.cls, driveAddr := some a.addr, declClass := some a.cls, profile := some a.profile,
           identity := some a.identity }

/-- Acceptance in STARTING (R28, step 3), in the order of its list, which also orders its latches (log entry 22). -/
def acceptStart (b : Bay) (a : Announcement) (s : State) : State :=
  let draw := runDraw a.cls s
  let s := modBay b (fun r => { storeHello a r with state := .online, startTimer := none }) s
  let s := learn (.bay b) a.addr (setCharge b draw s)
  ask (latchBay b .online (modTherm b (fun _ => ⟨none, 0, 65535, 0, 0⟩) s))

/-- A screened HELLO taken in STARTING (R28). -/
def helloStarting (b : Bay) (a : Announcement) (s : State) : State :=
  if addressTaken (.bay b) a.addr s then refuseHello b .addressConflict .addressConflict s
  else if overBudget b a.cls s then refuseHello b .overbudget .overbudget s
  else acceptStart b a s

/-- Acceptance in ONLINE: a refresh keeps the learned slot, a move rewrites it (R29, R94). -/
def acceptOnline (move : Bool) (b : Bay) (a : Announcement) (s : State) : State :=
  let s := setCharge b (runDraw a.cls s) (modBay b (storeHello a) s)
  if move then learn (.bay b) a.addr s else s

/-- A screened HELLO taken in ONLINE (R29). -/
def helloOnline (b : Bay) (a : Announcement) (s : State) : State :=
  let move := decide (s.bays[b].driveAddr ≠ some a.addr)
  if move && addressTaken (.bay b) a.addr s then refuseHello b .addressConflict .addressConflict s
  else if overBudget b a.cls s then refuseHello b .overbudget .overbudget s
  else acceptOnline move b a s

/-- A HELLO handed to the bay controller (R27). -/
def helloAtBay (b : Bay) (f : Frame) (s : State) : State :=
  match screenDriveHello f with
  | none => count (.bay b) .discarded 1 s
  | some a =>
    match s.bays[b].state with
    | .starting => helloStarting b a s
    | .online => helloOnline b a s
    | _ => s

/-! ### Controller hellos (R97, R98) -/

/-- A HELLO handed to the route table. -/
def helloAtUp (p : UpPort) (f : Frame) (s : State) : State :=
  match screenControllerHello f with
  | none => count (.up p) .discarded 1 s
  | some a =>
    if (s.route.learned[portIdx (.up p)]).map Learned.addr = some a then s
    else if addressTaken (.up p) a s then count (.up p) .discarded 1 s
    else learn (.up p) a s

/-! ### Arrival (R68 to R72) -/

/-- Route lookup: the port of the valid slot that holds the address (R92). -/
def lookup (a : Addr) (s : State) : Option Port :=
  match portsInOrder.find? (fun p => (s.route.learned[portIdx p]).map Learned.addr = some a) with
  | some p => some p
  | none => (staticHolding a s).map Prod.snd

/-- The path tests of R72 for a frame from `p` to `q`: the status that answers it, if one fails. -/
def pathRefusal (p q : Port) (s : State) : Option StatusCode :=
  match q with
  | .bay b =>
    match p with
    | .bay _ => some .noPath
    | .up _ => if s.bays[b].state = .online then none else some .bayNotReady
  | .up u => if s.fwd.up[upIdx u].linkUp then none else some .noPath

/-- Route lookup and its outcomes, in R72's order. -/
def routeFrame (p : Port) (f : Frame) (s : State) : State :=
  match lookup f.dest s with
  | none => refuseFrame .unknownDestination p f s
  | some q =>
    if q = p then count p .reflected 1 s
    else match pathRefusal p q s with
      | some code => refuseFrame code p f s
      | none => if queueRoom q s then place p q f s else enterSlot p q f s

/-- Management intake (R71, R164). -/
def intake (p : UpPort) (f : Frame) (s : State) : State :=
  if (s.mgmt.requests[upIdx p]).length < Config.requestQueueSize then pushRequest p f s
  else refuseFrame .mgmtBusy (.up p) f s

/-- Classification (R70): the first row that matches. -/
def classify (p : Port) (f : Frame) (s : State) : State :=
  if f.kind = .hello then
    match p with
    | .bay b => helloAtBay b f s
    | .up u => helloAtUp u f s
  else if f.kind = .mgmtReq ∧ f.dest = switchAddr s then
    match p with
    | .bay _ => refuseFrame .notManaged p f s
    | .up u => intake u f s
  else routeFrame p f s

/-- A frame that the port takes in: tested, then classified (R69, R70). -/
def takeIn (p : Port) (bytes : List Byte) (s : State) : State :=
  match parseFrame bytes with
  | none => count p .badCheck 1 s
  | some f => classify p f s

/-- The frame stays outside the part: an upstream port that is DOWN takes in none (R67), and a port whose wait slot is
occupied is paused, and its link holds the next frame back (R69). -/
def heldBack (p : Port) (s : State) : Bool :=
  (match p with
    | .bay b => enabled b s
    | .up _ => true) && (s.fwd.waiting[portIdx p]).isSome
  || (match p with
    | .bay _ => false
    | .up u => !s.fwd.up[upIdx u].linkUp)

/-- The link of a paused bay port holds the frame back behind the wait slot (R69): it is taken in by a later arrival once the
slot has emptied by placement or timeout, and lost when the port is flushed first (R196). The loss of an upstream link takes the
frame that it holds back with it, outside the part. -/
def holdNext (p : Port) (s : State) : State :=
  match p with
  | .bay b => { s with fwd := { s.fwd with
      waiting := upd s.fwd.waiting (portIdx (.bay b)) (Option.map fun w => { w with behind := true }) } }
  | .up _ => s

/-- A whole frame stands at a port: one on a disabled bay port is discarded and counted, without a check (R68). The port is
judged as it stands when the frame is taken, so a HELLO that comes after a start window expiry whose bay was admitted again in
the same step meets an enabled port, where R26 speaks of a disabled one (DEDUCED, unsafe: log entry 23). -/
def arrive (p : Port) (bytes : List Byte) (s : State) : State :=
  match p with
  | .bay b => if enabled b s then takeIn p bytes s else count p .discarded 1 s
  | .up _ => takeIn p bytes s

/-- The step of an arrival. -/
def arrival (p : Port) (bytes : List Byte) (s : State) : StepResult :=
  if heldBack p s then .next (holdNext p s) else .next (settle (arrive p bytes s))

/-- FRAME_ARRIVAL. -/
def execFrameArrival (p : Port) (bytes : List Byte) (s : State) : StepResult := arrival p bytes s

/-- DRIVE_HELLO: a HELLO arrives on a bay port. -/
def execDriveHello (b : Bay) (bytes : List Byte) (s : State) : StepResult := arrival (.bay b) bytes s

/-- CONTROLLER_HELLO: a HELLO arrives on an upstream port. -/
def execControllerHello (p : UpPort) (bytes : List Byte) (s : State) : StepResult := arrival (.up p) bytes s

/-- MANAGEMENT_INTAKE: a MGMT_REQ for the switch arrives on an upstream port. -/
def execManagementIntake (p : UpPort) (bytes : List Byte) (s : State) : StepResult := arrival (.up p) bytes s

/-! ### Transmission (R76, R77, R82, R190) -/

/-- The frame becomes the port's frame in transmission. -/
def setTransmitting (p : Port) (h : Held) (s : State) : State :=
  { s with fwd := { s.fwd with transmitting := put s.fwd.transmitting (portIdx p) (some h) } }

/-- The pending restart's response has moved on (R176). -/
def setPhase (x : RestartPhase) (h : Held) (s : State) : State :=
  if h.origin = .restart then { s with mgmt := { s.mgmt with restart := s.mgmt.restart.map (fun r => { r with phase := x }) } }
  else s

/-- The held response of a port takes the place that opened in its priority queue (R82, R170). -/
def placeHeld (p : UpPort) (s : State) : State :=
  match s.mgmt.held with
  | none => s
  | some h =>
    if h.port = p && priorityRoom p s then
      setPhase .queued h.response (pushPriority p h.response { s with mgmt := { s.mgmt with held := none } })
    else s

/-- The overflow item of a NOTICE is completed at the start of its transmission, and the port's flag is cleared (R190). -/
def completeNotice (p : UpPort) (h : Held) (s : State) : Held × State :=
  if h.frame.kind = .notice then
    (⟨withOverflow h.frame s.ev.overflow[upIdx p], h.origin⟩,
      { s with ev := { s.ev with overflow := put s.ev.overflow (upIdx p) false } })
  else (h, s)

/-- A transmission from the priority queue starts, and the place it opens is filled (R76, R82). -/
def startPriority (p : UpPort) (h : Held) (rest : List Held) (arb : Nat) (s : State) : State :=
  let x := completeNotice p h (modUp p (fun u => { u with priority := rest, arbiter := arb }) s)
  placeHeld p (setPhase .transmitting x.1 (setTransmitting (.up p) x.1 x.2))

/-- A transmission from the normal queue starts, and the place it opens is filled (R76, R79). -/
def startNormal (p : UpPort) (h : Held) (rest : List Held) (s : State) : State :=
  fillPlace (.up p) (setTransmitting (.up p) h (modUp p (fun u => { u with normal := rest, arbiter := 0 }) s))

/-- The upstream transmit arbiter's choice (R77). -/
def startUp (p : UpPort) (s : State) : Option State :=
  let u := s.fwd.up[upIdx p]
  if u.linkUp then
    match u.priority, u.normal with
    | [], [] => none
    | h :: rest, [] => some (startPriority p h rest 0 s)
    | [], h :: rest => some (startNormal p h rest s)
    | h :: rest, h' :: rest' =>
      if u.arbiter < 4 then some (startPriority p h rest (u.arbiter + 1) s) else some (startNormal p h' rest' s)
  else none

/-- A bay port starts with the front of its egress queue (R76). -/
def startBay (b : Bay) (s : State) : Option State :=
  if enabled b s then
    match s.fwd.bayQueue[b] with
    | [] => none
    | h :: rest =>
      some (fillPlace (.bay b) (setTransmitting (.bay b) h
        { s with fwd := { s.fwd with bayQueue := put s.fwd.bayQueue b rest } }))
  else none

/-- A transmission that can start on a port (R76); `none` when none can. -/
def startTransmission (p : Port) (s : State) : Option State :=
  match s.fwd.transmitting[portIdx p] with
  | some _ => none
  | none =>
    match p with
    | .bay b => startBay b s
    | .up u => startUp u s

/-- TRANSMISSION_START. -/
def execTransmissionStart (p : Port) (s : State) : StepResult :=
  match startTransmission p s with
  | none => .next s
  | some s' => .next (settle s')

/-! ### The warm restart (R178) -/

/-- A warm restart takes place: what each block clears (R38, R89, R104, R179, R192). Everything else is kept. -/
def restartNow (s : State) : State :=
  { s with
    fwd := { s.fwd with
      up := tab (fun p => { s.fwd.up[p] with normal := [], priority := [], arbiter := 0 })
      bayQueue := tab fun _ => []
      transmitting := tab fun _ => none
      waiting := tab fun _ => none
      counters := tab fun _ => tab fun _ => 0 }
    route := { s.route with statics := tab fun _ => none }
    mgmt := { requests := tab fun _ => [], lastServed := .u1, held := none, restart := none }
    ev := { s.ev with
      subscribed := tab fun _ => false
      notices := tab fun _ => []
      overflow := tab fun _ => false }
    bays := tab (fun b => { s.bays[b] with hold := none }) }

/-- TRANSMISSION_COMPLETE (R76, R177): the response a pending restart waits on brings the restart. -/
def execTransmissionComplete (p : Port) (s : State) : StepResult :=
  match s.fwd.transmitting[portIdx p] with
  | none => .next s
  | some h =>
    let s := { s with fwd := { s.fwd with transmitting := put s.fwd.transmitting (portIdx p) none } }
    .next (settle (if h.origin = .restart && s.mgmt.restart.isSome then restartNow s else s))

/-! ### Timeouts and link state -/

/-- FORWARD_TIMEOUT (R80). -/
def execForwardTimeout (p : Port) (s : State) : StepResult :=
  match s.fwd.waiting[portIdx p] with
  | none => .next s
  | some w =>
    .next (settle (sendStatus .forwardTimeout p w.frame (count p .timedOut 1 (clearSlot p (advance w.endsAt s)))))

/-- LINK_UP (R67, R87). -/
def execLinkUp (p : UpPort) (s : State) : StepResult :=
  if s.fwd.up[upIdx p].linkUp then .next s else .next (settle (modUp p (fun u => { u with linkUp := true }) s))

/-- The forwarding engine's part of a link loss, for the port itself (R86). -/
def dropQueues (p : UpPort) (s : State) : State :=
  let u := s.fwd.up[upIdx p]
  let s := count (.up p) .discarded (u.normal.length + u.priority.length)
    (modUp p (fun u => { u with linkUp := false, normal := [], priority := [], arbiter := 0 }) s)
  dropOwnWait (.up p) (abandon (.up p) s)

/-- The other ports' wait slots for this port's normal queue (R86). -/
def refuseWaiters (p : UpPort) (s : State) : State :=
  ((waitersFor (.up p) s).filter (fun x => x.1 ≠ .up p)).foldl (fun s x => endWait .noPath x s) s

/-- Every hold that names the port is released (R37). -/
def releaseHolds (p : UpPort) (s : State) : State :=
  modBays (fun b => decide (s.bays[b].hold = some p)) (fun r => { r with hold := none }) s

/-- The event unit's part of a link loss, and of ending a subscription (R175, R191). -/
def unsubscribe (p : UpPort) (s : State) : State :=
  { s with ev := { s.ev with
      subscribed := put s.ev.subscribed (upIdx p) false
      notices := put s.ev.notices (upIdx p) []
      overflow := put s.ev.overflow (upIdx p) false } }

/-- The endpoint's part of a link loss (R180), before any restart. -/
def dropRequests (p : UpPort) (s : State) : State :=
  { s with mgmt := { s.mgmt with
      requests := put s.mgmt.requests (upIdx p) []
      held := if holdsFor p s then none else s.mgmt.held } }

/-- The pending restart waits on a response for this port (R177). -/
def restartOn (p : UpPort) (s : State) : Bool :=
  match s.mgmt.restart with
  | none => false
  | some r => decide (r.port = p)

/-- An upstream port goes DOWN: every block's part (R86), then the restart that was pending on it (R177). The NO_PATH of a bay
port's waiting frame joins that bay's queue and makes an activity mark (R86, R74, R83), although R162 says that the loss of a
link changes no activity window: R162 is read as of the loss itself (DEDUCED, unsafe: log entry 21). -/
def loseLink (p : UpPort) (s : State) : State :=
  let pendingHere := restartOn p s
  let s := unsubscribe p (dropRequests p (releaseHolds p (clearLearned (.up p) (refuseWaiters p (dropQueues p s)))))
  if pendingHere then restartNow s else s

/-- LINK_DOWN (R67, R86). -/
def execLinkDown (p : UpPort) (s : State) : StepResult :=
  if s.fwd.up[upIdx p].linkUp then .next (settle (loseLink p s)) else .next s

/-! ### Requests -/

/-- The effect of SET_FORWARD_TIMEOUT (R81). -/
def setForwardTimeout (_p : UpPort) (f : Frame) (s : State) : State × Reply :=
  let n := (arg f 0).toNat
  let v := clamp 1 255 n
  ({ s with fwd := { s.fwd with timeout := v } }, ⟨okOr (decide (v ≠ n)), []⟩)

/-- SET_FORWARD_TIMEOUT. -/
def execSetForwardTimeout (s : State) : StepResult := serveCode 0x0140 1 setForwardTimeout s

/-- The data of READ_COUNTERS: the counters in the port order U0, U1, B0 to B15, then the forward timeout (R174). -/
def counterWords (s : State) : List Word :=
  portsInOrder.flatMap (fun p => (s.fwd.counters[portIdx p]).toList.map wNat) ++ [wNat s.fwd.timeout]

/-- The effect of READ_COUNTERS (R174): with YES, every counter is set to 0 after the values are taken. -/
def readCounters (_p : UpPort) (f : Frame) (s : State) : State × Reply :=
  match twoValued (arg f 0) with
  | none => (s, badRequest)
  | some clear =>
    (if clear then { s with fwd := { s.fwd with counters := tab (fun _ => tab (fun _ => 0)) } } else s,
      ⟨.ok, counterWords s⟩)

/-- READ_COUNTERS. -/
def execReadCounters (s : State) : StepResult := serveCode 0x0141 1 readCounters s

end Sys2Proof.Machine
end

