-- ==== Sys2Proof/Machine/Routes.lean ====
section
/-!
DEFINITION. Machine/Routes.lean: the requests of chapter 5, the route table. Learning stands in Machine/Forward.lean.
-/
namespace Sys2Proof.Machine

/-- A valid slot, learned or static, holds `a`, or `a` is the switch address (R91, R100). -/
def addressUsed (a : Addr) (s : State) : Bool :=
  decide (a = switchAddr s) || (lookup a s).isSome

/-- The lowest-numbered free static slot, counted from 0 (R100). -/
def freeStatic (s : State) : Option (Fin 30) :=
  (List.finRange 30).find? (fun i => (s.route.statics[i]).isNone)

/-- The effect of LOAD_ROUTE, its checks in R100's order. -/
def loadRoute (_p : UpPort) (f : Frame) (s : State) : State × Reply :=
  let a := addrArg (arg f 0)
  match portArg (arg f 1) with
  | none => (s, outOfRange)
  | some q =>
    if addressUsed a s then (s, ⟨.duplicate, []⟩)
    else match freeStatic s with
      | none => (s, ⟨.tableFull, []⟩)
      | some i =>
        ({ s with route := { s.route with statics := put s.route.statics i (some ⟨a, q⟩) } },
          ⟨.ok, [wNat (18 + i.val)]⟩)

/-- LOAD_ROUTE. -/
def execLoadRoute (s : State) : StepResult := serveCode 0x0150 2 loadRoute s

/-- The effect of DROP_ROUTE (R101). -/
def dropRoute (_p : UpPort) (f : Frame) (s : State) : State × Reply :=
  match staticHolding (addrArg (arg f 0)) s with
  | none => (s, ⟨.notFound, []⟩)
  | some (i, _) =>
    ({ s with route := { s.route with statics := put s.route.statics i none } }, ⟨.ok, [wNat (18 + i.val)]⟩)

/-- DROP_ROUTE. -/
def execDropRoute (s : State) : StepResult := serveCode 0x0151 1 dropRoute s

/-- A displacement note: the slot number in byte 2 and the port in byte 3 (R200). -/
def noteWord (n : Note) : Word := wNat (n.slot * 256 + (portIdx n.port).val)

/-- The ports in slot order: the learned slot of B0 to B15, U0, U1 (R90). -/
def portsBySlot : List Port := allBays.map Port.bay ++ [.up .u0, .up .u1]

/-- The entries of the valid learned slots. -/
def learnedEntries (s : State) : List (List Word) :=
  portsBySlot.filterMap (fun p => (s.route.learned[portIdx p]).map (fun l =>
    [wNat (portIdx p).val, 0, wPort p, wAddr l.addr, wOpt noteWord l.note]))

/-- The entries of the valid static slots. -/
def staticEntries (s : State) : List (List Word) :=
  (List.finRange 30).filterMap (fun i => (s.route.statics[i]).map (fun x =>
    [wNat (18 + i.val), 1, wPort x.port, wAddr x.addr, wAbsent]))

/-- The number of free static slots. -/
def freeStatics (s : State) : Nat := s.route.statics.toList.countP Option.isNone

/-- The data of READ_ROUTES (R102). -/
def routeWords (s : State) : List Word :=
  let entries := learnedEntries s ++ staticEntries s
  [wAddr (switchAddr s), wNat (freeStatics s), wNat entries.length] ++ entries.flatten

/-- READ_ROUTES. -/
def execReadRoutes (s : State) : StepResult := serveRead 0x0152 0 (fun _ _ s => ⟨.ok, routeWords s⟩) s

end Sys2Proof.Machine
end

