-- ==== Sys2Proof/Machine/Thermal.lean ====
section
/-!
DEFINITION. Machine/Thermal.lean: the requests of chapter 6, telemetry snooping and the thermal table. The evaluation
of passing frames stands in Machine/Ops.lean, the update period in Machine/Cooling.lean.
-/
namespace Sys2Proof.Machine

/-! ### LOAD_SNOOP_RULE (R107) -/

/-- A snoop kind argument: the frame kind code of DATA or STATUS. -/
def snoopKindArg (w : Word) : Option SnoopKind :=
  match w.toNat with
  | 1 => some .data
  | 2 => some .status
  | _ => none

/-- An encoding argument. -/
def encodingArg (w : Word) : Option Encoding :=
  match w.toNat with
  | 0 => some .signedC
  | 1 => some .offset64C
  | 2 => some .nonzero
  | _ => none

/-- An action argument. -/
def actionArg (w : Word) : Option SnoopAction :=
  match w.toNat with
  | 0 => some .temperature
  | 1 => some .faultHint
  | _ => none

/-- The encoding suits the action (R106). -/
def suits : Encoding → SnoopAction → Bool
  | .nonzero, .faultHint => true
  | .nonzero, .temperature => false
  | _, .temperature => true
  | _, .faultHint => false

/-- The nine fields of a rule. -/
def ruleWords (r : SnoopRule) : List Word :=
  [wBool r.enable, wNat r.profile.val, wSnoopKind r.kind, wNat r.word, r.mask, r.value, wNat r.byte,
    wEncoding r.encoding, wAction r.action]

/-- The effect of LOAD_SNOOP_RULE, its checks in R107's order. -/
def loadSnoopRule (_p : UpPort) (f : Frame) (s : State) : State × Reply :=
  match twoValued (arg f 1), snoopKindArg (arg f 3), encodingArg (arg f 8), actionArg (arg f 9) with
  | some enable, some kind, some encoding, some action =>
    match identifier 8 (arg f 0), identifier 8 (arg f 2) with
    | some n, some profile =>
      if suits encoding action then
        let word := (arg f 4).toNat
        let byte := (arg f 7).toNat
        let r : SnoopRule := ⟨enable, profile, kind, min word 254, arg f 5, arg f 6, min byte 1019, encoding, action⟩
        ({ s with therm := { s.therm with rules := put s.therm.rules n r } },
          ⟨okOr (decide (254 < word) || decide (1019 < byte)), wNat n.val :: ruleWords r⟩)
      else (s, badTable)
    | _, _ => (s, outOfRange)
  | _, _, _, _ => (s, badRequest)

/-- LOAD_SNOOP_RULE. -/
def execLoadSnoopRule (s : State) : StepResult := serveCode 0x0160 10 loadSnoopRule s

/-! ### SET_THRESHOLDS (R117) and SET_SENSOR (R122) -/

/-- The effect of SET_THRESHOLDS: the values are clamped first, then warn is compared with shutdown (R117). -/
def setThresholds (_p : UpPort) (f : Frame) (s : State) : State × Reply :=
  let w := (arg f 0).toInt
  let d := (arg f 1).toInt
  let k := (arg f 2).toNat
  let l := (arg f 3).toNat
  let w' := clampInt 30 110 w
  let d' := clampInt 30 110 d
  let k' := clamp 1 4 k
  let l' := clamp 1 60 l
  if w' < d' then
    let resets := decide (d' ≠ s.therm.shutdown) || decide (k' ≠ s.therm.otFilter)
    let records := if resets then tab (fun b => { s.therm.records[b] with streak := 0 }) else s.therm.records
    ({ s with therm := { s.therm with warn := w', shutdown := d', otFilter := k', staleLimit := l', records := records } },
      ⟨okOr (decide (w' ≠ w) || decide (d' ≠ d) || decide (k' ≠ k) || decide (l' ≠ l)),
        [wInt w', wInt d', wNat k', wNat l']⟩)
  else (s, badTable)

/-- SET_THRESHOLDS. -/
def execSetThresholds (s : State) : StepResult := serveCode 0x0161 4 setThresholds s

/-- The effect of SET_SENSOR (R122); the reading is kept. -/
def setSensor (_p : UpPort) (f : Frame) (s : State) : State × Reply :=
  match twoValued (arg f 3) with
  | none => (s, badRequest)
  | some enable =>
    match identifier 4 (arg f 0), identifier 4 (arg f 1) with
    | some n, some zone =>
      let o := (arg f 2).toInt
      let o' := clampInt (-10) 10 o
      ({ s with therm := { s.therm with
          sensors := upd s.therm.sensors n (fun x => { x with zone := zone, offset := o', enable := enable }) } },
        ⟨okOr (decide (o' ≠ o)), []⟩)
    | _, _ => (s, outOfRange)

/-- SET_SENSOR. -/
def execSetSensor (s : State) : StepResult := serveCode 0x0162 4 setSensor s

/-! ### READ_THERMAL (R123) -/

/-- FRESH 0, STALE 1 for a present reading, absent otherwise. -/
def standingWord (s : State) (b : Bay) : Word :=
  if (s.therm.records[b]).reading.isSome then wBool (!fresh s b) else wAbsent

/-- The words of a bay's thermal record. -/
def thermalBayWords (s : State) (b : Bay) : List Word :=
  let r := s.therm.records[b]
  [wOpt wInt r.reading, standingWord s b, wNat r.age, wNat r.samples, wNat r.bad, wNat r.streak]

/-- The words of a sensor record. -/
def sensorWords (x : Sensor) : List Word := [wNat x.zone.val, wInt x.offset, wBool x.enable, wOpt wInt x.reading]

/-- The data of READ_THERMAL, in R123's order. -/
def thermalWords (s : State) : List Word :=
  [wInt s.therm.warn, wInt s.therm.shutdown, wNat s.therm.otFilter, wNat s.therm.staleLimit]
    ++ allBays.flatMap (thermalBayWords s) ++ [wZones s.therm.hot]
    ++ s.therm.sensors.toList.flatMap sensorWords ++ s.therm.rules.toList.flatMap ruleWords

/-- READ_THERMAL. -/
def execReadThermal (s : State) : StepResult := serveRead 0x0163 0 (fun _ _ s => ⟨.ok, thermalWords s⟩) s

end Sys2Proof.Machine
end

