-- ==== Sys2Proof/Machine/Cooling.lean ====
section
/-!
DEFINITION. Machine/Cooling.lean: the commands of chapter 7, enclosure cooling, with the snooper's part of the update
period (R115, R121).
-/
namespace Sys2Proof.Machine

/-! ### Curves (R128, R129) -/

/-- The curve value above breakpoint `p`, with the breakpoints `rest` after it (R129). -/
def curveFrom : Breakpoint → List Breakpoint → Int → Nat
  | p, [], _ => p.duty
  | p, q :: rest, t =>
    if t < q.temp then p.duty + (q.duty - p.duty) * (t - p.temp).toNat / (q.temp - p.temp).toNat
    else curveFrom q rest t

/-- The curve value of a temperature (R129). A stored curve is never empty (R128). -/
def curveValue (curve : List Breakpoint) (t : Int) : Nat :=
  match curve with
  | [] => 0
  | p :: rest => if t ≤ p.temp then p.duty else curveFrom p rest t

/-! ### Tachometers (R139 to R141) -/

/-- How a closed window is judged (R140). -/
inductive Judgement where
  | low
  | bad
  | good
  deriving DecidableEq, Repr

/-- The rpm of a closed window (R139). -/
def windowRpm (pulses length : Nat) : Nat := pulses * 30000 / length

/-- The judgement of a closed window (R140). -/
def judge (lowFlag : Bool) (rpm stallRpm : Nat) : Judgement :=
  if lowFlag then .low else if rpm < stallRpm then .bad else .good

/-- A run count that goes on; the state turns when it reaches the stall filter (R141). -/
def addToRun (filter : Nat) (r : RotorUnit) : RotorUnit :=
  if filter ≤ r.run + 1 then { r with stalled := !r.stalled, run := 0 } else { r with run := r.run + 1 }

/-- A judgement moves the rotor state and the run count (R141). -/
def moveRotor (filter : Nat) (j : Judgement) (r : RotorUnit) : RotorUnit :=
  match j, r.stalled with
  | .low, _ => r
  | .bad, false => addToRun filter r
  | .bad, true => { r with run := 0 }
  | .good, false => { r with run := 0 }
  | .good, true => addToRun filter r

/-- A rotor's window closes and a new one opens (R139 to R141). -/
def closeRotor (lowFlag : Bool) (length stallRpm filter : Nat) (r : RotorUnit) : RotorUnit :=
  let rpm := windowRpm r.pulses length
  moveRotor filter (judge lowFlag rpm stallRpm) { r with rpm := rpm, pulses := 0 }

/-- A module's state follows the number of its STALLED rotors (R142). -/
def moduleStateOf (a b : Bool) : FanState :=
  match a, b with
  | false, false => .ok
  | true, true => .failed
  | _, _ => .degraded

/-- Both windows of a module close (R139 to R142). -/
def closeModule (length stallRpm filter : Nat) (m : ModuleUnit) : ModuleUnit :=
  let a := closeRotor m.lowWindow length stallRpm filter m.rotorA
  let b := closeRotor m.lowWindow length stallRpm filter m.rotorB
  { m with rotorA := a, rotorB := b, state := moduleStateOf a.stalled b.stalled }

/-- The modules in ascending number. -/
def allModules : List FanModule := [0, 1, 2, 3, 4, 5, 6, 7]

/-- The zones in ascending number. -/
def allZones : List Zone := [0, 1, 2, 3]

/-- The modules that are mapped to a zone. -/
def zoneModules (s : State) (z : Zone) : List ModuleUnit := s.cool.modules.toList.filter (fun m => m.zone = z)

/-- The worse of two states (R143). -/
def worse : FanState → FanState → FanState
  | .failed, _ => .failed
  | _, .failed => .failed
  | .degraded, _ => .degraded
  | _, .degraded => .degraded
  | .ok, .ok => .ok

/-- A zone's state: the worst of its modules' states, OK without modules (R143). -/
def zoneStateOf (s : State) (z : Zone) : FanState := (zoneModules s z).foldl (fun x m => worse x m.state) .ok

/-- The zone states are evaluated again (R143). -/
def refreshZoneStates (s : State) : State :=
  { s with cool := { s.cool with zones := tab (fun z => { s.cool.zones[z] with state := zoneStateOf s z }) } }

/-- Part 1 of the update period: the tach windows close; a changed module state sets its latch, module by module in
ascending number; the zone states follow (R130, R142, R143, R185). -/
def closeWindows (s : State) : State :=
  let c := s.cool
  let new : Vector ModuleUnit 8 := tab (fun m => closeModule c.periodLength c.stallRpm c.stallFilter c.modules[m])
  let changed := allModules.filter (fun (m : FanModule) => decide (new[m].state ≠ c.modules[m].state))
  let s := { s with cool := { c with modules := new } }
  refreshZoneStates (changed.foldl (fun s (m : FanModule) => latchFan new[m].state m s) s)

/-! ### Thermal inputs (part 2: R115, R121) -/

/-- A present reading ages by one update period (R115). -/
def ageRecord (r : ThermalRecord) : ThermalRecord :=
  if r.reading.isSome then { r with age := min 255 (r.age + 1) } else r

/-- What a channel converts to: a temperature in range, or nothing (R121). -/
def convert (c : Option Int) : Option Int :=
  match c with
  | none => none
  | some t => if validTemp t then some t else none

/-- Part 2 of the update period. -/
def thermalInputs (channels : Vector (Option Int) 4) (s : State) : State :=
  { s with therm := { s.therm with
      records := tab (fun b => ageRecord s.therm.records[b])
      sensors := tab (fun n => { s.therm.sensors[n] with reading := convert channels[n] }) } }

/-! ### Zone demand (part 3: R131 to R134) -/

/-- A bay's contribution to a zone (R131). -/
def bayContribution (s : State) (z : Zone) (b : Bay) : Option Nat :=
  if s.bays[b].state = .online ∧ s.bays[b].activeZone = some z then
    match (s.therm.records[b]).reading with
    | none => some s.cool.zones[z].staleFloor
    | some t => if fresh s b then some (curveValue s.cool.zones[z].curve t) else some s.cool.zones[z].staleFloor
  else none

/-- A local sensor's contribution to a zone (R131). -/
def sensorContribution (s : State) (z : Zone) (x : Sensor) : Option Nat :=
  if x.zone = z ∧ x.enable = true then x.reading.map (fun t => curveValue s.cool.zones[z].curve (t + x.offset))
  else none

/-- The contributions of a zone (R131). -/
def contributions (s : State) (z : Zone) : List Nat :=
  allBays.filterMap (bayContribution s z) ++ s.therm.sensors.toList.filterMap (sensorContribution s z)

/-- The base: the largest contribution, or the min duty when there is none (R132). -/
def zoneBase (s : State) (z : Zone) : Nat :=
  match contributions s z with
  | [] => s.cool.zones[z].minDuty
  | c :: cs => cs.foldl max c

/-- The bays that are STARTING with an active zone (R132). -/
def startingIn (s : State) (z : Zone) : Nat :=
  s.bays.toList.countP (fun r => decide (r.state = .starting) && decide (r.activeZone = some z))

/-- The sum of a zone (R132). -/
def zoneSum (s : State) (z : Zone) : Nat := min 1000 (zoneBase s z + s.cool.zones[z].boost * startingIn s z)

/-- R, the rotors a zone has (R133). -/
def rotorCount (s : State) (z : Zone) : Nat := 2 * (zoneModules s z).length

/-- s, the STALLED rotors of a zone (R133). -/
def stalledCount (s : State) (z : Zone) : Nat :=
  ((zoneModules s z).map (fun m => m.rotorA.stalled.toNat + m.rotorB.stalled.toNat)).sum

/-- The compensation of R133 for a zone with rotors, rounded upward. -/
def compensate (sum rotors stalled : Nat) : Nat :=
  if stalled = rotors then 1000 else min 1000 ((sum * rotors + (rotors - stalled - 1)) / (rotors - stalled))

/-- The floor, the slew and the floor again (R134): from the previous output to the new one. -/
def slewOutput (z : ZoneUnit) (target previous : Nat) : Nat :=
  max z.minDuty (if previous < target then min target (previous + z.slewUp) else max target (previous - z.slewDown))

/-- One zone's computation (R131 to R134); a zone without modules keeps its figures and has no output (R133). -/
def computeZone (s : State) (z : Zone) : ZoneUnit :=
  let u := s.cool.zones[z]
  if rotorCount s z = 0 then { u with output := none }
  else
    let sum := zoneSum s z
    let target := max u.minDuty (compensate sum (rotorCount s z) (stalledCount s z))
    { u with base := zoneBase s z, sum := sum, target := target,
             output := some (slewOutput u target (u.output.getD 1000)) }

/-- Write a module's applied duty; a value below 150 sets the low-window flag (R140). -/
def writeDuty (d : Nat) (m : ModuleUnit) : ModuleUnit :=
  { m with duty := d, lowWindow := m.lowWindow || decide (d < 150) }

/-- A module without a running override takes its zone's output (R126, R134). -/
def takeOutput (zones : Vector ZoneUnit 4) (m : ModuleUnit) : ModuleUnit :=
  match m.override, zones[m.zone].output with
  | none, some d => { m with duty := d }
  | _, _ => m

/-- At a window opening the low-window flag follows the applied duty (R140). -/
def openWindow (m : ModuleUnit) : ModuleUnit := { m with lowWindow := decide (m.duty < 150) }

/-- Part 3 of the update period, and the opening of the new windows. -/
def zoneDemand (s : State) : State :=
  let zones := tab (computeZone s)
  { s with cool := { s.cool with
      zones := zones
      modules := tab (fun m => openWindow (takeOutput zones s.cool.modules[m])) } }

/-- The update period timer starts again at once, with the setting as it stands (R130). -/
def restartPeriod (s : State) : State :=
  { s with cool := { s.cool with periodEnd := s.cool.periodEnd + s.cool.period, periodLength := s.cool.period } }

/-- A rise of the effective limit between two states asks for an attempt (R53, R56). -/
def askOnRise (before after : State) : State :=
  if effectiveLimit before < effectiveLimit after then ask after else after

/-- UPDATE_PERIOD (R130): the three parts in order. -/
def execUpdatePeriod (channels : Vector (Option Int) 4) (s : State) : StepResult :=
  let t := advance s.cool.periodEnd s
  .next (settle (askOnRise t (restartPeriod (zoneDemand (thermalInputs channels (closeWindows t))))))

/-! ### Single events -/

/-- Change one module. -/
def modModule (m : FanModule) (f : ModuleUnit → ModuleUnit) (s : State) : State :=
  { s with cool := { s.cool with modules := upd s.cool.modules m f } }

/-- One more pulse in the open window; the count stops at 65535 (R139). -/
def addPulse (r : RotorUnit) : RotorUnit := { r with pulses := min 65535 (r.pulses + 1) }

/-- TACH_PULSE (R139). -/
def execTachPulse (m : FanModule) (r : Rotor) (s : State) : StepResult :=
  match r with
  | .a => .next (settle (modModule m (fun x => { x with rotorA := addPulse x.rotorA }) s))
  | .b => .next (settle (modModule m (fun x => { x with rotorB := addPulse x.rotorB }) s))

/-- OVERRIDE_END (R138): the override becomes absent, and the module keeps its duty. -/
def execOverrideEnd (m : FanModule) (s : State) : StepResult :=
  match s.cool.modules[m].override with
  | none => .next s
  | some o => .next (settle (modModule m (fun x => { x with override := none }) (advance o.endsAt s)))

/-! ### Requests -/

/-- The effect of SET_FAN_OVERRIDE (R137). -/
def setFanOverride (_p : UpPort) (f : Frame) (s : State) : State × Reply :=
  match identifier 8 (arg f 0) with
  | none => (s, outOfRange)
  | some m =>
    let duration := (arg f 2).toNat
    let running := (s.cool.modules[m]).override.isSome
    if duration = 0 then
      if running then (modModule m (fun x => { x with override := none }) s, ⟨.ok, []⟩) else (s, ⟨.already, []⟩)
    else
      let d := (arg f 1).toNat
      let floor := s.cool.zones[s.cool.modules[m].zone].minDuty
      let d' := clamp floor 1000 d
      let t := min duration 600
      (modModule m (fun x => writeDuty d' { x with override := some ⟨d', s.now + 1000 * t⟩ }) s,
        ⟨okOr (decide (d' ≠ d) || decide (t ≠ duration)), []⟩)

/-- SET_FAN_OVERRIDE. -/
def execSetFanOverride (s : State) : StepResult := serveCode 0x0173 3 setFanOverride s

/-- The breakpoints of a LOAD_CURVE request: `n` pairs from argument word `k` on. -/
def breakpointArgs (f : Frame) : Nat → Nat → List Breakpoint
  | 0, _ => []
  | n + 1, k => ⟨(arg f k).toInt, (arg f (k + 1)).toNat⟩ :: breakpointArgs f n (k + 2)

/-- Temperatures strictly ascending (R128). -/
def ascending : List Breakpoint → Bool
  | p :: q :: rest => decide (p.temp < q.temp) && ascending (q :: rest)
  | _ => true

/-- Duties nondecreasing (R128). -/
def nondecreasing : List Breakpoint → Bool
  | p :: q :: rest => decide (p.duty ≤ q.duty) && nondecreasing (q :: rest)
  | _ => true

/-- A curve that passes R128's structure checks. -/
def curveOk (c : List Breakpoint) : Bool :=
  c.all (fun p => validTemp p.temp) && ascending c && c.all (fun p => decide (p.duty ≤ 1000)) && nondecreasing c

/-- The words of a breakpoint. -/
def breakpointWords (p : Breakpoint) : List Word := [wInt p.temp, wNat p.duty]

/-- The effect of LOAD_CURVE, its checks in R128's order; the required length follows from the count (R168). -/
def loadCurve (_p : UpPort) (f : Frame) (s : State) : State × Reply :=
  let n := (arg f 1).toNat
  if f.words < 3 + 2 * n then (s, badRequest)
  else match identifier 4 (arg f 0) with
    | none => (s, outOfRange)
    | some z =>
      let curve := breakpointArgs f n 2
      if 2 ≤ n ∧ n ≤ 6 ∧ curveOk curve = true then
        ({ s with cool := { s.cool with zones := upd s.cool.zones z (fun u => { u with curve := curve }) } },
          ⟨.ok, [wNat z.val, wNat n] ++ curve.flatMap breakpointWords⟩)
      else (s, badTable)

/-- LOAD_CURVE. -/
def execLoadCurve (s : State) : StepResult := serveCode 0x0170 2 loadCurve s

/-- A new min duty raises the module: its applied duty, and its override duty with it (R136). -/
def raiseModule (min : Nat) (m : ModuleUnit) : ModuleUnit :=
  let o := m.override.map (fun o => { o with duty := max o.duty min })
  if m.duty < min then writeDuty min { m with override := o } else { m with override := o }

/-- The effect of SET_ZONE (R136). -/
def setZone (_p : UpPort) (f : Frame) (s : State) : State × Reply :=
  match identifier 4 (arg f 0) with
  | none => (s, outOfRange)
  | some z =>
    let m := min (arg f 1).toNat 1000
    let fl := min (arg f 2).toNat 1000
    let b := min (arg f 3).toNat 500
    let u := clamp 1 1000 (arg f 4).toNat
    let d := clamp 1 1000 (arg f 5).toNat
    let new := fun (x : ZoneUnit) =>
      { x with minDuty := m, staleFloor := fl, boost := b, slewUp := u, slewDown := d, output := x.output.map (max m) }
    let clamped := decide (m ≠ (arg f 1).toNat) || decide (fl ≠ (arg f 2).toNat) || decide (b ≠ (arg f 3).toNat)
      || decide (u ≠ (arg f 4).toNat) || decide (d ≠ (arg f 5).toNat)
    let modules := tab (fun i => if s.cool.modules[i].zone = z then raiseModule m s.cool.modules[i] else s.cool.modules[i])
    ({ s with cool := { s.cool with zones := upd s.cool.zones z new, modules := modules } },
      ⟨okOr clamped, [wNat z.val, wNat m, wNat fl, wNat b, wNat u, wNat d]⟩)

/-- SET_ZONE. -/
def execSetZone (s : State) : StepResult := serveCode 0x0171 6 setZone s

/-- The eight zones of a SET_FAN_MAP request; `none` when one lies outside 0 to 3. -/
def fanMapArg (f : Frame) : Option (Vector Zone 8) :=
  if h : ∀ m : FanModule, (arg f m.val).toNat < 4 then some (tab (fun m => ⟨(arg f m.val).toNat, h m⟩)) else none

/-- A module moves to a zone (R127): without a running override it takes the zone's output; a running override keeps
its duty, raised to the zone's min duty. -/
def moveModule (zones : Vector ZoneUnit 4) (z : Zone) (m : ModuleUnit) : ModuleUnit :=
  if m.zone = z then m
  else match m.override with
    | none => writeDuty (zones[z].output.getD 1000) { m with zone := z }
    | some o =>
      let d := max o.duty zones[z].minDuty
      writeDuty d { m with zone := z, override := some { o with duty := d } }

/-- A zone's output after a new map (R127): absent without modules, 1000 when it gains its first. -/
def mappedOutput (map : Vector Zone 8) (z : Zone) (u : ZoneUnit) : ZoneUnit :=
  if map.toList.contains z then { u with output := some (u.output.getD 1000) } else { u with output := none }

/-- The effect of SET_FAN_MAP (R127, R143). -/
def setFanMap (_p : UpPort) (f : Frame) (s : State) : State × Reply :=
  match fanMapArg f with
  | none => (s, outOfRange)
  | some map =>
    if s.bays.toList.any (fun r => r.state = .starting) then (s, ⟨.refusedState, []⟩)
    else
      let zones := tab (fun z => mappedOutput map z s.cool.zones[z])
      let modules := tab (fun m => moveModule zones map[m] s.cool.modules[m])
      let s' := refreshZoneStates { s with cool := { s.cool with zones := zones, modules := modules } }
      (askOnRise s s', ⟨.ok, []⟩)

/-- SET_FAN_MAP. -/
def execSetFanMap (s : State) : StepResult := serveCode 0x0172 8 setFanMap s

/-- The effect of SET_FAN_TIMING (R144). -/
def setFanTiming (_p : UpPort) (f : Frame) (s : State) : State × Reply :=
  let p := (arg f 0).toNat
  let r := (arg f 1).toNat
  let k := (arg f 2).toNat
  let p' := clamp 250 4000 p
  let r' := min r 20000
  let k' := clamp 1 8 k
  ({ s with cool := { s.cool with period := p', stallRpm := r', stallFilter := k' } },
    ⟨okOr (decide (p' ≠ p) || decide (r' ≠ r) || decide (k' ≠ k)), [wNat p', wNat r', wNat k']⟩)

/-- SET_FAN_TIMING. -/
def execSetFanTiming (s : State) : StepResult := serveCode 0x0174 3 setFanTiming s

/-! ### READ_COOLING (R145) -/

/-- A curve in a READ_COOLING zone entry: always 13 words (R200). -/
def paddedCurve (c : List Breakpoint) : List Word :=
  wNat c.length :: (c.flatMap breakpointWords ++ List.replicate (12 - 2 * c.length) wAbsent)

/-- The words of a zone. -/
def zoneWords (s : State) (z : Zone) : List Word :=
  let u := s.cool.zones[z]
  paddedCurve u.curve
    ++ [wNat u.minDuty, wNat u.staleFloor, wNat u.boost, wNat u.slewUp, wNat u.slewDown, wOpt wNat u.output,
        wNat (rotorCount s z), wNat (stalledCount s z), wFan u.state, wNat u.base, wNat u.sum, wNat u.target]

/-- The words of a module. -/
def moduleWords (now : Nat) (m : ModuleUnit) : List Word :=
  [wNat m.zone.val, wNat m.duty, wFan m.state, wBool m.lowWindow, wOpt (fun o => wNat o.duty) m.override,
    wOpt (fun o => wNat (timeLeft 1000 now o.endsAt)) m.override]

/-- The words of a rotor. -/
def rotorWords (r : RotorUnit) : List Word := [wBool r.stalled, wNat r.run, wNat r.rpm, wNat r.pulses]

/-- The data of READ_COOLING, in R145's order. -/
def coolingWords (s : State) : List Word :=
  [wNat s.cool.period, wNat s.cool.stallRpm, wNat s.cool.stallFilter, wNat (s.cool.periodEnd - s.now)]
    ++ allZones.flatMap (zoneWords s) ++ s.cool.modules.toList.flatMap (moduleWords s.now)
    ++ s.cool.modules.toList.flatMap (fun m => rotorWords m.rotorA ++ rotorWords m.rotorB)

/-- READ_COOLING. -/
def execReadCooling (s : State) : StepResult := serveRead 0x0175 0 (fun _ _ s => ⟨.ok, coolingWords s⟩) s

end Sys2Proof.Machine
end

