-- ==== Sys2Proof/Machine/Lights.lean ====
section
/-!
DEFINITION. Machine/Lights.lean: the commands of chapter 8, bay lights.
-/
namespace Sys2Proof.Machine

/-! ### Events of the sequencer -/

/-- LOCATE_END (R158): a LOCATE flag with an end time becomes absent. -/
def execLocateEnd (b : Bay) (s : State) : StepResult :=
  match (s.light.bays[b]).locate with
  | .until t => .next (settle (modLight b (fun u => { u with locate := .absent }) (advance t s)))
  | _ => .next s

/-- ACTIVITY_WINDOW_END (R154): an open activity window closes. -/
def execActivityWindowEnd (b : Bay) (s : State) : StepResult :=
  match (s.light.bays[b]).window with
  | some t => .next (settle (modLight b (fun u => { u with window := none }) (advance t s)))
  | none => .next s

/-- A pattern of the BLINK form (R148). -/
def blinks (p : Pattern) : Bool := decide (p.onTime ≠ 0) && decide (p.offTime ≠ 0)

/-- The cycle length of a BLINK pattern, in ms (R149). -/
def cycleLength (p : Pattern) : Nat := (p.onTime + p.offTime) * 10

/-- The first turn of a BLINK pattern after the moment `now` (R149): the end of the lit part, or of the cycle. -/
def nextTurn (now : Nat) (p : Pattern) : Nat :=
  let position := (now - p.clock) % cycleLength p
  if position < p.onTime * 10 then now + (p.onTime * 10 - position) else now + (cycleLength p - position)

/-- The moment of a PATTERN_TURN: now, when the output has turned since the lights last took it, else the next turn. -/
def turnMoment (now : Nat) (p : Pattern) : Nat := if patternOutput now p = p.shown then nextTurn now p else now

/-- PATTERN_TURN (R149): the lights that show the pattern take its new output. -/
def execPatternTurn (p : PatternNo) (s : State) : StepResult :=
  if blinks s.light.patterns[p] then .next (settle (advance (turnMoment s.now s.light.patterns[p]) s)) else .next s

/-! ### SET_LIGHT (R157) -/

/-- What a SET_LIGHT request does with a flag. -/
inductive LightAction where
  | leave
  | set
  | clear
  deriving DecidableEq, Repr

/-- A light action argument (R200). -/
def lightActionArg (w : Word) : Option LightAction :=
  match w.toNat with
  | 0 => some .leave
  | 1 => some .set
  | 2 => some .clear
  | _ => none

/-- The action for PREDICTED_FAULT, which has no SET (R157). -/
def clearingArg (w : Word) : Option LightAction :=
  match lightActionArg w with
  | some .set => none
  | a => a

/-- An action on a plain flag. -/
def actOn (a : LightAction) (v : Bool) : Bool :=
  match a with
  | .leave => v
  | .set => true
  | .clear => false

/-- An action on LOCATE, with the duration in seconds that SET reads. -/
def actOnLocate (a : LightAction) (seconds now : Nat) (v : Locate) : Locate :=
  match a with
  | .leave => v
  | .set => if seconds = 0 then .forever else .until (now + 1000 * seconds)
  | .clear => .absent

/-- The four actions of a SET_LIGHT request. -/
structure LightActions where
  locate : LightAction
  controllerFault : LightAction
  rebuild : LightAction
  predictedFault : LightAction
  deriving DecidableEq, Repr

/-- The actions of a request; `none` when one is not listed for its flag. -/
def lightActionsArg (f : Frame) : Option LightActions :=
  match lightActionArg (arg f 1), lightActionArg (arg f 2), lightActionArg (arg f 3), clearingArg (arg f 4) with
  | some l, some c, some r, some p => some ⟨l, c, r, p⟩
  | _, _, _, _ => none

/-- The actions on the flags of one bay. -/
def actOnFlags (a : LightActions) (seconds now : Nat) (u : LightUnit) : LightUnit :=
  { u with locate := actOnLocate a.locate seconds now u.locate
           controllerFault := actOn a.controllerFault u.controllerFault
           rebuild := actOn a.rebuild u.rebuild
           predictedFault := actOn a.predictedFault u.predictedFault }

/-- Change the light flags of the bays that `p` names. -/
def modLights (p : Bay → Bool) (f : LightUnit → LightUnit) (s : State) : State :=
  { s with light := { s.light with bays := tab (fun b => if p b then f s.light.bays[b] else s.light.bays[b]) } }

/-- The word of a LOCATE flag (R200). -/
def wLocate (now : Nat) : Locate → Word
  | .absent => wAbsent
  | .forever => 0
  | .until t => wNat (timeLeft 1000 now t)

/-- The word of a light shown (R200). -/
def wShown : Shown → Word
  | .cause c => wNat c.idx.val
  | .dark => 8
  | .preload => 9

/-- The light report of a bay (R157). -/
def lightWords (s : State) (b : Bay) : List Word :=
  let u := s.light.bays[b]
  [wLocate s.now u.locate, wBool u.controllerFault, wBool u.rebuild, wBool u.predictedFault, wBool u.window.isSome,
    wShown (greenShown b s), wShown (amberShown b s), wLight (laValue b s), wLight (lbValue b s)]

/-- The words of a pattern record. -/
def patternWords (p : Pattern) : List Word := [wNat p.onTime, wNat p.offTime]

/-- The enclosure light settings in the report of SET_LIGHT (R157). -/
def lightSettingWords (s : State) : List Word :=
  [wBool s.light.dim, wNat s.light.hold] ++ s.light.map.toList.map (fun p => wNat p.val)
    ++ s.light.patterns.toList.flatMap patternWords

/-- The effect of SET_LIGHT (R157). -/
def setLight (_p : UpPort) (f : Frame) (s : State) : State × Reply :=
  let bset := arg f 0
  match lightActionsArg f with
  | none => (s, badRequest)
  | some a =>
    if emptySet bset then (s, badRequest)
    else
      let d := (arg f 5).toNat
      let clamped := decide (a.locate = .set) && decide (3600 < d)
      let s' := modLights (inSet bset) (actOnFlags a (min d 3600) s.now) s
      (s', ⟨okOr clamped, [wNat (baysOf bset).length] ++ (baysOf bset).flatMap (lightWords s') ++ lightSettingWords s'⟩)

/-- SET_LIGHT. -/
def execSetLight (s : State) : StepResult := serveCode 0x0180 6 setLight s

/-! ### Patterns, the map and night dim -/

/-- The effect of LOAD_PATTERN (R150): the two times are read from the low bytes of their words (R200), and the
pattern's clock restarts. -/
def loadPattern (_p : UpPort) (f : Frame) (s : State) : State × Reply :=
  match identifier 8 (arg f 0) with
  | none => (s, outOfRange)
  | some p =>
    let on := (arg f 1).toNat % 256
    let off := (arg f 2).toNat % 256
    let new := fun (x : Pattern) => { x with onTime := on, offTime := off, clock := s.now }
    ({ s with light := { s.light with patterns := upd s.light.patterns p new } }, ⟨.ok, [wNat p.val, wNat on, wNat off]⟩)

/-- LOAD_PATTERN. -/
def execLoadPattern (s : State) : StepResult := serveCode 0x0181 3 loadPattern s

/-- The eight patterns of a SET_LIGHT_MAP request; `none` when one lies outside 0 to 7. -/
def lightMapArg (f : Frame) : Option (Vector PatternNo 8) :=
  if h : ∀ c : Fin 8, (arg f c.val).toNat < 8 then some (tab (fun c => ⟨(arg f c.val).toNat, h c⟩)) else none

/-- The effect of SET_LIGHT_MAP (R152). -/
def setLightMap (_p : UpPort) (f : Frame) (s : State) : State × Reply :=
  match lightMapArg f with
  | none => (s, outOfRange)
  | some map =>
    let n := (arg f 8).toNat
    let hold := clamp 20 500 n
    ({ s with light := { s.light with map := map, hold := hold } },
      ⟨okOr (decide (hold ≠ n)), map.toList.map (fun p => wNat p.val) ++ [wNat hold]⟩)

/-- SET_LIGHT_MAP. -/
def execSetLightMap (s : State) : StepResult := serveCode 0x0182 9 setLightMap s

/-- The effect of SET_NIGHT_DIM (R161). -/
def setNightDim (_p : UpPort) (f : Frame) (s : State) : State × Reply :=
  match twoValued (arg f 0) with
  | none => (s, badRequest)
  | some v => ({ s with light := { s.light with dim := v } }, ⟨.ok, [wBool v]⟩)

/-- SET_NIGHT_DIM. -/
def execSetNightDim (s : State) : StepResult := serveCode 0x0183 1 setNightDim s

end Sys2Proof.Machine
end

