-- ==== Sys2Proof/Machine/Mgmt.lean ====
section
/-!
DEFINITION. Machine/Mgmt.lean: the commands of chapter 9 that the management endpoint owns itself.
-/
namespace Sys2Proof.Machine

/-- A request with no code, or with a code that names no request (R168). -/
def unknownRequest (f : Frame) : Bool := decide (f.words = 0) || !knownCodes.contains (requestCode f).toNat

/-- UNKNOWN_REQUEST: it is answered BAD_REQUEST and has no effect (R168). -/
def execUnknownRequest (s : State) : StepResult := serveIf unknownRequest (fun _ _ s => (s, badRequest)) s

/-- The data of READ_IDENT (R173, section 12.4), after the request was taken from its queue. -/
def identWords (p : UpPort) (s : State) : List Word :=
  [wNat Config.vendorCode, wNat Config.partCode, wNat Config.revision, wNat s.addrStrap.toNat, wNat s.budStrap.toNat,
    wAddr (switchAddr s), wNat (strappedCeiling s.budStrap), wPort (.up p),
    wNat (s.mgmt.requests[upIdx .u0]).length, wNat (s.mgmt.requests[upIdx .u1]).length,
    wOpt (fun h => wPort (.up h.port)) s.mgmt.held]

/-- READ_IDENT. -/
def execReadIdent (s : State) : StepResult := serveRead 0x0101 0 (fun p _ s => ⟨.ok, identWords p s⟩) s

/-- The data of SUBSCRIBE (R175): the subscription as it stands, and whether the learned upstream slot is valid. -/
def subscribeWords (p : UpPort) (s : State) : List Word :=
  [wBool s.ev.subscribed[upIdx p], wBool (s.route.learned[portIdx (.up p)]).isSome]

/-- The subscription of a port becomes present. -/
def present (p : UpPort) (s : State) : State :=
  { s with ev := { s.ev with subscribed := put s.ev.subscribed (upIdx p) true } }

/-- The effect of SUBSCRIBE (R175). -/
def subscribe (p : UpPort) (f : Frame) (s : State) : State × Reply :=
  match twoValued (arg f 0), s.ev.subscribed[upIdx p] with
  | none, _ => (s, badRequest)
  | some true, false => (present p s, ⟨.ok, subscribeWords p (present p s)⟩)
  | some true, true => (s, ⟨.already, subscribeWords p s⟩)
  | some false, true => (unsubscribe p s, ⟨.ok, subscribeWords p (unsubscribe p s)⟩)
  | some false, false => (s, ⟨.already, subscribeWords p s⟩)

/-- SUBSCRIBE. -/
def execSubscribe (s : State) : StepResult := serveCode 0x0191 1 subscribe s

/-- Build the response of a WARM_RESTART, set the pending restart that names it, and offer it (R176, R170). -/
def requestRestart (p : UpPort) (req : Frame) (s : State) : State :=
  let h : Held := ⟨responseFrame (switchAddr s) req ⟨.ok, []⟩, .restart⟩
  let phase := if priorityRoom p s then RestartPhase.queued else RestartPhase.held
  offerResponse p h { s with mgmt := { s.mgmt with restart := some ⟨p, phase⟩ } }

/-- WARM_RESTART (R176): no other block changes at its serving. -/
def execWarmRestart (s : State) : StepResult :=
  match nextRequest s with
  | none => .next s
  | some (p, req) =>
    if requestCode req = 0x01F0 then .next (settle (requestRestart p req (takeRequest p s))) else .next s

end Sys2Proof.Machine
end

