-- ==== Sys2Proof/Machine/Events.lean ====
section
/-!
DEFINITION. Machine/Events.lean: READ_EVENTS, the request of chapter 10.
-/
namespace Sys2Proof.Machine

/-- The ALERT line state in a report. Which of the two states is 1 is a free value (log entry 7). -/
def wAlert (asserted : Bool) : Word := wBool (asserted == Config.alertAssertedIsOne)

/-- A set of latches: bit `k` stands for the latch whose code is `k` within its scope, from 1 (section 12.5). -/
def wLatches (v : List Bool) : Word :=
  maskWord (fun k => match k with
    | 0 => false
    | j + 1 => v.getD j false) (v.length + 1)

/-- A set of modules. -/
def wModules (v : Vector Bool 8) : Word := maskWord (fun k => v.toList.getD k false) 8

/-- The report of a bay's latches (R186). -/
def bayEventWords (b : Bay) (s : State) : List Word :=
  [wLatches (s.ev.bayLatches[b]).toList, wState s.bays[b].state, wCause s.bays[b].fault, wAlert s.ev.alert]

/-- The report of the enclosure latches (R186). -/
def enclEventWords (s : State) : List Word :=
  [wLatches s.ev.enclLatches.toList] ++ s.ev.fanSets.toList.map wModules ++ [wBays (anyLatch s.ev), wAlert s.ev.alert]

/-- Clear the ten latches of a bay. -/
def clearBayLatches (b : Bay) (s : State) : State :=
  { s with ev := { s.ev with bayLatches := put s.ev.bayLatches b (tab fun _ => false) } }

/-- Clear the five enclosure latches and empty the three module sets. -/
def clearEnclLatches (s : State) : State :=
  { s with ev := { s.ev with enclLatches := tab (fun _ => false), fanSets := tab (fun _ => tab fun _ => false) } }

/-- The effect of READ_EVENTS (R186): byte 0 of the scope word chooses a bay, numbered in byte 3, or the enclosure
(section 12.4); the report is taken before the clear. -/
def readEvents (_p : UpPort) (f : Frame) (s : State) : State × Reply :=
  let scope := arg f 0
  match (scope.extractLsb' 24 8).toNat with
  | 0 =>
    match identifier 16 ((scope.extractLsb' 0 8).setWidth 32) with
    | none => (s, outOfRange)
    | some b => (clearBayLatches b s, ⟨.ok, bayEventWords b s⟩)
  | 1 => (clearEnclLatches s, ⟨.ok, enclEventWords s⟩)
  | _ => (s, badRequest)

/-- READ_EVENTS. -/
def execReadEvents (s : State) : StepResult := serveCode 0x0190 1 readEvents s

end Sys2Proof.Machine
end

