-- ==== Sys2Proof/Machine/Reset.lean ====
section
/-!
DEFINITION. Machine/Reset.lean: POWER_ON_RESET.
-/
namespace Sys2Proof.Machine

/-- POWER_ON_RESET: every block starts from its initial state, the straps are sampled, and the power-on presence scan is
taken (Resets; R12, R20). The clock runs on, and the commands that wait still wait. -/
def execPowerOnReset (pins : PowerOnPins) (s : State) : StepResult := .next (State.powerOn s.now pins s.pending)

end Sys2Proof.Machine
end

