-- ==== Sys2Proof/Machine/Dispatch.lean ====
section
/-!
DEFINITION. Machine/Dispatch.lean: the meaning of every command, one arm for each row of the table, in its order.
-/
namespace Sys2Proof.Machine

/-- What a command does with everything but the queue of commands. -/
def exec (i : Instr) (s : State) : Host.Outcome State Fault Refusal :=
  match i with
  | .powerOnReset pins => Sys2Proof.Machine.execPowerOnReset pins s
  | .presenceAsserted b => Sys2Proof.Machine.execPresenceAsserted b s
  | .presenceLost b => Sys2Proof.Machine.execPresenceLost b s
  | .seatingExpired b => Sys2Proof.Machine.execSeatingExpired b s
  | .scanGroupExpiry => Sys2Proof.Machine.execScanGroupExpiry s
  | .startWindowExpiry b => Sys2Proof.Machine.execStartWindowExpiry b s
  | .cycleTimerExpiry b => Sys2Proof.Machine.execCycleTimerExpiry b s
  | .staggerExpiry => Sys2Proof.Machine.execStaggerExpiry s
  | .ocConditionAsserted b => Sys2Proof.Machine.execOcConditionAsserted b s
  | .ocConditionLapsed b => Sys2Proof.Machine.execOcConditionLapsed b s
  | .ocFilterExpiry b => Sys2Proof.Machine.execOcFilterExpiry b s
  | .protectionTrip b cause => Sys2Proof.Machine.execProtectionTrip b cause s
  | .frameArrival p bytes => Sys2Proof.Machine.execFrameArrival p bytes s
  | .driveHello b bytes => Sys2Proof.Machine.execDriveHello b bytes s
  | .controllerHello p bytes => Sys2Proof.Machine.execControllerHello p bytes s
  | .managementIntake p bytes => Sys2Proof.Machine.execManagementIntake p bytes s
  | .transmissionStart p => Sys2Proof.Machine.execTransmissionStart p s
  | .transmissionComplete p => Sys2Proof.Machine.execTransmissionComplete p s
  | .forwardTimeout p => Sys2Proof.Machine.execForwardTimeout p s
  | .linkUp p => Sys2Proof.Machine.execLinkUp p s
  | .linkDown p => Sys2Proof.Machine.execLinkDown p s
  | .updatePeriod channels => Sys2Proof.Machine.execUpdatePeriod channels s
  | .tachPulse m r => Sys2Proof.Machine.execTachPulse m r s
  | .overrideEnd m => Sys2Proof.Machine.execOverrideEnd m s
  | .locateEnd b => Sys2Proof.Machine.execLocateEnd b s
  | .activityWindowEnd b => Sys2Proof.Machine.execActivityWindowEnd b s
  | .patternTurn p => Sys2Proof.Machine.execPatternTurn p s
  | .unknownRequest => Sys2Proof.Machine.execUnknownRequest s
  | .readIdent => Sys2Proof.Machine.execReadIdent s
  | .readBay => Sys2Proof.Machine.execReadBay s
  | .readBays => Sys2Proof.Machine.execReadBays s
  | .powerOn => Sys2Proof.Machine.execPowerOn s
  | .powerOff => Sys2Proof.Machine.execPowerOff s
  | .powerCycle => Sys2Proof.Machine.execPowerCycle s
  | .clearFault => Sys2Proof.Machine.execClearFault s
  | .setBayPolicy => Sys2Proof.Machine.execSetBayPolicy s
  | .setBayLines => Sys2Proof.Machine.execSetBayLines s
  | .setSeating => Sys2Proof.Machine.execSetSeating s
  | .lineTestEnter => Sys2Proof.Machine.execLineTestEnter s
  | .lineSample => Sys2Proof.Machine.execLineSample s
  | .linePreload => Sys2Proof.Machine.execLinePreload s
  | .lineTestExit => Sys2Proof.Machine.execLineTestExit s
  | .setCeiling => Sys2Proof.Machine.execSetCeiling s
  | .setStagger => Sys2Proof.Machine.execSetStagger s
  | .loadClass => Sys2Proof.Machine.execLoadClass s
  | .setOcFilter => Sys2Proof.Machine.execSetOcFilter s
  | .readPower => Sys2Proof.Machine.execReadPower s
  | .setForwardTimeout => Sys2Proof.Machine.execSetForwardTimeout s
  | .readCounters => Sys2Proof.Machine.execReadCounters s
  | .loadRoute => Sys2Proof.Machine.execLoadRoute s
  | .dropRoute => Sys2Proof.Machine.execDropRoute s
  | .readRoutes => Sys2Proof.Machine.execReadRoutes s
  | .loadSnoopRule => Sys2Proof.Machine.execLoadSnoopRule s
  | .setThresholds => Sys2Proof.Machine.execSetThresholds s
  | .setSensor => Sys2Proof.Machine.execSetSensor s
  | .readThermal => Sys2Proof.Machine.execReadThermal s
  | .loadCurve => Sys2Proof.Machine.execLoadCurve s
  | .setZone => Sys2Proof.Machine.execSetZone s
  | .setFanMap => Sys2Proof.Machine.execSetFanMap s
  | .setFanOverride => Sys2Proof.Machine.execSetFanOverride s
  | .setFanTiming => Sys2Proof.Machine.execSetFanTiming s
  | .readCooling => Sys2Proof.Machine.execReadCooling s
  | .setLight => Sys2Proof.Machine.execSetLight s
  | .loadPattern => Sys2Proof.Machine.execLoadPattern s
  | .setLightMap => Sys2Proof.Machine.execSetLightMap s
  | .setNightDim => Sys2Proof.Machine.execSetNightDim s
  | .readEvents => Sys2Proof.Machine.execReadEvents s
  | .subscribe => Sys2Proof.Machine.execSubscribe s
  | .warmRestart => Sys2Proof.Machine.execWarmRestart s

end Sys2Proof.Machine
end

