-- ==== Sys2Proof/Machine/Step.lean ====
section
/-!
DEFINITION. Machine/Step.lean: one step of the part: the command at the front of the queue is taken.
-/
namespace Sys2Proof.Machine

/-- The clock moves on by one millisecond while no command waits; no other effect has no row of its own (log entry 5). -/
def tick (s : State) : State := { s with now := s.now + 1 }

/-- One step: the front command runs with the queue's rest; with no command waiting, a millisecond passes. -/
def step (s : State) : Host.Outcome State Fault Refusal :=
  match s.pending with
  | [] => .next (tick s)
  | c :: rest => exec c { s with pending := rest }

/-- Put the command that a word spells at the front of the queue; no row of the table has bits, so no word spells one
(Decode.lean), and the state stays as it is. -/
def State.withFetchWord (s : State) (nbits w : Nat) : State :=
  match decodeTableWord nbits w with
  | none => s
  | some c => { s with pending := c :: s.pending }

end Sys2Proof.Machine
end

