-- ==== Sys2Proof/Safety.lean ====
section
/-!
DEFINITION. Safety.lean: what a sound state of the part is, in the terms the claims use. Each predicate gathers what the
manual says of one kind of state at every moment; a run that keeps them has lost no charge, hold, route or frame.
-/
namespace Sys2Proof.Machine

/-! ### Bay records and the spin-up queue -/

/-- The optional fields of a bay record stand exactly in the states that R19's "Present" column names (R19, R21, R36),
the timers run in the states it names, and a trip that was sent waits for a bay with power (R35). -/
structure BayRecord.Consistent (r : BayRecord) : Prop where
  chargedClass : r.chargedClass.isSome = powered r.state
  activeZone : r.activeZone.isSome = powered r.state
  fault : r.fault.isSome = decide (r.state = .faulted)
  hold : r.hold.isSome = true → r.state = .off
  driveAddr : r.driveAddr.isSome = decide (r.state = .online)
  declClass : r.declClass.isSome = decide (r.state = .online)
  profile : r.profile.isSome = decide (r.state = .online)
  identity : r.identity.isSome = decide (r.state = .online)
  prior : r.prior.isSome = decide (r.state = .test)
  startTimer : r.startTimer.isSome = decide (r.state = .starting)
  cycleTimer : r.cycleTimer.isSome = decide (r.state = .cycling)
  ocTrip : r.ocTrip = true → powered r.state = true
  otTrip : r.otTrip = true → powered r.state = true

/-- The spin-up queue holds exactly the QUEUED bays, each once, every PRIORITY entry before every NORMAL one (R50). -/
structure QueueConsistent (s : State) : Prop where
  member : ∀ b : Bay, b ∈ s.power.queue.map QueueEntry.bay ↔ s.bays[b].state = .queued
  once : (s.power.queue.map QueueEntry.bay).Nodup
  order : s.power.queue.Pairwise (fun x y => x.cls = .normal → y.cls = .normal)

/-- Every bay record is consistent, and the spin-up queue is. -/
structure BaysConsistent (s : State) : Prop where
  record : ∀ b : Bay, (s.bays[b]).Consistent
  queue : QueueConsistent s

/-! ### The budget (R45, R47) -/

/-- A charge stands only on a bay with power, the committed draw never exceeds the live ceiling, and while a pending
ceiling is present the live ceiling equals the committed draw and is not below it. -/
structure BudgetKept (s : State) : Prop where
  unpowered : ∀ b : Bay, powered s.bays[b].state = false → s.power.charge[b] = 0
  within : committed s ≤ s.power.live
  pending : ∀ p : Nat, s.power.pendingCeiling = some p → p ≤ s.power.live ∧ s.power.live = committed s

/-! ### The route table (R91, R93) -/

/-- The address that a learned slot holds while it is valid. -/
def learnedAddr (s : State) (p : Port) : Option Addr := (s.route.learned[portIdx p]).map Learned.addr

/-- The address that a static slot holds while it is valid. -/
def staticAddr (s : State) (i : Fin 30) : Option Addr := (s.route.statics[i]).map Static.addr

/-- No two valid slots hold the same address, and none holds the switch address (R91). -/
structure RoutesDistinct (s : State) : Prop where
  learned : ∀ p q : Port, ∀ a : Addr, learnedAddr s p = some a → learnedAddr s q = some a → p = q
  statics : ∀ i j : Fin 30, ∀ a : Addr, staticAddr s i = some a → staticAddr s j = some a → i = j
  apart : ∀ (p : Port) (i : Fin 30) (a : Addr), learnedAddr s p = some a → staticAddr s i ≠ some a
  notSwitch : ∀ p : Port, learnedAddr s p ≠ some (switchAddr s)
  staticNotSwitch : ∀ i : Fin 30, staticAddr s i ≠ some (switchAddr s)

/-- A bay's learned slot is valid exactly while the bay is ONLINE, and holds the drive address (R93). -/
def SlotsFollowBays (s : State) : Prop :=
  ∀ b : Bay, learnedAddr s (.bay b) = if s.bays[b].state = .online then s.bays[b].driveAddr else none

/-! ### Ports (R67, R68, R75, R79, R86) -/

/-- Nothing stands at an upstream port that is DOWN, in any block (R67, R86, R103, R180, R191, R36). -/
structure DownQuiet (s : State) (p : UpPort) : Prop where
  normal : s.fwd.up[upIdx p].normal = []
  priority : s.fwd.up[upIdx p].priority = []
  transmitting : s.fwd.transmitting[portIdx (.up p)] = none
  waiting : s.fwd.waiting[portIdx (.up p)] = none
  requests : s.mgmt.requests[upIdx p] = []
  held : holdsFor p s = false
  restart : restartOn p s = false
  learned : s.route.learned[portIdx (.up p)] = none
  subscribed : s.ev.subscribed[upIdx p] = false
  holds : ∀ b : Bay, s.bays[b].hold ≠ some p
  notices : s.ev.notices[upIdx p] = []
  overflow : s.ev.overflow[upIdx p] = false
  arbiter : s.fwd.up[upIdx p].arbiter = 0

/-- Nothing stands at a bay port that is disabled (R68, R75, R84). -/
structure DisabledQuiet (s : State) (b : Bay) : Prop where
  queue : s.fwd.bayQueue[b] = []
  transmitting : s.fwd.transmitting[portIdx (.bay b)] = none
  waiting : s.fwd.waiting[portIdx (.bay b)] = none

/-- The port a waiting frame is meant for is an ONLINE bay's or an upstream port that is UP (R72, R84, R86). -/
def targetOpen (s : State) : Port → Bool
  | .bay b => decide (s.bays[b].state = .online)
  | .up u => s.fwd.up[upIdx u].linkUp

/-- Only open ports hold anything, and only open ports are waited for. -/
structure PortsConsistent (s : State) : Prop where
  down : ∀ p : UpPort, s.fwd.up[upIdx p].linkUp = false → DownQuiet s p
  disabled : ∀ b : Bay, enabled b s = false → DisabledQuiet s b
  targets : ∀ (p : Port) (w : Waiting), s.fwd.waiting[portIdx p] = some w → targetOpen s w.target = true

/-- A queue with free places and a wait slot for it do not stand together (R79). -/
def WaitersBlocked (s : State) : Prop :=
  ∀ (p : Port) (w : Waiting), s.fwd.waiting[portIdx p] = some w → queueRoom w.target s = false

/-- No notice waits that could be released (R189). -/
def NoticesReleased (s : State) : Prop := ∀ p : UpPort, releasable p s = false

/-- No queue holds more than its size (R75, R164, R188), and no counter stands above its largest value (R88). -/
structure QueuesBounded (s : State) : Prop where
  bay : ∀ b : Bay, (s.fwd.bayQueue[b]).length ≤ Config.bayQueueSize
  normal : ∀ p : UpPort, s.fwd.up[upIdx p].normal.length ≤ Config.normalQueueSize
  priority : ∀ p : UpPort, s.fwd.up[upIdx p].priority.length ≤ Config.priorityQueueSize
  requests : ∀ p : UpPort, (s.mgmt.requests[upIdx p]).length ≤ Config.requestQueueSize
  notices : ∀ p : UpPort, (s.ev.notices[upIdx p]).length ≤ Config.noticeQueueSize
  counters : ∀ (p : Port) (k : CounterKind), (s.fwd.counters[portIdx p])[k.idx] ≤ Config.counterMax

/-! ### Lines and presence (R2, R4, R8, R9, R12) -/

/-- The logical presence that is kept is the one the pin gives, EMPTY bays read ABSENT and every other bay outside TEST
reads PRESENT, and the seating timers run for SEATING bays alone. -/
structure LinesConsistent (s : State) : Prop where
  judged : ∀ b : Bay, s.line.bays[b].presence = presenceOf s.line.bays[b].record.prsActive s.line.bays[b].prsIn
  empty : ∀ b : Bay, s.bays[b].state = .empty → s.line.bays[b].presence = .absent
  seated : ∀ b : Bay, s.bays[b].state ≠ .empty → s.bays[b].state ≠ .test → s.line.bays[b].presence = .present
  group : ∀ b : Bay, s.line.bays[b].inGroup = true → s.bays[b].state = .seating ∧ s.line.bays[b].debounce = none
  debounce : ∀ b : Bay, s.line.bays[b].debounce.isSome = true → s.bays[b].state = .seating
  seating : ∀ b : Bay, s.bays[b].state = .seating → s.line.bays[b].inGroup = true ∨ s.line.bays[b].debounce.isSome = true
  groupTimer : s.line.groupTimer.isSome = s.line.bays.toList.any (·.inGroup)

/-- Every PWR pin is at its active level exactly while its bay is STARTING or ONLINE (R4), and the ALERT line is asserted
exactly while a bay is FAULTED or a module is FAILED (R193). -/
structure SignalsFollow (s : State) : Prop where
  pwr : ∀ b : Bay, s.line.bays[b].pwrPin = pinLevel s.line.bays[b].record.pwrPol (enabled b s)
  alert : s.ev.alert = alertCondition s

/-! ### Cooling (R125, R126, R142, R143) -/

/-- A zone's output is present exactly while a module is mapped to it, and a module's applied duty, its override and its
zone's output lie between the zone's min duty and 1000; module and zone states follow the rotors. -/
structure CoolingConsistent (s : State) : Prop where
  minDuty : ∀ z : Zone, s.cool.zones[z].minDuty ≤ 1000
  output : ∀ z : Zone, s.cool.zones[z].output.isSome = decide (∃ m : FanModule, s.cool.modules[m].zone = z)
  outputRange : ∀ (z : Zone) (d : Nat), s.cool.zones[z].output = some d → s.cool.zones[z].minDuty ≤ d ∧ d ≤ 1000
  duty : ∀ m : FanModule, s.cool.zones[s.cool.modules[m].zone].minDuty ≤ s.cool.modules[m].duty ∧
    s.cool.modules[m].duty ≤ 1000
  override : ∀ (m : FanModule) (o : Override), s.cool.modules[m].override = some o → o.duty = s.cool.modules[m].duty
  moduleState : ∀ m : FanModule, s.cool.modules[m].state =
    moduleStateOf s.cool.modules[m].rotorA.stalled s.cool.modules[m].rotorB.stalled
  zoneState : ∀ z : Zone, s.cool.zones[z].state = zoneStateOf s z

/-! ### The thermal table (R114, R116, R117) -/

/-- A reading stands only on an ONLINE bay and is a valid temperature, and warn is below shutdown. -/
structure ThermalConsistent (s : State) : Prop where
  online : ∀ b : Bay, s.therm.records[b].reading.isSome = true → s.bays[b].state = .online
  valid : ∀ (b : Bay) (t : Int), s.therm.records[b].reading = some t → -20 ≤ t ∧ t ≤ 120
  streak : ∀ b : Bay, s.therm.records[b].streak ≤ 4
  sensor : ∀ (n : SensorNo) (t : Int), s.therm.sensors[n].reading = some t → -20 ≤ t ∧ t ≤ 120
  thresholds : s.therm.warn < s.therm.shutdown

/-! ### Events (R185, R188) -/

/-- A fan latch is SET exactly while its module set holds a module, and a port without a subscription has no notice and
no overflow flag. -/
structure EventsConsistent (s : State) : Prop where
  fan : ∀ x : FanState, s.ev.enclLatches[(fanEvent x).idx] = (s.ev.fanSets[fanSetIdx x]).toList.any id
  unsubscribed : ∀ p : UpPort, s.ev.subscribed[upIdx p] = false →
    s.ev.notices[upIdx p] = [] ∧ s.ev.overflow[upIdx p] = false

/-! ### Settings ("a setting given with a range holds only values in that range") -/

/-- Every setting lies in its range (R10, R40, R43, R47, R48, R53, R59, R60, R81, R106, R117, R122, R125, R128, R144,
R148, R152). -/
structure SettingsInRange (s : State) : Prop where
  debounce : s.line.debounceSetting ≤ 50
  retries : ∀ b : Bay, s.bays[b].retriesSetting ≤ 3 ∧ s.bays[b].retriesLeft ≤ 3
  classes : ∀ c : ClassNo, s.power.classes[c].startDraw ≤ 1000 ∧ s.power.classes[c].runDraw ≤ 1000 ∧
    10 ≤ s.power.classes[c].startWindow ∧ s.power.classes[c].startWindow ≤ 200
  ceiling : 100 ≤ s.power.live ∧ s.power.live ≤ 4000
  pendingCeiling : ∀ p : Nat, s.power.pendingCeiling = some p → 100 ≤ p ∧ p ≤ 4000
  stagger : s.power.staggerSetting ≤ 150
  limit : 1 ≤ s.power.limit ∧ s.power.limit ≤ 8
  ocFilter : ∀ b : Bay, s.power.ocSetting[b] ∈ ocFilterValues
  timeout : 1 ≤ s.fwd.timeout ∧ s.fwd.timeout ≤ 255
  thermal : 30 ≤ s.therm.warn ∧ s.therm.shutdown ≤ 110 ∧ 1 ≤ s.therm.otFilter ∧ s.therm.otFilter ≤ 4 ∧
    1 ≤ s.therm.staleLimit ∧ s.therm.staleLimit ≤ 60
  sensors : ∀ n : SensorNo, -10 ≤ s.therm.sensors[n].offset ∧ s.therm.sensors[n].offset ≤ 10
  curves : ∀ z : Zone, 2 ≤ s.cool.zones[z].curve.length ∧ s.cool.zones[z].curve.length ≤ 6 ∧
    curveOk s.cool.zones[z].curve = true
  rules : ∀ n : Fin 8, s.therm.rules[n].word ≤ 254 ∧ s.therm.rules[n].byte ≤ 1019 ∧
    (s.therm.rules[n].encoding = .nonzero ↔ s.therm.rules[n].action = .faultHint)
  zones : ∀ z : Zone, s.cool.zones[z].minDuty ≤ 1000 ∧ s.cool.zones[z].staleFloor ≤ 1000 ∧
    s.cool.zones[z].boost ≤ 500 ∧ 1 ≤ s.cool.zones[z].slewUp ∧ s.cool.zones[z].slewUp ≤ 1000 ∧
    1 ≤ s.cool.zones[z].slewDown ∧ s.cool.zones[z].slewDown ≤ 1000
  timing : 250 ≤ s.cool.period ∧ s.cool.period ≤ 4000 ∧ s.cool.stallRpm ≤ 20000 ∧ 1 ≤ s.cool.stallFilter ∧
    s.cool.stallFilter ≤ 8
  patterns : ∀ p : PatternNo, s.light.patterns[p].onTime ≤ 255 ∧ s.light.patterns[p].offTime ≤ 255
  hold : 20 ≤ s.light.hold ∧ s.light.hold ≤ 500

/-! ### Rest -/

/-- Nothing is left over for a step to do: the reports of hot readings and zone blocks are taken, no attempt is owed, no
notice waits that could be released, and the ALERT line and the pins follow (R55, R56, R116, R189, R193, R3). -/
structure AtRest (s : State) : Prop where
  hot : refreshHot s = s
  blocks : blocksNow s = s.power.blocked
  asked : s.power.attemptAsked = false
  notices : NoticesReleased s
  alert : driveAlert s = s
  pins : drivePins s = s

/-! ### Words of the claims: what a step ends with, what a serving answers, what leaving power leaves -/

/-- The end of a step that brings no admission attempt: notices that may go join the priority queues (R189), then the
ALERT line (R193) and the pins (R3, R4) follow. -/
def finish (s : State) : State := drivePins (driveAlert (release .u1 (release .u0 s)))

/-- The endpoint would serve the request `req` of port `p` now, it has the code `code`, and it carries at least `n`
argument words (R165, R166, R168). -/
structure Serves (code : BitVec 16) (n : Nat) (p : UpPort) (req : Frame) (s : State) : Prop where
  next : nextRequest s = some (p, req)
  code : requestCode req = code
  length : 1 + n ≤ req.words

/-- The response with this result and data is offered to the port of the request (R169, R170). -/
def answered (p : UpPort) (req : Frame) (r : Result) (data : List Word) (s : State) : State :=
  offerResponse p ⟨responseFrame (switchAddr s) req ⟨r, data⟩, .built⟩ s

/-- A good frame that is no HELLO and no request for the switch, on an open port (R70's last row). -/
def RoutedArrival (p : Port) (bytes : List Byte) (f : Frame) (s : State) : Prop :=
  heldBack p s = false ∧ (∀ b : Bay, p = .bay b → enabled b s = true) ∧ parseFrame bytes = some f ∧ f.kind ≠ .hello ∧
    ¬(f.kind = .mgmtReq ∧ f.dest = switchAddr s)

/-- The known request rows, each with its code and the argument words that every one of its requests carries (section
12.4). -/
def requestRows : List (Instr × BitVec 16 × Nat) :=
  [(.readIdent, 0x0101, 0), (.readBay, 0x0102, 1), (.readBays, 0x0103, 0), (.powerOn, 0x0110, 1), (.powerOff, 0x0111, 2),
   (.powerCycle, 0x0112, 2), (.clearFault, 0x0113, 1), (.setBayPolicy, 0x0114, 7), (.setBayLines, 0x0120, 7),
   (.setSeating, 0x0121, 1), (.lineTestEnter, 0x0122, 1), (.lineSample, 0x0123, 0), (.linePreload, 0x0124, 3),
   (.lineTestExit, 0x0125, 1), (.setCeiling, 0x0130, 1), (.setStagger, 0x0131, 2), (.loadClass, 0x0132, 4),
   (.setOcFilter, 0x0133, 2), (.readPower, 0x0134, 0), (.setForwardTimeout, 0x0140, 1), (.readCounters, 0x0141, 1),
   (.loadRoute, 0x0150, 2), (.dropRoute, 0x0151, 1), (.readRoutes, 0x0152, 0), (.loadSnoopRule, 0x0160, 10),
   (.setThresholds, 0x0161, 4), (.setSensor, 0x0162, 4), (.readThermal, 0x0163, 0), (.loadCurve, 0x0170, 2),
   (.setZone, 0x0171, 6), (.setFanMap, 0x0172, 8), (.setFanOverride, 0x0173, 3), (.setFanTiming, 0x0174, 3),
   (.readCooling, 0x0175, 0), (.setLight, 0x0180, 6), (.loadPattern, 0x0181, 3), (.setLightMap, 0x0182, 9),
   (.setNightDim, 0x0183, 1), (.readEvents, 0x0190, 1), (.subscribe, 0x0191, 1), (.warmRestart, 0x01F0, 0)]

/-- What a step from `s` to `t` may do to a bay that it does not act on: nothing, or the admission of a QUEUED bay (R25). -/
def UntouchedOrAdmitted (b : Bay) (s t : State) : Prop :=
  (t.bays[b] = s.bays[b] ∧ t.power.charge[b] = s.power.charge[b]) ∨
    (s.bays[b].state = .queued ∧ t.bays[b].state = .starting ∧ t.bays[b].chargedClass = some s.bays[b].cfgClass ∧
      t.power.charge[b] = s.power.classes[s.bays[b].cfgClass].startDraw)

/-- Bay `b` has left power between `s` and `t` (R22), and no other bay was touched but by an admission. -/
structure LeftPower (b : Bay) (s t : State) : Prop where
  charge : t.power.charge[b] = 0
  record : t.bays[b].startTimer = none ∧ t.bays[b].chargedClass = none ∧ t.bays[b].activeZone = none ∧
    t.bays[b].driveAddr = none ∧ t.bays[b].declClass = none ∧ t.bays[b].profile = none ∧ t.bays[b].identity = none
  trips : t.bays[b].ocTrip = false ∧ t.bays[b].otTrip = false
  settings : t.bays[b].policy = s.bays[b].policy ∧ t.bays[b].cfgClass = s.bays[b].cfgClass ∧
    t.bays[b].cfgZone = s.bays[b].cfgZone ∧ t.bays[b].retriesSetting = s.bays[b].retriesSetting ∧
    t.bays[b].ocProt = s.bays[b].ocProt ∧ t.bays[b].otProt = s.bays[b].otProt
  filter : t.power.ocFilter[b] = .clear
  port : DisabledQuiet t b
  slot : s.bays[b].state = .online → t.route.learned[portIdx (.bay b)] = none
  reading : s.bays[b].state = .online → t.therm.records[b] = clearReading s.therm.records[b]
  window : t.light.bays[b].window = none
  pwr : t.line.bays[b].pwrPin = pinLevel t.line.bays[b].record.pwrPol false
  others : ∀ c : Bay, c ≠ b → UntouchedOrAdmitted c s t
  otherSlots : ∀ q : Port, q ≠ .bay b → t.route.learned[portIdx q] = s.route.learned[portIdx q]
  otherReadings : ∀ c : Bay, c ≠ b → t.therm.records[c] = s.therm.records[c]
  statics : t.route.statics = s.route.statics
  classes : t.power.classes = s.power.classes
  cooling : t.cool = s.cool

/-! ### Words of the claims: frames that a closing port answers (R73, R74, R84, R86) -/

/-- The queue by which a part-generated status leaves through a port (R74). -/
def statusQueue : Port → State → List Held
  | .up u, s => s.fwd.up[upIdx u].priority
  | .bay b, s => s.fwd.bayQueue[b]

/-- The places that are free in it; none on an upstream port that is DOWN (R74). -/
def statusPlaces : Port → State → Nat
  | .up u, s => if s.fwd.up[upIdx u].linkUp then 16 - s.fwd.up[upIdx u].priority.length else 0
  | .bay b, s => 8 - (s.fwd.bayQueue[b]).length

/-- The frame that waits at `p` for the queue of `q`, if one does. -/
def waitingFor (q p : Port) (s : State) : List Frame :=
  match s.fwd.waiting[portIdx p] with
  | some w => if w.target = q then [w.frame] else []
  | none => []

/-- The frames that are answered through `p` when `q` closes, in order: those in the egress queue of a bay port `q` that
arrived on an upstream port `p`, then the one that waits at `p`; STATUS frames draw none (R73, R84, R86). -/
def answeredAt (q p : Port) (s : State) : List Frame :=
  ((match q, p with
    | .bay b, .up u => ((s.fwd.bayQueue[b]).filter fun h => decide (h.origin = .arrived (.up u))).map Held.frame
    | _, _ => []) ++ waitingFor q p s).filter fun f => decide (f.kind ≠ .status)

/-- The number of frames in the queues, the transmission and the wait slot of a port, with the frame that the link of a bay port
holds back behind the slot (R196). -/
def heldAt (q : Port) (s : State) : Nat :=
  (match q with
    | .bay b => (s.fwd.bayQueue[b]).length
    | .up u => s.fwd.up[upIdx u].normal.length + s.fwd.up[upIdx u].priority.length) +
    (s.fwd.transmitting[portIdx q]).toList.length + (s.fwd.waiting[portIdx q]).toList.length +
    (match q, s.fwd.waiting[portIdx q] with
      | .bay _, some w => w.behind.toNat
      | _, _ => 0)

/-- What the closing of port `q` adds to the counters of another port (R88). -/
def closingCounts (q p : Port) (s : State) : CounterKind → Nat
  | .discarded => (waitingFor q p s).length
  | .statusSent => min (answeredAt q p s).length (statusPlaces p s)
  | .statusDropped => (answeredAt q p s).length - statusPlaces p s
  | _ => 0

/-- Port `q` has closed between `s` and `t`: the frames bound for it are answered with `code` through the ports they arrived
on, as far as the queues there have room, and their wait slots are empty; its own frames, and `more` others, are counted
as discarded (R84, R86, R88). -/
structure Closed (code : StatusCode) (more : Nat) (q : Port) (s t : State) : Prop where
  answers : ∀ p : Port, p ≠ q → ∃ rest : List Held, statusQueue p t = statusQueue p s ++
    ((answeredAt q p s).take (statusPlaces p s)).map (fun f => ⟨statusFrame (switchAddr s) code f, .built⟩) ++ rest ∧
    ((∃ c : Bay, p = .bay c) → rest = [])
  slots : ∀ p : Port, p ≠ q → t.fwd.waiting[portIdx p] =
    if waitingFor q p s = [] then s.fwd.waiting[portIdx p] else none
  counters : ∀ (p : Port) (k : CounterKind), p ≠ q → (t.fwd.counters[portIdx p])[k.idx] =
    min Config.counterMax ((s.fwd.counters[portIdx p])[k.idx] + closingCounts q p s k)
  discarded : (t.fwd.counters[portIdx q])[CounterKind.discarded.idx] =
    min Config.counterMax ((s.fwd.counters[portIdx q])[CounterKind.discarded.idx] + heldAt q s + more)
  ownCounters : ∀ k : CounterKind, k ≠ .discarded →
    (t.fwd.counters[portIdx q])[k.idx] = (s.fwd.counters[portIdx q])[k.idx]
  transmissions : ∀ p : Port, p ≠ q → t.fwd.transmitting[portIdx p] = s.fwd.transmitting[portIdx p]
  normal : ∀ u : UpPort, .up u ≠ q → s.fwd.up[upIdx u].normal = t.fwd.up[upIdx u].normal

/-! ### Words of the claims: responses and waits -/

/-- The response with this result and data stands in the port's priority queue behind what stood there, or is the held
response of a full queue (R169, R170). -/
def Responded (p : UpPort) (req : Frame) (r : Result) (data : List Word) (s t : State) : Prop :=
  let h : Held := ⟨responseFrame (switchAddr s) req ⟨r, data⟩, .built⟩
  (∃ before after : List Held, t.mgmt.held = none ∧
    t.fwd.up[upIdx p].priority = s.fwd.up[upIdx p].priority ++ before ++ h :: after) ∨
  (16 ≤ t.fwd.up[upIdx p].priority.length ∧ t.mgmt.held = some ⟨p, h⟩)

/-- The slot of `p` holds the frame whose wait for the queue of `q` started first (R79). -/
def FirstWaiter (q p : Port) (w : Waiting) (s : State) : Prop :=
  s.fwd.waiting[portIdx p] = some w ∧ w.target = q ∧
    ∀ (p' : Port) (w' : Waiting), p' ≠ p → s.fwd.waiting[portIdx p'] = some w' → w'.target = q → w.seq < w'.seq

end Sys2Proof.Machine
end

