-- ==== Sys2Proof/Certificates/Slice0/Obligations.lean ====
section
/-!
DEFINITION. Obligations.lean: the statements for the provers. A statement whose hypotheses name AtRest speaks of every
state between two commands that owes nothing (Safety.lean); the state after reset is one, and every command leaves one.
-/
section
open Sys2Proof Sys2Proof.Machine

/-! ### The step, the queue of commands, reset -/

/-- One step takes the command at the front of the queue and runs it with the queue's rest. The queue of waiting
commands is the model's own (log entries 17 and 18). -/
def Obligations.StepRunsTheFrontCommand : Prop :=
  ∀ (c : Instr) (rest : List Instr) (s : State), s.pending = c :: rest → step s = exec c { s with pending := rest }

/-- Power-on reset: what the scan and the straps give, and the value that every field of every block takes, block by
block as the reset rules name them (R1, R12, R14, R15, R20, R43, R47, R53, R59, R60, R66, R67, R77, R81, R105, R106,
R114, R116, R117, R121, R124, R125, R139, R146, R148, R149, R151, R152, R154, R156, R161, R162, R163, R184, R185,
R191). The model's own fields apart, nothing is left out; that reset keeps the model's clock and its queue of
commands is the model's choice (log entry 18). -/
def Obligations.PowerOnSetsEveryBlock : Prop :=
  ∀ (pins : PowerOnPins) (s : State), ∃ t, exec (.powerOnReset pins) s = .next t ∧
    t.addrStrap = pins.addr ∧ t.budStrap = pins.bud ∧ switchAddr t = 0xFA0000 + pins.addr.setWidth 24 ∧
    (∀ b : Bay, (∃ z : Zone, z.val = b.val / 4 ∧ t.bays[b] =
        { state := if pins.prs[b] = .low then .seating else .empty, policy := .auto, cfgClass := 1, cfgZone := z
          chargedClass := none, activeZone := none, retriesSetting := 1, retriesLeft := 0, fault := none, hold := none
          driveAddr := none, declClass := none, profile := none, identity := none, prior := none, ocProt := true
          otProt := true, startTimer := none, cycleTimer := none, ocTrip := false, otTrip := false }) ∧
      t.line.bays[b] =
        { record := ⟨.low, .activeHigh, .activeHigh, .full, .activeHigh, .full⟩, prsIn := pins.prs[b]
          presence := if pins.prs[b] = .low then .present else .absent, debounce := none
          inGroup := decide (pins.prs[b] = .low), preloadLA := .dark, preloadLB := .dark, edges := 0, pwrPin := .low
          laPin := ⟨.low, .fixed⟩, lbPin := ⟨.low, .fixed⟩ } ∧
      t.power.charge[b] = 0 ∧ t.power.ocSetting[b] = 10 ∧ t.power.ocFilter[b] = .clear ∧ t.power.ocIn[b] = pins.oc[b] ∧
      t.therm.records[b] = { reading := none, age := 0, samples := 65535, bad := 0, streak := 0 } ∧
      t.fwd.bayQueue[b] = [] ∧ (∀ k : BayEvent, (t.ev.bayLatches[b])[k.idx] = false) ∧
      t.light.bays[b] = { locate := .absent, controllerFault := false, rebuild := false, predictedFault := false
                          window := none }) ∧
    t.line.groupTimer = (if ∃ b : Bay, pins.prs[b] = .low then some (s.now + 500) else none) ∧
    t.line.debounceSetting = 5 ∧
    t.power.live = [600, 900, 1200, 1800].getD pins.bud.toNat 0 ∧ t.power.pendingCeiling = none ∧ committed t = 0 ∧
    t.power.queue = [] ∧ t.power.stagger = none ∧ t.power.staggerSetting = 30 ∧ t.power.limit = 2 ∧
    t.power.classes.toList.map (fun c => (c.startDraw, c.runDraw, c.startWindow)) =
      [(350, 120, 100), (300, 100, 80), (120, 60, 50), (90, 90, 20), (350, 120, 100), (350, 120, 100), (350, 120, 100),
        (350, 120, 100)] ∧
    (∀ p : UpPort, t.fwd.up[upIdx p] = { linkUp := false, normal := [], priority := [], arbiter := 0 } ∧
      t.mgmt.requests[upIdx p] = [] ∧ t.ev.subscribed[upIdx p] = false ∧ t.ev.notices[upIdx p] = [] ∧
      t.ev.overflow[upIdx p] = false) ∧
    (∀ p : Port, t.route.learned[portIdx p] = none ∧ t.fwd.transmitting[portIdx p] = none ∧
      t.fwd.waiting[portIdx p] = none ∧ ∀ k : CounterKind, (t.fwd.counters[portIdx p])[k.idx] = 0) ∧
    (∀ i : Fin 30, t.route.statics[i] = none) ∧ t.fwd.timeout = 20 ∧
    (∀ i : Fin 8, t.therm.rules[i] = { enable := false, profile := 0, kind := .data, word := 0, mask := 0, value := 0
                                       byte := 0, encoding := .signedC, action := .temperature }) ∧
    (∀ n : SensorNo, ∃ z : Zone, z.val = n.val ∧
      t.therm.sensors[n] = { zone := z, offset := 0, enable := true, reading := none }) ∧
    t.therm.warn = 55 ∧ t.therm.shutdown = 65 ∧ t.therm.otFilter = 2 ∧ t.therm.staleLimit = 10 ∧
    (∀ z : Zone, t.power.blocked[z] = false ∧ t.therm.hot[z] = false ∧ t.cool.zones[z] =
      { curve := [⟨25, 200⟩, ⟨35, 350⟩, ⟨45, 600⟩, ⟨55, 1000⟩], minDuty := 250, staleFloor := 450, boost := 50
        slewUp := 100, slewDown := 20, output := some 1000, base := 0, sum := 0, target := 0, state := .ok }) ∧
    (∀ m : FanModule, ∃ z : Zone, z.val = m.val / 2 ∧ t.cool.modules[m] =
      { zone := z, duty := 1000, override := none, lowWindow := false, state := .ok
        rotorA := { pulses := 0, rpm := 0, stalled := false, run := 0 }
        rotorB := { pulses := 0, rpm := 0, stalled := false, run := 0 } }) ∧
    t.cool.period = 1000 ∧ t.cool.periodLength = 1000 ∧ t.cool.periodEnd = s.now + 1000 ∧ t.cool.stallRpm = 800 ∧
    t.cool.stallFilter = 3 ∧
    t.light.patterns.toList.map (fun p => (p.onTime, p.offTime, p.clock)) =
      [(0, 0, s.now), (1, 0, s.now), (5, 5, s.now), (50, 50, s.now), (25, 25, s.now), (10, 90, s.now),
        (100, 100, s.now), (0, 0, s.now)] ∧
    t.light.map.toList.map Fin.val = [1, 2, 3, 1, 4, 1, 5, 6] ∧ t.light.hold = 60 ∧ t.light.dim = false ∧
    t.mgmt.lastServed = .u1 ∧ t.mgmt.held = none ∧ t.mgmt.restart = none ∧
    (∀ k : EnclEvent, t.ev.enclLatches[k.idx] = false) ∧
    (∀ (x : FanState) (m : FanModule), (t.ev.fanSets[fanSetIdx x])[m] = false) ∧ t.ev.alert = false ∧ t.now = s.now ∧
    t.pending = s.pending

/-- The state after reset is sound in every respect that the invariants below name. The pins of the reset state are
the model's choice (log entry 1). -/
def Obligations.ResetStateIsSound : Prop :=
  BaysConsistent State.reset ∧ BudgetKept State.reset ∧ RoutesDistinct State.reset ∧ SlotsFollowBays State.reset ∧
    PortsConsistent State.reset ∧ WaitersBlocked State.reset ∧ NoticesReleased State.reset ∧ QueuesBounded State.reset ∧
    LinesConsistent State.reset ∧ SignalsFollow State.reset ∧ CoolingConsistent State.reset ∧
    ThermalConsistent State.reset ∧ EventsConsistent State.reset ∧ SettingsInRange State.reset ∧ AtRest State.reset

/-- Every command completes in every state, and none touches the commands that wait. That an event which cannot arise
in a state has a next state too is the model's choice (log entry 3). The queue of waiting commands is the model's own,
and so is that every command, POWER_ON_RESET too, keeps it (log entries 17 and 18). -/
def Obligations.EveryCommandCompletes : Prop :=
  ∀ (c : Instr) (s : State), ∃ t, exec c s = .next t ∧ t.pending = s.pending

/-! ### What every step keeps -/

/-- The optional fields, timers and trips of the bay records, and the spin-up queue (R19, R21, R36, R50). -/
def Obligations.BayRecordsStayConsistent : Prop :=
  ∀ s t : State, BaysConsistent s → step s = .next t → BaysConsistent t

/-- The committed draw never exceeds the live ceiling, and the pending ceiling stands only below it (R45, R47, R49).
-/
def Obligations.CommittedDrawStaysWithinTheCeiling : Prop :=
  ∀ s t : State, BaysConsistent s → BudgetKept s → step s = .next t → BudgetKept t

/-- No two valid route slots hold the same address, and none holds the switch address (R91). -/
def Obligations.RouteAddressesStayDistinct : Prop :=
  ∀ s t : State, RoutesDistinct s → step s = .next t → RoutesDistinct t

/-- A bay's learned slot is valid exactly while the bay is ONLINE, and holds its drive address (R93, R94). -/
def Obligations.LearnedSlotsFollowTheBays : Prop :=
  ∀ s t : State, BaysConsistent s → SlotsFollowBays s → step s = .next t → SlotsFollowBays t

/-- Nothing stands at a DOWN upstream port or a disabled bay port, and no frame waits for a closed port (R67, R68,
R72, R84, R86, R103, R180, R191). -/
def Obligations.ClosedPortsHoldNothing : Prop :=
  ∀ s t : State, BaysConsistent s → PortsConsistent s → step s = .next t → PortsConsistent t

/-- No queue outgrows its size and no counter its largest value (R75, R88, R164, R188). A frame waits only while the
queue it waits for is full (R78, R79). -/
def Obligations.QueuesKeepTheirSizesAndWaiters : Prop :=
  (∀ s t : State, QueuesBounded s → step s = .next t → QueuesBounded t) ∧
  (∀ s t : State, WaitersBlocked s → step s = .next t → WaitersBlocked t)

/-- Presence, its pins and the seating timers agree with the bay states (R2, R8, R9, R12). -/
def Obligations.PresenceAndSeatingAgree : Prop :=
  ∀ s t : State, BaysConsistent s → LinesConsistent s → step s = .next t → LinesConsistent t

/-- R4: after every step, a bay's PWR line is at its active level exactly when the bay is STARTING or ONLINE. -/
def Obligations.PwrFollowsTheBayState : Prop :=
  ∀ s t : State,
    (∀ b : Bay, s.line.bays[b].pwrPin = pinLevel s.line.bays[b].record.pwrPol true ↔
      s.bays[b].state = .starting ∨ s.bays[b].state = .online) →
    step s = .next t →
    ∀ b : Bay, t.line.bays[b].pwrPin = pinLevel t.line.bays[b].record.pwrPol true ↔
      t.bays[b].state = .starting ∨ t.bays[b].state = .online

/-- Zone outputs, applied duties and overrides stay between the min duty and 1000, and the fan states follow the
rotors (R125, R126, R134, R136, R142, R143). -/
def Obligations.DutiesAndFanStatesStayConsistent : Prop :=
  ∀ s t : State, CoolingConsistent s → step s = .next t → CoolingConsistent t

/-- Readings stand on ONLINE bays alone and are valid temperatures; warn stays below shutdown (R110, R114, R117,
R121). -/
def Obligations.ReadingsStayValid : Prop :=
  ∀ s t : State, BaysConsistent s → ThermalConsistent s → step s = .next t → ThermalConsistent t

/-- A fan latch is SET exactly while its module set holds a module, and a port without a subscription has no notice
and no overflow flag (R185, R188, R191). -/
def Obligations.EventsStayConsistent : Prop :=
  ∀ s t : State, EventsConsistent s → step s = .next t → EventsConsistent t

/-- Every setting stays in the range its rule gives it: debounce (R10), retries (R40), class draws and windows (R43),
the live and the pending ceiling (R47, R48), stagger and limit (R53, R54, R59), filters (R60), forward timeout (R81),
snoop rules, whose encoding suits their action (R106), thresholds (R117), sensor offsets (R122), zone settings
(R125), stored curves (R128), fan timing (R144), patterns (R148) and the activity hold (R152). The ceiling keeps its
range because the committed draw stays within it (R47, R49), the previous statements' invariants. -/
def Obligations.SettingsStayInRange : Prop :=
  ∀ s t : State, BaysConsistent s → BudgetKept s → SettingsInRange s → step s = .next t → SettingsInRange t

/-- Every command leaves nothing undone: reports taken, no attempt owed, no notice that could go, ALERT and pins set
(R3, R55, R56, R116, R189, R193). The idle step is not claimed: it only moves the clock (log entry 5), and that the
settling follows each command is the model's reading (log entry 15). -/
def Obligations.EveryCommandLeavesThePartAtRest : Prop :=
  ∀ (c : Instr) (s t : State), BaysConsistent s → BudgetKept s → AtRest s → exec c s = .next t → AtRest t

/-! ### Functions of the manual -/

/-- R110: the two temperature encodings and NONZERO, the valid range, and the manual's worked bytes. -/
def Obligations.TelemetryBytesDecode : Prop :=
  (∀ v : Byte, decodeTemp .signedC v = some (if v.toNat < 128 then (v.toNat : Int) else (v.toNat : Int) - 256)) ∧
  (∀ v : Byte, decodeTemp .offset64C v = some ((v.toNat : Int) - 64)) ∧
  (∀ v : Byte, decodeTemp .nonzero v = none) ∧
  (∀ (b : Bay) (r : SnoopRule) (v : Byte) (s : State), r.action = .faultHint →
    applyRule b r v s = if v = 0 then s else faultHint b s) ∧
  (∀ t : Int, validTemp t = true ↔ -20 ≤ t ∧ t ≤ 120) ∧
  decodeTemp .signedC 0x2A = some 42 ∧ decodeTemp .offset64C 0x2A = some (-22) ∧
  decodeTemp .signedC 0x6E = some 110 ∧ decodeTemp .offset64C 0x6E = some 46

/-- R129: the curve value below the first breakpoint, at and above the last, and between two, for every curve that
LOAD_CURVE accepts; it lies between the first duty and the last; and the manual's worked values of the power-on
curve. -/
def Obligations.CurveValueInterpolates : Prop :=
  (∀ (p : Breakpoint) (rest : List Breakpoint) (t : Int), ascending (p :: rest) = true → nondecreasing (p :: rest) = true →
    (t ≤ p.temp → curveValue (p :: rest) t = p.duty) ∧
    (((p :: rest).getLast (List.cons_ne_nil p rest)).temp ≤ t →
      curveValue (p :: rest) t = ((p :: rest).getLast (List.cons_ne_nil p rest)).duty) ∧
    (∀ (before after : List Breakpoint) (x y : Breakpoint), p :: rest = before ++ x :: y :: after → x.temp ≤ t →
      t < y.temp → (curveValue (p :: rest) t : Int) =
        x.duty + ((y.duty : Int) - x.duty) * (t - x.temp) / (y.temp - x.temp)) ∧
    p.duty ≤ curveValue (p :: rest) t ∧
    curveValue (p :: rest) t ≤ ((p :: rest).getLast (List.cons_ne_nil p rest)).duty) ∧
  [20, 25, 30, 44, 45, 50, 60].map (curveValue ZoneUnit.default.curve) = [200, 200, 275, 575, 600, 800, 1000]

/-- Reading back the bytes that are sent for a frame gives that frame, for every frame a payload length field can
describe (R69, R199, section 12.1). A run of bytes that passes the four tests of R69 is exactly the bytes of the
frame it is read as: no bit is dropped. -/
def Obligations.FramesAndBytesAgree : Prop :=
  (∀ f : Frame, f.payload.length % 4 = 0 → f.payload.length ≤ 1020 → parseFrame (frameBytes f) = some f) ∧
  (∀ (bytes : List Byte) (f : Frame), parseFrame bytes = some f → frameBytes f = bytes)

/-! ### Presence, seating and the bay's timers -/

/-- PRESENCE_ASSERTED in EMPTY starts a full debounce (R8, R9); with a debounce setting of 0 the expiry is taken at
once (R9); in TEST the edge is counted and not delivered (R8, R14); on a bay that reads PRESENT already there is no
edge. PRESENCE_LOST in SEATING takes the bay back to EMPTY and its debounce away; a scan group that loses its last
member loses its timer (R8, R9, R12). In TEST the edge is counted (R14). What the connector does to the PRS pin is
the model's choice (log entry 4). -/
def Obligations.PresenceEdgesStartAndStopSeating : Prop :=
  (∀ (b : Bay) (s : State), AtRest s →
     (s.bays[b].state = .empty → s.line.bays[b].presence = .absent → 0 < s.line.debounceSetting →
       exec (.presenceAsserted b) s = .next
         { s with
           bays := upd s.bays b (fun r => { r with state := .seating })
           line := { s.line with bays := upd s.line.bays b (fun u =>
             { u with prsIn := driveOf u.record.prsActive, presence := .present,
                      debounce := some (s.now + 100 * s.line.debounceSetting) }) } }) ∧
     (s.bays[b].state = .empty → s.line.bays[b].presence = .absent → s.line.debounceSetting = 0 →
       exec (.presenceAsserted b) s = exec (.seatingExpired b)
         { s with
           bays := upd s.bays b (fun r => { r with state := .seating })
           line := { s.line with bays := upd s.line.bays b (fun u =>
             { u with prsIn := driveOf u.record.prsActive, presence := .present, debounce := some s.now }) } }) ∧
     (s.bays[b].state = .test → s.line.bays[b].presence = .absent →
       exec (.presenceAsserted b) s = .next
         { s with line := { s.line with bays := upd s.line.bays b (fun u =>
             { u with prsIn := driveOf u.record.prsActive, presence := .present, edges := min 255 (u.edges + 1) }) } }) ∧
     (s.line.bays[b].presence = .present →
       exec (.presenceAsserted b) s = .next
         { s with line := { s.line with bays := upd s.line.bays b (fun u =>
             { u with prsIn := driveOf u.record.prsActive }) } })) ∧
  (∀ (b : Bay) (s : State), AtRest s → s.line.bays[b].presence = .present →
     (s.bays[b].state = .seating →
       exec (.presenceLost b) s = .next
         { s with
           bays := upd s.bays b (fun r => { r with state := .empty })
           line := { s.line with
             bays := upd s.line.bays b (fun u =>
               { u with prsIn := .released, presence := .absent, debounce := none, inGroup := false })
             groupTimer := if ∃ c : Bay, c ≠ b ∧ s.line.bays[c].inGroup = true then s.line.groupTimer else none } }) ∧
     (s.bays[b].state = .test →
       exec (.presenceLost b) s = .next
         { s with line := { s.line with bays := upd s.line.bays b (fun u =>
             { u with prsIn := .released, presence := .absent, edges := min 255 (u.edges + 1) }) } }))

/-- PRESENCE_LOST in any other state than EMPTY, SEATING and TEST is a removal: the bay is EMPTY, its timers, cause,
hold and drive flags are gone, LOCATE stays, REMOVED is latched (R11, R23, R159); a bay with power leaves power
(R22). -/
def Obligations.RemovalEmptiesTheBay : Prop :=
  ∀ (b : Bay) (s : State), BaysConsistent s → s.line.bays[b].presence = .present →
    s.bays[b].state ≠ .empty → s.bays[b].state ≠ .seating → s.bays[b].state ≠ .test →
    ∃ t, exec (.presenceLost b) s = .next t ∧ t.bays[b].state = .empty ∧ t.bays[b].cycleTimer = none ∧
      t.bays[b].fault = none ∧ t.bays[b].hold = none ∧ t.bays[b].prior = none ∧ t.line.bays[b].presence = .absent ∧
      b ∉ t.power.queue.map QueueEntry.bay ∧ (t.ev.bayLatches[b])[BayEvent.removed.idx] = true ∧
      (t.light.bays[b]).locate = (s.light.bays[b]).locate ∧ (t.light.bays[b]).controllerFault = false ∧
      (t.light.bays[b]).rebuild = false ∧ (t.light.bays[b]).predictedFault = false ∧ t.mgmt.requests = s.mgmt.requests ∧
      (powered s.bays[b].state = true → LeftPower b s t) ∧ (∀ c : Bay, c ≠ b → UntouchedOrAdmitted c s t)

/-- SEATING_EXPIRED (R24): under MANUAL the bay is OFF with no hold, under AUTO it is QUEUED at the tail of NORMAL
with fresh retries and an attempt follows; INSERTED is latched either way, after the move. CYCLE_TIMER_EXPIRY (R33):
the bay is QUEUED at the tail of PRIORITY with fresh retries, and an attempt follows. That an expiry is taken at its
end time is the model's choice (log entry 2). -/
def Obligations.SeatingAndCycleExpiriesQueueTheBay : Prop :=
  (∀ (b : Bay) (s : State) (e : Nat), AtRest s → BaysConsistent s → s.bays[b].state = .seating →
     s.line.bays[b].debounce = some e →
     (s.bays[b].policy = .manual →
       exec (.seatingExpired b) s = .next (finish (latchBay b .inserted
         { s with
           now := max s.now e
           line := { s.line with bays := upd s.line.bays b (fun u => { u with debounce := none, inGroup := false }) }
           bays := upd s.bays b (fun r => { r with state := .off, hold := none }) }))) ∧
     (s.bays[b].policy = .auto →
       exec (.seatingExpired b) s = .next (finish (attempt (latchBay b .inserted
         { s with
           now := max s.now e
           line := { s.line with bays := upd s.line.bays b (fun u => { u with debounce := none, inGroup := false }) }
           bays := upd s.bays b (fun r => { r with state := .queued, retriesLeft := r.retriesSetting })
           power := { s.power with queue := s.power.queue ++ [⟨b, .normal⟩] } }))))) ∧
  (∀ (b : Bay) (s : State) (e : Nat), AtRest s → BaysConsistent s → s.bays[b].state = .cycling →
     s.bays[b].cycleTimer = some e →
     exec (.cycleTimerExpiry b) s = .next (finish (attempt
       { s with
         now := max s.now e
         bays := upd s.bays b (fun r =>
           { r with state := .queued, retriesLeft := r.retriesSetting, cycleTimer := none })
         power := { s.power with queue := s.power.queue.filter (fun x => x.cls = .priority) ++ [⟨b, .priority⟩]
           ++ s.power.queue.filter (fun x => x.cls = .normal) } })))

/-- SCAN_GROUP_EXPIRY (R12): every bay of the group is seated by its policy, with INSERTED latched; the group and its
timer are gone; no other bay is touched but by an admission. That the expiry is taken at its end time, and one
attempt per joining bay, are the model's readings (log entries 2 and 12). -/
def Obligations.ScanGroupExpirySeatsTheGroup : Prop :=
  ∀ (s : State) (e : Nat), BaysConsistent s → LinesConsistent s → s.line.groupTimer = some e →
    ∃ t, exec .scanGroupExpiry s = .next t ∧ t.now = max s.now e ∧ t.line.groupTimer = none ∧
      t.mgmt = s.mgmt ∧ t.route = s.route ∧ t.cool = s.cool ∧ t.light.bays = s.light.bays ∧
      ∀ b : Bay, t.line.bays[b].inGroup = false ∧
        (s.line.bays[b].inGroup = true →
          (t.ev.bayLatches[b])[BayEvent.inserted.idx] = true ∧
          (s.bays[b].policy = .manual → t.bays[b] = { s.bays[b] with state := .off, hold := none }) ∧
          (s.bays[b].policy = .auto → (t.bays[b].state = .queued ∨ t.bays[b].state = .starting) ∧
            t.bays[b].retriesLeft = s.bays[b].retriesSetting)) ∧
        (s.line.bays[b].inGroup = false → UntouchedOrAdmitted b s t)

/-- START_WINDOW_EXPIRY (R26): START_FAILED is latched, and the bay, out of power, is FAULTED with NO_HELLO when no
retry is left; otherwise it is queued again at the tail of NORMAL with one retry less, whence an attempt may admit it
at once. That the expiry is taken at its end time is the model's choice (log entry 2). -/
def Obligations.StartWindowExpiryRetriesOrFaults : Prop :=
  ∀ (b : Bay) (s : State) (e : Nat), BaysConsistent s → s.bays[b].state = .starting → s.bays[b].startTimer = some e →
    ∃ t, exec (.startWindowExpiry b) s = .next t ∧ t.now = max s.now e ∧
      (t.ev.bayLatches[b])[BayEvent.startFailed.idx] = true ∧
      (s.bays[b].retriesLeft = 0 → LeftPower b s t ∧ t.bays[b].state = .faulted ∧ t.bays[b].fault = some .noHello ∧
        t.ev.alert = true) ∧
      (0 < s.bays[b].retriesLeft → t.bays[b].retriesLeft = s.bays[b].retriesLeft - 1 ∧ t.bays[b].fault = none ∧
        (s.power.stagger.isSome = true → LeftPower b s t ∧ t.bays[b].state = .queued ∧
          t.power.queue = s.power.queue ++ [⟨b, .normal⟩]) ∧
        (s.power.stagger = none → t.bays[b].state = .queued ∨ t.bays[b].state = .starting)) ∧
      (∀ c : Bay, c ≠ b → UntouchedOrAdmitted c s t)

/-! ### Admission and overcurrent protection -/

/-- STAGGER_EXPIRY brings an attempt (R59), which passes over blocked zones and admits the first other entry when the
budget lets it start (R57); the admission writes the bay, its charge, its filter and the stagger timer, and the pins
follow (R25, R58, R61, R4). The attempt of a STAGGER_EXPIRY admits no bay when the starting places are taken, when
every entry's zone is blocked, or when the first entry with an open zone does not fit; nothing behind that entry is
tried (R57). That the expiry is taken at its end time is the model's choice (log entry 2). -/
def Obligations.StaggerExpiryBringsOneAttempt : Prop :=
  (∀ (s : State) (e : Nat) (x : QueueEntry) (before after : List QueueEntry), AtRest s → BaysConsistent s → BudgetKept s →
     s.power.stagger = some e → 0 < s.power.staggerSetting → startingCount s < effectiveLimit s →
     s.power.queue = before ++ x :: after → (∀ y ∈ before, s.power.blocked[s.bays[y.bay].cfgZone] = true) →
     s.power.blocked[s.bays[x.bay].cfgZone] = false →
     committed s + s.power.classes[s.bays[x.bay].cfgClass].startDraw ≤ s.power.live →
     exec .staggerExpiry s = .next (drivePins
       { s with
         now := max s.now e
         bays := upd s.bays x.bay (fun r =>
           { r with state := .starting, chargedClass := some r.cfgClass, activeZone := some r.cfgZone,
                    startTimer := some (max s.now e + 100 * s.power.classes[r.cfgClass].startWindow) })
         power := { s.power with
           stagger := some (max s.now e + 100 * s.power.staggerSetting)
           queue := before ++ after
           charge := put s.power.charge x.bay s.power.classes[s.bays[x.bay].cfgClass].startDraw
           ocFilter := put s.power.ocFilter x.bay
             (if s.power.ocIn[x.bay] then .timing (max s.now e + s.power.ocSetting[x.bay]) else .clear) } })) ∧
  (∀ (s : State) (e : Nat), AtRest s → s.power.stagger = some e →
     (effectiveLimit s ≤ startingCount s ∨
       (∀ y ∈ s.power.queue, s.power.blocked[s.bays[y.bay].cfgZone] = true) ∨
       (∃ before x after, s.power.queue = before ++ x :: after ∧
         (∀ y ∈ before, s.power.blocked[s.bays[y.bay].cfgZone] = true) ∧
         s.power.blocked[s.bays[x.bay].cfgZone] = false ∧
         s.power.live < committed s + s.power.classes[s.bays[x.bay].cfgClass].startDraw)) →
     exec .staggerExpiry s = .next (drivePins { s with now := max s.now e, power := { s.power with stagger := none } }))

/-- OC_CONDITION_ASSERTED starts the filter of a bay with power that is CLEAR; on any other bay nothing is evaluated.
OC_CONDITION_LAPSED makes the filter CLEAR (R61, R63). OC_FILTER_EXPIRY (R62): the filter is PERSISTED, OVERCURRENT
is latched, and a trip is sent exactly when the bay's overcurrent protection is ENABLED; that it is taken at the
filter's end time is the model's choice (log entry 2). PROTECTION_TRIP (R35, R22): a trip that was sent takes the bay
out of power and FAULTS it with the matching cause; one that was not sent, or was dropped, changes nothing (log
entries 3 and 16). -/
def Obligations.OvercurrentIsLatchedAndTripsFault : Prop :=
  (∀ (b : Bay) (s : State), AtRest s →
     (powered s.bays[b].state = true → s.power.ocFilter[b] = .clear →
       exec (.ocConditionAsserted b) s = .next { s with power := { s.power with
         ocIn := put s.power.ocIn b true
         ocFilter := put s.power.ocFilter b (.timing (s.now + s.power.ocSetting[b])) } }) ∧
     (powered s.bays[b].state = false ∨ s.power.ocFilter[b] ≠ .clear →
       exec (.ocConditionAsserted b) s = .next { s with power := { s.power with ocIn := put s.power.ocIn b true } }) ∧
     exec (.ocConditionLapsed b) s = .next { s with power := { s.power with
       ocIn := put s.power.ocIn b false, ocFilter := put s.power.ocFilter b .clear } }) ∧
  (∀ (b : Bay) (s : State) (e : Nat), AtRest s → powered s.bays[b].state = true → s.power.ocFilter[b] = .timing e →
     exec (.ocFilterExpiry b) s = .next (finish (latchBay b .overcurrent
       { s with
         now := max s.now e
         power := { s.power with ocFilter := put s.power.ocFilter b .persisted }
         bays := upd s.bays b (fun r => { r with ocTrip := r.ocTrip || r.ocProt }) }))) ∧
  (∀ (b : Bay) (c : TripCause) (s : State), BaysConsistent s →
     (tripPending c s.bays[b] = true → ∃ t, exec (.protectionTrip b c) s = .next t ∧ LeftPower b s t ∧
       t.bays[b].state = .faulted ∧ t.ev.alert = true ∧
       t.bays[b].fault = some (match c with
         | .overcurrent => .overcurrent
         | .overtemp => .overtemp)) ∧
     (tripPending c s.bays[b] = false → exec (.protectionTrip b c) s = .next s))

/-- R84: when a bay leaves power, every frame of its egress queue that arrived on an upstream port, and every frame
that waits for that queue, is answered BAY_GONE through its arrival port, as far as the priority queue there has
room, in order; STATUS frames draw none (R73); the wait slots are emptied, and the counters follow R88. The bay's own
frames are counted as discarded, and the HELLO that brought it about with them (R70, R88; log entry 9). So is the
frame or HELLO that the link holds back behind the bay's wait slot: it is lost with the flush, even when a start
window expiry admits the bay again in the same step (R196; log entry 23). -/
def Obligations.LeavingPowerFlushesThePort : Prop :=
  (∀ (b : Bay) (c : Instr) (s t : State), BaysConsistent s → QueuesBounded s →
     c = .presenceLost b ∨ c = .protectionTrip b .overcurrent ∨ c = .protectionTrip b .overtemp ∨ c = .powerOff ∨
       c = .powerCycle ∨ c = .setBayLines →
     exec c s = .next t → enabled b s = true → enabled b t = false →
     (∀ d : Bay, d ≠ b → enabled d s = true → enabled d t = true) → Closed .bayGone 0 (.bay b) s t) ∧
  (∀ (b : Bay) (s t : State), QueuesBounded s → s.bays[b].state = .starting → s.bays[b].startTimer.isSome = true →
     exec (.startWindowExpiry b) s = .next t → Closed .bayGone 0 (.bay b) s t ∧
       t.fwd.waiting[portIdx (.bay b)] = none) ∧
  (∀ (b : Bay) (bytes : List Byte) (s t : State), QueuesBounded s → exec (.driveHello b bytes) s = .next t →
     enabled b s = true → enabled b t = false → Closed .bayGone 1 (.bay b) s t)

/-! ### Frames -/

/-- Intake (R67 to R69): a link holds the frame back while the port is paused or DOWN; a frame on a disabled bay port
is discarded unchecked; a frame that fails a test is counted as bad. A frame from an upstream port whose path is open
joins the queue of its destination, or, when that is full, the wait slot of its arrival port; a frame for its own
arrival port is reflected (R72, R75, R78, R83). A frame with no route, or with a closed path, is discarded and
answered with the status that names the reason, by a frame the part builds; a STATUS frame draws none (R72 to R74). A
paused bay port keeps that its link holds a frame back, a HELLO too (R69, R196); that a held-back frame changes
nothing else is the model's choice (log entries 3 and 23). -/
def Obligations.RoutedFramesJoinOrAreRefused : Prop :=
  (∀ (p : Port) (bytes : List Byte) (s : State), AtRest s →
     (∀ u : UpPort, p = .up u → heldBack p s = true → exec (.frameArrival p bytes) s = .next s) ∧
     (∀ (b : Bay) (w : Waiting), p = .bay b → enabled b s = true → s.fwd.waiting[portIdx p] = some w →
       ∀ c ∈ [Instr.frameArrival p bytes, .driveHello b bytes], exec c s = .next { s with fwd := { s.fwd with
         waiting := put s.fwd.waiting (portIdx p) (some { w with behind := true }) } }) ∧
     (∀ b : Bay, p = .bay b → enabled b s = false →
       exec (.frameArrival p bytes) s = .next (count p .discarded 1 s)) ∧
     (heldBack p s = false → (∀ b : Bay, p = .bay b → enabled b s = true) → parseFrame bytes = none →
       exec (.frameArrival p bytes) s = .next (count p .badCheck 1 s))) ∧
  (∀ (u : UpPort) (bytes : List Byte) (f : Frame) (q : Port) (s : State), AtRest s → RoutedArrival (.up u) bytes f s →
     lookup f.dest s = some q →
     (q = .up u → exec (.frameArrival (.up u) bytes) s = .next (count (.up u) .reflected 1 s)) ∧
     (∀ b : Bay, q = .bay b → s.bays[b].state = .online → (s.fwd.bayQueue[b]).length < 8 →
       exec (.frameArrival (.up u) bytes) s = .next (drivePins
         (markActivity b (count (.up u) .forwarded 1 (pushBay b ⟨f, .arrived (.up u)⟩ s))))) ∧
     (∀ v : UpPort, q = .up v → v ≠ u → s.fwd.up[upIdx v].linkUp = true → s.fwd.up[upIdx v].normal.length < 32 →
       exec (.frameArrival (.up u) bytes) s = .next
         (count (.up u) .forwarded 1 (pushNormal v ⟨f, .arrived (.up u)⟩ s))) ∧
     (q ≠ .up u → pathRefusal (.up u) q s = none → queueRoom q s = false →
       exec (.frameArrival (.up u) bytes) s = .next { s with fwd := { s.fwd with
         waiting := put s.fwd.waiting (portIdx (.up u)) (some ⟨f, q, s.now, s.now + s.fwd.timeout, s.fwd.waitSeq, false⟩)
         waitSeq := s.fwd.waitSeq + 1 } })) ∧
  (∀ (u : UpPort) (bytes : List Byte) (f : Frame) (code : StatusCode) (s : State), AtRest s →
     RoutedArrival (.up u) bytes f s →
     ((lookup f.dest s = none ∧ code = .unknownDestination) ∨
       (∃ b : Bay, lookup f.dest s = some (.bay b) ∧ s.bays[b].state ≠ .online ∧ code = .bayNotReady) ∨
       (∃ v : UpPort, lookup f.dest s = some (.up v) ∧ v ≠ u ∧ s.fwd.up[upIdx v].linkUp = false ∧ code = .noPath)) →
     (f.kind = .status → exec (.frameArrival (.up u) bytes) s = .next (count (.up u) .discarded 1 s)) ∧
     (f.kind ≠ .status → s.fwd.up[upIdx u].priority.length < 16 →
       exec (.frameArrival (.up u) bytes) s = .next (count (.up u) .statusSent 1 (pushPriority u
         ⟨⟨.status, f.tag, f.src, switchAddr s, 0,
           [statusByte code, kindCode f.kind] ++ halfBytes f.tag ++ addrBytes f.dest ++ [0]⟩, .built⟩
         (count (.up u) .discarded 1 s)))) ∧
     (f.kind ≠ .status → 16 ≤ s.fwd.up[upIdx u].priority.length →
       exec (.frameArrival (.up u) bytes) s = .next (count (.up u) .statusDropped 1 (count (.up u) .discarded 1 s))))

/-- Frames from a bay port. One without a route, for another bay, for an upstream port that is DOWN, or a request for
the switch is discarded, and its status joins the bay's own egress queue with an activity mark, or is dropped when 8
stand there; a STATUS frame draws none (R70, R72, R73, R74, R83). A frame for its own port is reflected. One that
meets a full normal queue waits; one that finds room joins with an activity mark, and nothing is captured when the
bay is STARTING or no rule acts (R72, R78, R83, R85). The forward timeout of a bay port counts and answers alike
(R80); that it is taken at its end time is the model's choice (log entry 2). -/
def Obligations.BayPortFramesAreRefusedOrWait : Prop :=
  (∀ (b : Bay) (bytes : List Byte) (f : Frame) (s : State), AtRest s → enabled b s = true →
     heldBack (.bay b) s = false → parseFrame bytes = some f → f.kind ≠ .hello →
     let forSwitch := f.kind = .mgmtReq ∧ f.dest = switchAddr s
     let gone := count (.bay b) .discarded 1 s
     (∀ code : StatusCode, (forSwitch ∧ code = .notManaged) ∨
         (¬forSwitch ∧ lookup f.dest s = none ∧ code = .unknownDestination) ∨
         (¬forSwitch ∧ (∃ c : Bay, c ≠ b ∧ lookup f.dest s = some (.bay c)) ∧ code = .noPath) ∨
         (¬forSwitch ∧ (∃ u : UpPort, lookup f.dest s = some (.up u) ∧ s.fwd.up[upIdx u].linkUp = false) ∧
           code = .noPath) →
       (f.kind = .status → exec (.frameArrival (.bay b) bytes) s = .next gone) ∧
       (f.kind ≠ .status → (s.fwd.bayQueue[b]).length < 8 →
         exec (.frameArrival (.bay b) bytes) s = .next (drivePins (markActivity b (count (.bay b) .statusSent 1
           (pushBay b ⟨statusFrame (switchAddr s) code f, .built⟩ gone))))) ∧
       (f.kind ≠ .status → 8 ≤ (s.fwd.bayQueue[b]).length →
         exec (.frameArrival (.bay b) bytes) s = .next (count (.bay b) .statusDropped 1 gone))) ∧
     (¬forSwitch → lookup f.dest s = some (.bay b) →
       exec (.frameArrival (.bay b) bytes) s = .next (count (.bay b) .reflected 1 s)) ∧
     (∀ u : UpPort, ¬forSwitch → lookup f.dest s = some (.up u) → s.fwd.up[upIdx u].linkUp = true →
       (32 ≤ s.fwd.up[upIdx u].normal.length →
         exec (.frameArrival (.bay b) bytes) s = .next { s with fwd := { s.fwd with
           waiting := put s.fwd.waiting (portIdx (.bay b))
             (some ⟨f, .up u, s.now, s.now + s.fwd.timeout, s.fwd.waitSeq, false⟩)
           waitSeq := s.fwd.waitSeq + 1 } }) ∧
       (s.fwd.up[upIdx u].normal.length < 32 → s.bays[b].state = .starting ∨
           (∀ profile, s.bays[b].profile = some profile → actingRule s.therm.rules profile f = none) →
         exec (.frameArrival (.bay b) bytes) s = .next (drivePins (markActivity b (count (.bay b) .forwarded 1
           (pushNormal u ⟨f, .arrived (.bay b)⟩ s))))))) ∧
  (∀ (b : Bay) (w : Waiting) (s : State), AtRest s → s.fwd.waiting[portIdx (.bay b)] = some w →
     let gone := count (.bay b) .timedOut 1
       { s with now := max s.now w.endsAt, fwd := { s.fwd with waiting := put s.fwd.waiting (portIdx (.bay b)) none } }
     (w.frame.kind = .status → exec (.forwardTimeout (.bay b)) s = .next (drivePins gone)) ∧
     (w.frame.kind ≠ .status → (s.fwd.bayQueue[b]).length < 8 →
       exec (.forwardTimeout (.bay b)) s = .next (drivePins (markActivity b (count (.bay b) .statusSent 1
         (pushBay b ⟨statusFrame (switchAddr s) .forwardTimeout w.frame, .built⟩ gone))))) ∧
     (w.frame.kind ≠ .status → 8 ≤ (s.fwd.bayQueue[b]).length →
       exec (.forwardTimeout (.bay b)) s = .next (drivePins (count (.bay b) .statusDropped 1 gone))))

/-- A frame of an ONLINE bay is read by the snooper in the step in which it joins an upstream queue, by its arrival
or out of its wait slot at a TRANSMISSION_START (R79, R85, R108, R109). A passing TEMPERATURE rule with a valid value
writes the bay's thermal record, latches TEMP_WARN exactly on a rise to warn, latches OVERTEMP exactly when the
streak reaches the overtemp filter, and then sends a trip exactly when protection is ENABLED (R111, R119, R120); with
an invalid value it adds to the bad-capture count alone (R112). A passing FAULT_HINT rule with a byte other than 0
sets the bay's PREDICTED_FAULT cause and latches that event; with 0 it does nothing (R113). No other latch changes.
-/
def Obligations.PassingFramesGiveReadings : Prop :=
  ∀ (b : Bay) (i : Instr) (f : Frame) (u : UpPort) (before : List Held) (profile : Fin 8) (rule : SnoopRule) (s : State),
    BaysConsistent s → BudgetKept s → s.fwd.up[upIdx u].linkUp = true →
    ((∃ bytes : List Byte, i = .frameArrival (.bay b) bytes ∧ RoutedArrival (.bay b) bytes f s ∧
        lookup f.dest s = some (.up u) ∧ s.fwd.up[upIdx u].normal = before ∧ before.length < 32) ∨
      (∃ (w : Waiting) (h : Held), i = .transmissionStart (.up u) ∧ FirstWaiter (.up u) (.bay b) w s ∧ w.frame = f ∧
        s.fwd.transmitting[portIdx (.up u)] = none ∧ s.fwd.up[upIdx u].normal = h :: before ∧
        (s.fwd.up[upIdx u].priority = [] ∨ 4 ≤ s.fwd.up[upIdx u].arbiter))) →
    s.bays[b].state = .online → s.bays[b].profile = some profile → actingRule s.therm.rules profile f = some rule →
    let value := byteAt f.payload rule.byte
    let old := s.therm.records[b]
    let joined := before ++ [⟨f, .arrived (.bay b)⟩]
    (∀ x : Int, rule.action = .temperature → decodeTemp rule.encoding value = some x → -20 ≤ x → x ≤ 120 →
      ∃ t, exec i s = .next t ∧ t.fwd.up[upIdx u].normal = joined ∧
        t.therm.records[b] = { old with
          reading := some x, age := 0, samples := (old.samples + 1) % 65536
          streak := if s.therm.shutdown ≤ x then min 4 (old.streak + 1) else 0 } ∧
        (∀ c : Bay, c ≠ b → t.therm.records[c] = s.therm.records[c]) ∧
        ((t.ev.bayLatches[b])[BayEvent.tempWarn.idx] = true ↔ (s.ev.bayLatches[b])[BayEvent.tempWarn.idx] = true ∨
          (s.therm.warn ≤ x ∧ ∀ y, old.reading = some y → y < s.therm.warn)) ∧
        ((t.ev.bayLatches[b])[BayEvent.overtemp.idx] = true ↔ (s.ev.bayLatches[b])[BayEvent.overtemp.idx] = true ∨
          (s.therm.shutdown ≤ x ∧ old.streak < 4 ∧ old.streak + 1 = s.therm.otFilter)) ∧
        (∀ (c : Bay) (k : BayEvent), c ≠ b ∨ (k ≠ .tempWarn ∧ k ≠ .overtemp) →
          (t.ev.bayLatches[c])[k.idx] = (s.ev.bayLatches[c])[k.idx]) ∧ t.ev.enclLatches = s.ev.enclLatches ∧
        t.bays[b] = { s.bays[b] with otTrip := s.bays[b].otTrip || (decide (s.therm.shutdown ≤ x ∧ old.streak < 4 ∧
          old.streak + 1 = s.therm.otFilter) && s.bays[b].otProt) } ∧
        (∀ c : Bay, c ≠ b → UntouchedOrAdmitted c s t) ∧ t.route = s.route ∧ t.cool = s.cool) ∧
    (∀ x : Int, rule.action = .temperature → decodeTemp rule.encoding value = some x → x < -20 ∨ 120 < x →
      ∃ t, exec i s = .next t ∧ t.fwd.up[upIdx u].normal = joined ∧
        t.therm.records[b] = { old with bad := min 65535 (old.bad + 1) } ∧
        (∀ c : Bay, c ≠ b → t.therm.records[c] = s.therm.records[c]) ∧ t.ev.bayLatches = s.ev.bayLatches ∧
        t.bays[b] = s.bays[b] ∧ (∀ c : Bay, UntouchedOrAdmitted c s t) ∧ t.route = s.route ∧ t.cool = s.cool) ∧
    (rule.action = .faultHint →
      ∃ t, exec i s = .next t ∧ t.fwd.up[upIdx u].normal = joined ∧
        t.therm.records = s.therm.records ∧ t.bays[b] = s.bays[b] ∧ (∀ c : Bay, UntouchedOrAdmitted c s t) ∧
        (value = 0 → t.ev.bayLatches = s.ev.bayLatches ∧
          (t.light.bays[b]).predictedFault = (s.light.bays[b]).predictedFault) ∧
        (value ≠ 0 → (t.ev.bayLatches[b])[BayEvent.predictedFault.idx] = true ∧
          (∀ (c : Bay) (k : BayEvent), c ≠ b ∨ k ≠ .predictedFault →
            (t.ev.bayLatches[c])[k.idx] = (s.ev.bayLatches[c])[k.idx]) ∧
          (t.light.bays[b]).predictedFault = true) ∧ t.route = s.route ∧ t.cool = s.cool)

/-- A HELLO on the port of a STARTING bay that passes the screen of R27 and both tests is accepted: the bay is ONLINE
with what the HELLO declares, charged the declared class's run draw, its slot learned, its thermal record new, ONLINE
latched (R27, R28, R94). A screened HELLO of a STARTING bay whose address another port's learned slot or the switch
holds, or whose class does not fit the budget, FAULTS the bay with the cause that names the failed test; the address
is tested first (R28). -/
def Obligations.DriveHelloIsJudged : Prop :=
  (∀ (b : Bay) (bytes : List Byte) (f : Frame) (a : Announcement) (s : State), BaysConsistent s →
     RoutesDistinct s → s.bays[b].state = .starting → heldBack (.bay b) s = false → parseFrame bytes = some f →
     f.kind = .hello → screenDriveHello f = some a → (∀ q : Port, q ≠ .bay b → learnedAddr s q ≠ some a.addr) →
     a.addr ≠ switchAddr s →
     committed s - s.power.charge[b] + s.power.classes[a.cls].runDraw ≤ s.power.live →
     ∃ t, exec (.driveHello b bytes) s = .next t ∧
       t.bays[b] = { s.bays[b] with
         state := .online, startTimer := none, chargedClass := some a.cls, driveAddr := some a.addr
         declClass := some a.cls, profile := some a.profile, identity := some a.identity } ∧
       t.power.charge[b] = s.power.classes[a.cls].runDraw ∧ learnedAddr t (.bay b) = some a.addr ∧
       (∀ i : Fin 30, staticAddr s i = some a.addr → t.route.statics[i] = none) ∧
       (∀ i : Fin 30, staticAddr s i ≠ some a.addr → t.route.statics[i] = s.route.statics[i]) ∧
       (∀ q : Port, q ≠ .bay b → t.route.learned[portIdx q] = s.route.learned[portIdx q]) ∧
       t.therm.records[b] = ⟨none, 0, 65535, 0, 0⟩ ∧ (t.ev.bayLatches[b])[BayEvent.online.idx] = true ∧
       (∀ c : Bay, c ≠ b → UntouchedOrAdmitted c s t) ∧ t.fwd.counters = s.fwd.counters ∧ t.cool = s.cool) ∧
  (∀ (b : Bay) (bytes : List Byte) (f : Frame) (a : Announcement) (s : State), BaysConsistent s →
     s.bays[b].state = .starting → heldBack (.bay b) s = false → parseFrame bytes = some f → f.kind = .hello →
     screenDriveHello f = some a →
     (addressTaken (.bay b) a.addr s = true → ∃ t, exec (.driveHello b bytes) s = .next t ∧ LeftPower b s t ∧
       t.bays[b].state = .faulted ∧ t.bays[b].fault = some .addressConflict ∧ t.ev.alert = true ∧
       (t.ev.bayLatches[b])[BayEvent.addressConflict.idx] = true) ∧
     (addressTaken (.bay b) a.addr s = false →
       s.power.live < committed s - s.power.charge[b] + s.power.classes[a.cls].runDraw →
       ∃ t, exec (.driveHello b bytes) s = .next t ∧ LeftPower b s t ∧ t.bays[b].state = .faulted ∧
         t.bays[b].fault = some .overbudget ∧ t.ev.alert = true ∧
         (t.ev.bayLatches[b])[BayEvent.overbudget.idx] = true))

/-- A HELLO that fails the screen of R27 is discarded and counted, and changes nothing else. One that passes it
declares its source address, class and profile. On an ONLINE bay (R29) it is a refresh, which keeps the learned slot,
or a move, which rewrites it and retires a static slot that holds the address, with the note and ROUTE_DISPLACED
(R94, R95); either replaces what the drive declared and its charge, and keeps the reading and the bay's latches. A
move to an address another port's learned slot or the switch holds, and then a draw that does not fit, take the bay
out of power and FAULT it with the cause that names the failed test. -/
def Obligations.OnlineHellosRefreshMoveOrFault : Prop :=
  (∀ (b : Bay) (bytes : List Byte) (f : Frame) (s : State), AtRest s → enabled b s = true →
     heldBack (.bay b) s = false → parseFrame bytes = some f → f.kind = .hello →
     f.words ≠ 2 ∨ helloRole f ≠ 1 ∨ 8 ≤ helloClass f ∨ 8 ≤ helloProfile f →
     exec (.driveHello b bytes) s = .next (count (.bay b) .discarded 1 s)) ∧
  (∀ (f : Frame) (a : Announcement), screenDriveHello f = some a → a.addr = f.src ∧ a.cls.val = helloClass f ∧
     a.profile.val = helloProfile f ∧ f.words = 2 ∧ helloRole f = 1) ∧
  (∀ (b : Bay) (bytes : List Byte) (f : Frame) (a : Announcement) (s : State), BaysConsistent s → RoutesDistinct s →
     s.bays[b].state = .online → heldBack (.bay b) s = false → parseFrame bytes = some f → f.kind = .hello →
     screenDriveHello f = some a →
     let taken := a.addr = switchAddr s ∨ ∃ q : Port, q ≠ .bay b ∧ learnedAddr s q = some a.addr
     let fits := committed s - s.power.charge[b] + s.power.classes[a.cls].runDraw ≤ s.power.live
     let stays := fun (t : State) => t.power.charge[b] = s.power.classes[a.cls].runDraw ∧
       t.bays[b] = { s.bays[b] with
         chargedClass := some a.cls, driveAddr := some a.addr, declClass := some a.cls
         profile := some a.profile, identity := some a.identity } ∧
       t.therm.records = s.therm.records ∧ t.ev.bayLatches = s.ev.bayLatches ∧
       (∀ c : Bay, c ≠ b → UntouchedOrAdmitted c s t) ∧ t.fwd.counters = s.fwd.counters ∧
       t.fwd.bayQueue = s.fwd.bayQueue ∧ t.cool = s.cool
     (s.bays[b].driveAddr = some a.addr → fits →
       ∃ t, exec (.driveHello b bytes) s = .next t ∧ stays t ∧ t.route = s.route) ∧
     (s.bays[b].driveAddr ≠ some a.addr → ¬taken → fits → ∃ t, exec (.driveHello b bytes) s = .next t ∧ stays t ∧
       (∀ q : Port, q ≠ .bay b → t.route.learned[portIdx q] = s.route.learned[portIdx q]) ∧
       ((∀ i : Fin 30, staticAddr s i ≠ some a.addr) → t.route.statics = s.route.statics ∧
         t.route.learned[portIdx (.bay b)] = some ⟨a.addr, none⟩) ∧
       (∀ (i : Fin 30) (q : Port), s.route.statics[i] = some ⟨a.addr, q⟩ →
         t.route.statics = put s.route.statics i none ∧ t.ev.enclLatches[EnclEvent.routeDisplaced.idx] = true ∧
         t.route.learned[portIdx (.bay b)] = some ⟨a.addr, some ⟨18 + i.val, q⟩⟩)) ∧
     (s.bays[b].driveAddr ≠ some a.addr → taken → ∃ t, exec (.driveHello b bytes) s = .next t ∧ LeftPower b s t ∧
       t.bays[b].state = .faulted ∧ t.bays[b].fault = some .addressConflict ∧ t.ev.alert = true ∧
       (t.ev.bayLatches[b])[BayEvent.addressConflict.idx] = true) ∧
     (s.bays[b].driveAddr = some a.addr ∨ ¬taken → ¬fits → ∃ t, exec (.driveHello b bytes) s = .next t ∧
       LeftPower b s t ∧ t.bays[b].state = .faulted ∧ t.bays[b].fault = some .overbudget ∧ t.ev.alert = true ∧
       (t.ev.bayLatches[b])[BayEvent.overbudget.idx] = true))

/-- A controller HELLO that fails the screen of R97 is discarded and counted. One that passes it (R98): a new address
that no other learned slot and not the switch holds is learned, which lets the port's notices go; a static slot that
holds it is retired, the note names that slot and its port, and ROUTE_DISPLACED is latched (R95); the address the
slot holds already changes nothing; a taken one is discarded and counted. A request for the switch joins the request
queue of its port; a full queue discards it and answers MGMT_BUSY, or drops the status where the priority queue is
full (R71, R164, R74). -/
def Obligations.ControllerHellosAndRequestsAreTaken : Prop :=
  (∀ (p : UpPort) (bytes : List Byte) (f : Frame) (s : State), AtRest s → heldBack (.up p) s = false →
     parseFrame bytes = some f → f.kind = .hello → f.words ≠ 2 ∨ helloRole f ≠ 2 →
     exec (.controllerHello p bytes) s = .next (count (.up p) .discarded 1 s)) ∧
  (∀ (p : UpPort) (bytes : List Byte) (f : Frame) (a : Addr) (s : State), AtRest s → heldBack (.up p) s = false →
     parseFrame bytes = some f → f.kind = .hello → screenControllerHello f = some a →
     (learnedAddr s (.up p) = some a → exec (.controllerHello p bytes) s = .next s) ∧
     (learnedAddr s (.up p) ≠ some a → (∀ q : Port, q ≠ .up p → learnedAddr s q ≠ some a) → a ≠ switchAddr s →
       (∀ i : Fin 30, staticAddr s i ≠ some a) →
       exec (.controllerHello p bytes) s = .next (release p { s with route := { s.route with
         learned := put s.route.learned (portIdx (.up p)) (some ⟨a, none⟩) } })) ∧
     (learnedAddr s (.up p) ≠ some a → (a = switchAddr s ∨ ∃ q : Port, q ≠ .up p ∧ learnedAddr s q = some a) →
       exec (.controllerHello p bytes) s = .next (count (.up p) .discarded 1 s)) ∧
     (∀ (i : Fin 30) (q : Port), RoutesDistinct s → s.route.statics[i] = some ⟨a, q⟩ →
       exec (.controllerHello p bytes) s = .next (finish (latchEncl .routeDisplaced (18 + i.val)
         { s with route :=
           { learned := put s.route.learned (portIdx (.up p)) (some ⟨a, some ⟨18 + i.val, q⟩⟩)
             statics := put s.route.statics i none } })))) ∧
  (∀ (p : UpPort) (bytes : List Byte) (f : Frame) (s : State), AtRest s → heldBack (.up p) s = false →
     parseFrame bytes = some f → f.kind = .mgmtReq → f.dest = switchAddr s →
     ((s.mgmt.requests[upIdx p]).length < 4 →
       exec (.managementIntake p bytes) s = .next { s with mgmt := { s.mgmt with
         requests := upd s.mgmt.requests (upIdx p) (· ++ [f]) } }) ∧
     (4 ≤ (s.mgmt.requests[upIdx p]).length → s.fwd.up[upIdx p].priority.length < 16 →
       exec (.managementIntake p bytes) s = .next (count (.up p) .statusSent 1 (pushPriority p
         ⟨statusFrame (switchAddr s) .mgmtBusy f, .built⟩ (count (.up p) .discarded 1 s)))) ∧
     (4 ≤ (s.mgmt.requests[upIdx p]).length → 16 ≤ s.fwd.up[upIdx p].priority.length →
       exec (.managementIntake p bytes) s = .next (count (.up p) .statusDropped 1 (count (.up p) .discarded 1 s))))

/-- TRANSMISSION_START (R76, R77): the arbiter of an UP upstream port prefers the priority queue, but after four
priority starts past a waiting normal frame takes the normal one; a bay port starts with the front of its queue. What
fills the place that opens, and what a NOTICE carries, is the next statement's. -/
def Obligations.TheArbiterChoosesTheTransmission : Prop :=
  ∀ s : State, AtRest s →
    (∀ (u : UpPort) (h : Held) (rest : List Held), s.fwd.transmitting[portIdx (.up u)] = none →
      s.fwd.up[upIdx u].linkUp = true → s.fwd.up[upIdx u].priority = h :: rest →
      (s.fwd.up[upIdx u].normal = [] ∨ s.fwd.up[upIdx u].arbiter < 4) → h.frame.kind ≠ .notice →
      ∃ t, exec (.transmissionStart (.up u)) s = .next t ∧ t.fwd.transmitting[portIdx (.up u)] = some h ∧
        t.fwd.up[upIdx u].normal = s.fwd.up[upIdx u].normal ∧
        t.fwd.up[upIdx u].arbiter = (if s.fwd.up[upIdx u].normal = [] then 0 else s.fwd.up[upIdx u].arbiter + 1) ∧
        rest <+: t.fwd.up[upIdx u].priority ∧ t.route = s.route ∧ t.cool = s.cool ∧
        (∀ q : Port, q ≠ .up u → t.fwd.transmitting[portIdx q] = s.fwd.transmitting[portIdx q])) ∧
    (∀ (u : UpPort) (h : Held) (rest : List Held), s.fwd.transmitting[portIdx (.up u)] = none →
      s.fwd.up[upIdx u].linkUp = true → s.fwd.up[upIdx u].normal = h :: rest →
      (s.fwd.up[upIdx u].priority = [] ∨ 4 ≤ s.fwd.up[upIdx u].arbiter) →
      ∃ t, exec (.transmissionStart (.up u)) s = .next t ∧ t.fwd.transmitting[portIdx (.up u)] = some h ∧
        t.fwd.up[upIdx u].arbiter = 0 ∧ rest <+: t.fwd.up[upIdx u].normal ∧
        s.fwd.up[upIdx u].priority <+: t.fwd.up[upIdx u].priority ∧ t.route = s.route ∧ t.cool = s.cool ∧
        (∀ q : Port, q ≠ .up u → t.fwd.transmitting[portIdx q] = s.fwd.transmitting[portIdx q])) ∧
    (∀ (b : Bay) (h : Held) (rest : List Held), s.fwd.transmitting[portIdx (.bay b)] = none → enabled b s = true →
      s.fwd.bayQueue[b] = h :: rest →
      ∃ t, exec (.transmissionStart (.bay b)) s = .next t ∧ t.fwd.transmitting[portIdx (.bay b)] = some h ∧
        rest <+: t.fwd.bayQueue[b] ∧ t.route = s.route ∧ t.cool = s.cool ∧
        (∀ q : Port, q ≠ .bay b → t.fwd.transmitting[portIdx q] = s.fwd.transmitting[portIdx q]))

/-- The place that a TRANSMISSION_START opens is filled in the same step. In a full priority queue the held response
of the port takes it, else the front notice when the port's learned slot is valid, else nothing does (R82, R170,
R189). In a normal or an egress queue the frame whose wait started first takes it, is counted as forwarded on its
arrival port, and leaves its slot (R79). A NOTICE that starts takes the port's overflow flag into its overflow item,
and the flag is CLEAR (R190). -/
def Obligations.TheOpeningPlaceIsFilled : Prop :=
  ∀ s : State, AtRest s →
    (∀ (u : UpPort) (h : Held) (rest : List Held), s.fwd.transmitting[portIdx (.up u)] = none →
      s.fwd.up[upIdx u].linkUp = true → s.fwd.up[upIdx u].priority = h :: rest →
      (s.fwd.up[upIdx u].normal = [] ∨ s.fwd.up[upIdx u].arbiter < 4) →
      ∃ t, exec (.transmissionStart (.up u)) s = .next t ∧
        (∀ r : Held, s.mgmt.held = some ⟨u, r⟩ → (h :: rest).length = 16 →
          t.fwd.up[upIdx u].priority = rest ++ [r] ∧ t.mgmt.held = none ∧
          t.ev.notices[upIdx u] = s.ev.notices[upIdx u]) ∧
        (∀ (n : Notice) (more : List Notice) (l : Learned), holdsFor u s = false → (h :: rest).length = 16 →
          s.ev.notices[upIdx u] = n :: more → s.route.learned[portIdx (.up u)] = some l →
          t.fwd.up[upIdx u].priority = rest ++ [⟨noticeFrame (switchAddr s) l.addr n, .built⟩] ∧
          t.ev.notices[upIdx u] = more) ∧
        (holdsFor u s = false → s.ev.notices[upIdx u] = [] ∨ s.route.learned[portIdx (.up u)] = none →
          t.fwd.up[upIdx u].priority = rest ∧ t.ev.notices[upIdx u] = s.ev.notices[upIdx u]) ∧
        (h.frame.kind = .notice → t.ev.overflow[upIdx u] = false ∧ t.fwd.transmitting[portIdx (.up u)] =
          some ⟨{ h.frame with payload := h.frame.payload.set 6 (if s.ev.overflow[upIdx u] then 1 else 0) }, h.origin⟩) ∧
        (h.frame.kind ≠ .notice → t.ev.overflow[upIdx u] = s.ev.overflow[upIdx u])) ∧
    (∀ (q : Port) (h : Held) (rest : List Held), s.fwd.transmitting[portIdx q] = none →
      ((∃ b : Bay, q = .bay b ∧ enabled b s = true ∧ s.fwd.bayQueue[b] = h :: rest) ∨
        ∃ u : UpPort, q = .up u ∧ s.fwd.up[upIdx u].linkUp = true ∧ s.fwd.up[upIdx u].normal = h :: rest ∧
          (s.fwd.up[upIdx u].priority = [] ∨ 4 ≤ s.fwd.up[upIdx u].arbiter)) →
      ∃ t, exec (.transmissionStart q) s = .next t ∧
        let joined := fun (more : List Held) => (∀ b : Bay, q = .bay b → t.fwd.bayQueue[b] = rest ++ more) ∧
          ∀ u : UpPort, q = .up u → t.fwd.up[upIdx u].normal = rest ++ more
        (∀ (p : Port) (w : Waiting), FirstWaiter q p w s → joined [⟨w.frame, .arrived p⟩] ∧
          t.fwd.waiting = put s.fwd.waiting (portIdx p) none ∧ t.fwd.counters = (count p .forwarded 1 s).fwd.counters) ∧
        ((∀ (p : Port) (w : Waiting), s.fwd.waiting[portIdx p] = some w → w.target ≠ q) → joined [] ∧
          t.fwd.waiting = s.fwd.waiting ∧ t.fwd.counters = s.fwd.counters))

/-- FORWARD_TIMEOUT (R80, R74): the waiting frame is gone, its slot is free, it is counted as timed out on its
arrival port and answered with FORWARD_TIMEOUT; a STATUS frame draws no answer (R73). TRANSMISSION_COMPLETE (R76,
R178): the port is free again; when the frame is the response a pending restart waits on, the restart takes place:
queues, slots, counters, requests, statics and subscriptions are cleared, holds are released, and the bays, their
timers, the charges, the learned slots, the readings, the fans, the lights and the latches are kept. That the timeout
is taken at its end time is the model's choice (log entry 2). -/
def Obligations.WaitsAndTransmissionsEnd : Prop :=
  (∀ (u : UpPort) (w : Waiting) (s : State), AtRest s → s.fwd.waiting[portIdx (.up u)] = some w →
     s.fwd.up[upIdx u].linkUp = true →
     let gone := count (.up u) .timedOut 1
       { s with now := max s.now w.endsAt, fwd := { s.fwd with waiting := put s.fwd.waiting (portIdx (.up u)) none } }
     (w.frame.kind = .status → exec (.forwardTimeout (.up u)) s = .next (drivePins gone)) ∧
     (w.frame.kind ≠ .status → s.fwd.up[upIdx u].priority.length < 16 →
       exec (.forwardTimeout (.up u)) s = .next (drivePins (count (.up u) .statusSent 1 (pushPriority u
         ⟨statusFrame (switchAddr s) .forwardTimeout w.frame, .built⟩ gone)))) ∧
     (w.frame.kind ≠ .status → 16 ≤ s.fwd.up[upIdx u].priority.length →
       exec (.forwardTimeout (.up u)) s = .next (drivePins (count (.up u) .statusDropped 1 gone)))) ∧
  (∀ (p : Port) (h : Held) (s : State), AtRest s → s.fwd.transmitting[portIdx p] = some h →
     (h.origin ≠ .restart → exec (.transmissionComplete p) s = .next { s with fwd := { s.fwd with
       transmitting := put s.fwd.transmitting (portIdx p) none } }) ∧
     (h.origin = .restart → s.mgmt.restart.isSome = true → ∃ t, exec (.transmissionComplete p) s = .next t ∧
       (∀ b : Bay, t.bays[b] = { s.bays[b] with hold := none } ∧ t.fwd.bayQueue[b] = []) ∧
       (∀ u : UpPort, t.fwd.up[upIdx u] = ⟨s.fwd.up[upIdx u].linkUp, [], [], 0⟩ ∧ t.mgmt.requests[upIdx u] = [] ∧
         t.ev.subscribed[upIdx u] = false ∧ t.ev.notices[upIdx u] = [] ∧ t.ev.overflow[upIdx u] = false) ∧
       (∀ q : Port, t.fwd.transmitting[portIdx q] = none ∧ t.fwd.waiting[portIdx q] = none ∧
         ∀ k : CounterKind, (t.fwd.counters[portIdx q])[k.idx] = 0) ∧
       (∀ i : Fin 30, t.route.statics[i] = none) ∧ t.route.learned = s.route.learned ∧ t.fwd.timeout = s.fwd.timeout ∧
       t.mgmt.lastServed = .u1 ∧ t.mgmt.held = none ∧ t.mgmt.restart = none ∧ t.power = s.power ∧ t.therm = s.therm ∧
       t.cool = s.cool ∧ t.light = s.light ∧ t.line = s.line ∧ t.ev.bayLatches = s.ev.bayLatches ∧
       t.ev.enclLatches = s.ev.enclLatches ∧ t.ev.fanSets = s.ev.fanSets ∧ t.ev.alert = s.ev.alert))

/-- LINK_UP changes the link state alone (R67, R87). LINK_DOWN leaves nothing of the port in its queues, its slots,
the endpoint, the route table and the event unit, with the arbiter's count 0 (R86, R103, R180, R191), and touches no
bay but to release holds (R37). Its frames are counted as discarded; a frame that waits elsewhere for its queue is
discarded and answered NO_PATH (R86, R73, R74), with an activity mark where that status joins a bay's queue (R83; log
entry 21). A report of the state that is held changes nothing (R67). -/
def Obligations.LinkReportsOpenAndCloseThePort : Prop :=
  ∀ (p : UpPort) (s : State), AtRest s →
    (s.fwd.up[upIdx p].linkUp = false →
      exec (.linkUp p) s = .next { s with fwd := { s.fwd with up := upd s.fwd.up (upIdx p) (fun u =>
        { u with linkUp := true }) } }) ∧
    (s.fwd.up[upIdx p].linkUp = true → exec (.linkUp p) s = .next s) ∧
    (s.fwd.up[upIdx p].linkUp = false → exec (.linkDown p) s = .next s) ∧
    (s.fwd.up[upIdx p].linkUp = true → ∃ t, exec (.linkDown p) s = .next t ∧ DownQuiet t p ∧
      t.fwd.up[upIdx p].linkUp = false ∧ t.fwd.up[upIdx (otherUp p)].linkUp = s.fwd.up[upIdx (otherUp p)].linkUp ∧
      (restartOn p s = false → t.route.statics = s.route.statics ∧
        (∀ b : Bay, t.bays[b] = if s.bays[b].hold = some p then { s.bays[b] with hold := none } else s.bays[b]) ∧
        t.mgmt.requests[upIdx (otherUp p)] = s.mgmt.requests[upIdx (otherUp p)] ∧
        t.ev.subscribed[upIdx (otherUp p)] = s.ev.subscribed[upIdx (otherUp p)] ∧
        (QueuesBounded s → Closed .noPath 0 (.up p) s t) ∧
        ∀ b : Bay, t.light.bays[b] = if answeredAt (.up p) (.bay b) s ≠ [] ∧ (s.fwd.bayQueue[b]).length < 8 then
          (markActivity b s).light.bays[b] else s.light.bays[b]) ∧
      t.power = s.power ∧ t.therm = s.therm ∧ t.cool = s.cool ∧ t.ev.bayLatches = s.ev.bayLatches ∧
      t.ev.enclLatches = s.ev.enclLatches ∧ t.ev.alert = s.ev.alert)

/-! ### The update period, the fans, the lights -/

/-- Part 1 of the update period (R139 to R142): every rotor's window gives its rpm and is closed; a window that was
not low is judged, so that a run of the filter's length turns the rotor STALLED or GOOD; the module's state follows
its rotors, and a change is latched. Part 2 (R115, R121): every present reading ages by one, up to 255; every sensor
reads its channel, or nothing when it is open or out of range. Nothing else of the records changes, and the zones'
hot reports and blocks follow (R55, R116). That the period is taken at its end is the model's choice (log entry 2).
-/
def Obligations.UpdatePeriodJudgesAndAges : Prop :=
  (∀ (channels : Vector (Option Int) 4) (s : State), ∃ t, exec (.updatePeriod channels) s = .next t ∧
     t.now = max s.now s.cool.periodEnd ∧ t.cool.periodEnd = s.cool.periodEnd + s.cool.period ∧
     t.cool.periodLength = s.cool.period ∧
     ∀ m : FanModule,
       (∀ (r r' : RotorUnit), (r = s.cool.modules[m].rotorA ∧ r' = t.cool.modules[m].rotorA) ∨
           (r = s.cool.modules[m].rotorB ∧ r' = t.cool.modules[m].rotorB) →
         r'.pulses = 0 ∧ r'.rpm = r.pulses * 30000 / s.cool.periodLength ∧
         (s.cool.modules[m].lowWindow = true → r'.stalled = r.stalled ∧ r'.run = r.run) ∧
         (s.cool.modules[m].lowWindow = false → (r'.rpm < s.cool.stallRpm ↔ r.stalled = true) →
           r'.stalled = r.stalled ∧ r'.run = 0) ∧
         (s.cool.modules[m].lowWindow = false → (r'.rpm < s.cool.stallRpm ↔ r.stalled = false) →
           r.run + 1 < s.cool.stallFilter → r'.stalled = r.stalled ∧ r'.run = r.run + 1) ∧
         (s.cool.modules[m].lowWindow = false → (r'.rpm < s.cool.stallRpm ↔ r.stalled = false) →
           s.cool.stallFilter ≤ r.run + 1 → r'.stalled = !r.stalled ∧ r'.run = 0)) ∧
       t.cool.modules[m].state = (match t.cool.modules[m].rotorA.stalled, t.cool.modules[m].rotorB.stalled with
         | false, false => .ok
         | true, true => .failed
         | _, _ => .degraded) ∧
       (t.cool.modules[m].state ≠ s.cool.modules[m].state →
         t.ev.enclLatches[(fanEvent t.cool.modules[m].state).idx] = true ∧
         (t.ev.fanSets[fanSetIdx t.cool.modules[m].state])[m] = true) ∧
       t.cool.modules[m].lowWindow = decide (t.cool.modules[m].duty < 150)) ∧
  (∀ (channels : Vector (Option Int) 4) (s : State), BaysConsistent s → ∃ t, exec (.updatePeriod channels) s = .next t ∧
     (∀ b : Bay, t.therm.records[b] = if s.therm.records[b].reading = none then s.therm.records[b] else
       { s.therm.records[b] with age := min 255 (s.therm.records[b].age + 1) }) ∧
     (∀ n : SensorNo, t.therm.sensors[n] = { s.therm.sensors[n] with
       reading := match channels[n] with
         | none => none
         | some x => if -20 ≤ x ∧ x ≤ 120 then some x else none }) ∧
     (∀ z : Zone, t.therm.hot[z] = true ↔ ∃ (b : Bay) (x : Int), s.bays[b].state = .online ∧
       s.bays[b].activeZone = some z ∧ t.therm.records[b].reading = some x ∧ s.therm.warn ≤ x ∧
       t.therm.records[b].age ≤ s.therm.staleLimit) ∧
     (∀ z : Zone, t.power.blocked[z] = true ↔ t.therm.hot[z] = true ∨
       ∃ m : FanModule, t.cool.modules[m].zone = z ∧ t.cool.modules[m].state = .failed) ∧
     (∀ b : Bay, UntouchedOrAdmitted b s t) ∧ t.route = s.route ∧ t.light.bays = s.light.bays ∧
     t.ev.bayLatches = s.ev.bayLatches)

/-- Part 3 of the update period (R131 to R134). Each ONLINE bay of the zone offers the curve's value of a fresh
reading, or the stale floor for a stale or absent one; each enabled local sensor of the zone with a reading offers
the curve's value of its reading plus offset; nothing else offers a duty (R131). The base of a zone with modules is
the largest offer, or its min duty; the sum adds the start boosts; the target makes up for stalled rotors, rounded
upward; the output moves toward the target by the slew rates and stays at or above the min duty; modules without an
override take it, and the others keep their duty. -/
def Obligations.UpdatePeriodSetsTheOutputs : Prop :=
  ∀ (channels : Vector (Option Int) 4) (s : State), ∃ t, exec (.updatePeriod channels) s = .next t ∧
    (∀ z : Zone, (∀ m : FanModule, s.cool.modules[m].zone ≠ z) → t.cool.zones[z] =
      { s.cool.zones[z] with output := none, state := .ok }) ∧
    (∀ (z : Zone) (m : FanModule), s.cool.modules[m].zone = z →
      let u := s.cool.zones[z]
      let u' := t.cool.zones[z]
      let offered := fun d : Nat =>
        (∃ (b : Bay) (x : Int), s.bays[b].state = .online ∧ s.bays[b].activeZone = some z ∧
          t.therm.records[b].reading = some x ∧ t.therm.records[b].age ≤ s.therm.staleLimit ∧ d = curveValue u.curve x) ∨
        (∃ b : Bay, s.bays[b].state = .online ∧ s.bays[b].activeZone = some z ∧
          (t.therm.records[b].reading = none ∨ s.therm.staleLimit < t.therm.records[b].age) ∧ d = u.staleFloor) ∨
        (∃ (n : SensorNo) (x : Int), t.therm.sensors[n].zone = z ∧ t.therm.sensors[n].enable = true ∧
          t.therm.sensors[n].reading = some x ∧ d = curveValue u.curve (x + t.therm.sensors[n].offset))
      let rotors := 2 * s.cool.modules.toList.countP (fun x => x.zone = z)
      let stalled := stalledCount t z
      let previous := u.output.getD 1000
      ((∀ d : Nat, ¬ offered d) → u'.base = u.minDuty) ∧
      (∀ d : Nat, offered d → offered u'.base ∧ d ≤ u'.base) ∧
      u'.sum = min 1000 (u'.base + u.boost * s.bays.toList.countP (fun r => decide (r.state = .starting) &&
        decide (r.activeZone = some z))) ∧
      (stalled = rotors → u'.target = max u.minDuty 1000) ∧
      (stalled < rotors → ∃ q : Nat, u'.target = max u.minDuty (min 1000 q) ∧ u'.sum * rotors ≤ q * (rotors - stalled) ∧
        (q * (rotors - stalled) < u'.sum * rotors + (rotors - stalled))) ∧
      u'.output = some (max u.minDuty (if previous < u'.target then min u'.target (previous + u.slewUp)
        else max u'.target (previous - u.slewDown))) ∧
      u'.curve = u.curve ∧ u'.minDuty = u.minDuty) ∧
    ∀ m : FanModule, t.cool.modules[m].zone = s.cool.modules[m].zone ∧
      t.cool.modules[m].override = s.cool.modules[m].override ∧
      (s.cool.modules[m].override = none → t.cool.zones[s.cool.modules[m].zone].output = some t.cool.modules[m].duty) ∧
      (s.cool.modules[m].override ≠ none → t.cool.modules[m].duty = s.cool.modules[m].duty)

/-- LOCATE_END and ACTIVITY_WINDOW_END take their flag or window away at its end time, and the lights follow (R154,
R158). PATTERN_TURN comes at the first moment at which the output of a BLINK pattern differs from what its lights
show, and the lights take the new output then (R148, R149). That an end is taken at its end time, and a pattern turn
at the next turn, is the model's choice (log entries 2 and 15). The pins of a bay's lights after the lights take
their values (R1, R3, R153, R155): the green light shows the pattern of its state, the amber light that of the first
cause present, a TEST bay its preload values; an unlit line is inactive. -/
def Obligations.LightsFollowTimersStateAndCauses : Prop :=
  (∀ (b : Bay) (e : Nat) (s : State), AtRest s →
     ((s.light.bays[b]).locate = .until e → exec (.locateEnd b) s = .next (drivePins
       { s with now := max s.now e
                light := { s.light with bays := upd s.light.bays b (fun u => { u with locate := .absent }) } })) ∧
     ((s.light.bays[b]).locate = .forever → exec (.locateEnd b) s = .next s) ∧
     ((s.light.bays[b]).window = some e → exec (.activityWindowEnd b) s = .next (drivePins
       { s with now := max s.now e
                light := { s.light with bays := upd s.light.bays b (fun u => { u with window := none }) } }))) ∧
  (∀ (p : PatternNo) (s : State), AtRest s → 0 < s.light.patterns[p].onTime → 0 < s.light.patterns[p].offTime →
     s.light.patterns[p].clock ≤ s.now →
     ∃ n, s.now < n ∧ exec (.patternTurn p) s = .next (drivePins { s with now := n }) ∧
       patternOutput n s.light.patterns[p] ≠ patternOutput s.now s.light.patterns[p] ∧
       ∀ k, s.now ≤ k → k < n → patternOutput k s.light.patterns[p] = patternOutput s.now s.light.patterns[p]) ∧
  (∀ (b : Bay) (s : State),
     let lit := fun (c : Cause) => patternOutput s.now s.light.patterns[s.light.map[c.idx]]
     let t := drivePins s
     let u := s.light.bays[b]
     let shows := fun (pin : LightPin) (pol : Polarity) (drive : Drive) (v : Light) =>
       pin.level = pinLevel pol (decide (v = .lit)) ∧
       pin.strength = (if v = .dark then .fixed else if s.light.dim = true ∨ drive = .reduced then .reduced else .full)
     let green := shows t.line.bays[b].laPin s.line.bays[b].record.laPol s.line.bays[b].record.laDrive
     let amber := shows t.line.bays[b].lbPin s.line.bays[b].record.lbPol s.line.bays[b].record.lbDrive
     (s.bays[b].state = .test → green s.line.bays[b].preloadLA ∧ amber s.line.bays[b].preloadLB) ∧
     (s.bays[b].state = .queued ∨ s.bays[b].state = .starting ∨ s.bays[b].state = .cycling → green (lit .slow)) ∧
     (s.bays[b].state = .online → green (if u.window = none then lit .steady else lit .activity)) ∧
     (s.bays[b].state = .empty ∨ s.bays[b].state = .seating ∨ s.bays[b].state = .off ∨ s.bays[b].state = .faulted →
       green .dark) ∧
     (s.bays[b].state = .faulted → amber (lit .fault)) ∧
     (s.bays[b].state ≠ .faulted → s.bays[b].state ≠ .test →
       amber (if u.locate ≠ .absent then lit .locate else if u.controllerFault then lit .controllerFault
         else if u.predictedFault then lit .predictedFault else if u.rebuild then lit .rebuild else .dark)))

/-! ### Requests: the envelope, the reads, the bays -/

/-- A request whose payload is shorter than its code requires is answered BAD_REQUEST before any argument is read,
and changes nothing but its queue (R168, R171); so are a request with no code or an unknown one (R168), an empty bay
set, and a value outside a list of named values (R171); an identifier outside its numbering is OUT_OF_RANGE (R171).
Checks stand in R171's order. The answers of the four power requests that change nothing, by the state of the bay
(R30, R31, R32, R34), with OUT_OF_RANGE for a bay number outside 0 to 15 (section 2.6). -/
def Obligations.RequestsAreTurnedAway : Prop :=
  (∀ x ∈ requestRows, ∀ (p : UpPort) (req : Frame) (s : State), AtRest s → nextRequest s = some (p, req) →
     requestCode req = x.2.1 → req.words < 1 + x.2.2 →
     exec x.1 s = .next (answered p req .badRequest [] (takeRequest p s))) ∧
  (∀ (p : UpPort) (req : Frame) (s : State), AtRest s → nextRequest s = some (p, req) →
     (req.words = 0 ∨ ∀ x ∈ requestRows, requestCode req ≠ x.2.1) →
     exec .unknownRequest s = .next (answered p req .badRequest [] (takeRequest p s))) ∧
  (∀ (p : UpPort) (req : Frame) (s : State), AtRest s →
     let w := fun k => (arg req k).toNat
     let empty := w 0 % 65536 = 0
     let scope := w 0 / 16777216
     let ruleListed := w 1 ≤ 1 ∧ (w 3 = 1 ∨ w 3 = 2) ∧ w 8 ≤ 2 ∧ w 9 ≤ 1
     (∀ x ∈ [(Instr.setBayPolicy, (0x0114 : BitVec 16), 7, empty ∨ 1 < w 1 ∨ 1 < w 5 ∨ 1 < w 6),
         (.setBayLines, 0x0120, 7, empty ∨ ∃ k, 1 ≤ k ∧ k ≤ 6 ∧ 1 < w k), (.lineTestEnter, 0x0122, 1, empty),
         (.lineTestExit, 0x0125, 1, empty), (.linePreload, 0x0124, 3, empty ∨ 1 < w 1 ∨ 1 < w 2),
         (.setOcFilter, 0x0133, 2, empty ∨ w 1 ∉ [1, 5, 10, 50]), (.readCounters, 0x0141, 1, 1 < w 0),
         (.loadSnoopRule, 0x0160, 10, ¬ruleListed), (.setSensor, 0x0162, 4, 1 < w 3),
         (.setLight, 0x0180, 6, empty ∨ 2 < w 1 ∨ 2 < w 2 ∨ 2 < w 3 ∨ (w 4 ≠ 0 ∧ w 4 ≠ 2)),
         (.setNightDim, 0x0183, 1, 1 < w 0), (.subscribe, 0x0191, 1, 1 < w 0), (.readEvents, 0x0190, 1, 1 < scope)],
       Serves x.2.1 x.2.2.1 p req s → x.2.2.2 →
       exec x.1 s = .next (answered p req .badRequest [] (takeRequest p s))) ∧
     (∀ x ∈ [(Instr.loadClass, (0x0132 : BitVec 16), 4, 8 ≤ w 0),
         (.loadSnoopRule, 0x0160, 10, ruleListed ∧ (8 ≤ w 0 ∨ 8 ≤ w 2)),
         (.setSensor, 0x0162, 4, w 3 ≤ 1 ∧ (4 ≤ w 0 ∨ 4 ≤ w 1)),
         (.loadCurve, 0x0170, 2, 3 + 2 * w 1 ≤ req.words ∧ 4 ≤ w 0), (.setZone, 0x0171, 6, 4 ≤ w 0),
         (.setFanMap, 0x0172, 8, ∃ m : FanModule, 4 ≤ w m.val), (.setFanOverride, 0x0173, 3, 8 ≤ w 0),
         (.loadPattern, 0x0181, 3, 8 ≤ w 0), (.setLightMap, 0x0182, 9, ∃ c : Fin 8, 8 ≤ w c.val),
         (.readEvents, 0x0190, 1, scope = 0 ∧ 16 ≤ w 0 % 256)],
       Serves x.2.1 x.2.2.1 p req s → x.2.2.2 →
       exec x.1 s = .next (answered p req .outOfRange [] (takeRequest p s)))) ∧
  (∀ (p : UpPort) (req : Frame) (b : Bay) (s : State), AtRest s →
     (∀ x ∈ [(Instr.powerOn, (0x0110 : BitVec 16), 1), (.powerOff, 0x0111, 2), (.powerCycle, 0x0112, 2),
         (.clearFault, 0x0113, 1)], Serves x.2.1 x.2.2 p req s → 16 ≤ (arg req 0).toNat →
       exec x.1 s = .next (answered p req .outOfRange [] (takeRequest p s))) ∧
     (∀ x ∈ [(Instr.powerOn, (0x0110 : BitVec 16), 1, BayState.starting, Result.already),
         (.powerOn, 0x0110, 1, .online, .already), (.powerOn, 0x0110, 1, .faulted, .faultLatched),
         (.powerOn, 0x0110, 1, .empty, .noDrive), (.powerOn, 0x0110, 1, .seating, .refusedState),
         (.powerOn, 0x0110, 1, .cycling, .refusedState), (.powerOn, 0x0110, 1, .test, .refusedState),
         (.powerOff, 0x0111, 2, .faulted, .faultLatched), (.powerOff, 0x0111, 2, .empty, .noDrive),
         (.powerOff, 0x0111, 2, .seating, .refusedState), (.powerOff, 0x0111, 2, .test, .refusedState),
         (.powerCycle, 0x0112, 2, .faulted, .faultLatched), (.powerCycle, 0x0112, 2, .empty, .noDrive),
         (.powerCycle, 0x0112, 2, .seating, .refusedState), (.powerCycle, 0x0112, 2, .off, .refusedState),
         (.powerCycle, 0x0112, 2, .queued, .refusedState), (.powerCycle, 0x0112, 2, .cycling, .refusedState),
         (.powerCycle, 0x0112, 2, .test, .refusedState)],
       Serves x.2.1 x.2.2.1 p req s → (arg req 0).toNat = b.val → s.bays[b].state = x.2.2.2.1 →
       exec x.1 s = .next (answered p req x.2.2.2.2 [] (takeRequest p s))) ∧
     (Serves 0x0110 1 p req s → (arg req 0).toNat = b.val → s.bays[b].state = .off →
       s.bays[b].hold = some (otherUp p) → exec .powerOn s = .next (answered p req .held [] (takeRequest p s))))

/-- The reading requests answer OK and change nothing but their queue (R173, R42, R64, R102, R123, R145, R182); each
carries the words that its rule lists, one word for one item, in the rule's order, with the codes of sections 12.2
and 12.4 (R18, R200), and the response frame begins with the request code, the result and a zero byte (section 12.3).
Where the layout is the model's own reading, log entries 13 and 20 say so: the absent cause, the group's timer in
READ_BAY, and the two words of an identity. -/
def Obligations.ReadsReportAndChangeNothing : Prop :=
  (∀ (p : UpPort) (req : Frame) (s : State), AtRest s →
    let answers := fun ws : List Word => Host.Outcome.next (answered p req .ok ws (takeRequest p s))
    let left := fun unit endsAt : Nat => wNat ((endsAt - s.now + (unit - 1)) / unit)
    let head := fun b : Bay =>
      let r := s.bays[b]
      [wState r.state, wPolicy r.policy, wNat r.cfgClass.val, wNat r.cfgZone.val, wOpt (fun c => wNat c.val) r.chargedClass,
        wOpt (fun z => wNat z.val) r.activeZone, wOpt wFault r.fault, wOpt (fun u => wPort (.up u)) r.hold]
    let waiting := fun u : UpPort => (s.mgmt.requests[upIdx u]).length - if u = p then 1 else 0
    let zones := fun v : Vector Bool 4 =>
      wNat (v[0].toNat + 2 * v[1].toNat + 4 * v[2].toNat + 8 * v[3].toNat)
    (Serves 0x0101 0 p req s → exec .readIdent s = answers
      [0x54A7, 0x0F16, 1, wNat s.addrStrap.toNat, wNat s.budStrap.toNat, wNat (0xFA0000 + s.addrStrap.toNat),
        wNat ([600, 900, 1200, 1800].getD s.budStrap.toNat 0), wPort (.up p), wNat (waiting .u0), wNat (waiting .u1),
        wOpt (fun h => wPort (.up h.port)) s.mgmt.held]) ∧
    (Serves 0x0102 1 p req s → ∀ b : Bay, (arg req 0).toNat = b.val →
      let r := s.bays[b]
      let x := s.line.bays[b]
      exec .readBay s = answers (head b ++
        [wNat r.retriesSetting, wNat r.retriesLeft, wOpt (fun a => wNat a.toNat) r.driveAddr,
          wOpt (fun c => wNat c.val) r.declClass, wOpt (fun k => wNat k.val) r.profile,
          wOpt (fun i => wNat (i.toNat / 2 ^ 32)) r.identity, wOpt (fun i => wNat (i.toNat % 2 ^ 32)) r.identity,
          wOpt (fun k => match k with
            | .empty => 0
            | .off => 2
            | .faulted _ => 7) r.prior,
          (match r.prior with
            | some (.faulted c) => wFault c
            | _ => 0xFFFFFFFF),
          wBool r.ocProt, wBool r.otProt, wOpt (left 100) (r.startTimer.or r.cycleTimer), wNat s.power.charge[b],
          wOpt (fun e => wQueueClass e.cls) (s.power.queue.find? fun e => decide (e.bay = b)),
          wOpt wNat (s.power.queue.findIdx? fun e => decide (e.bay = b)),
          wLevel x.record.prsActive, wPolarity x.record.pwrPol, wPolarity x.record.laPol, wDrive x.record.laDrive,
          wPolarity x.record.lbPol, wDrive x.record.lbDrive, wPresence x.presence, wBool (powered r.state),
          wLight (laValue b s), wLight (lbValue b s),
          wOpt (left 100) (if x.inGroup = true then s.line.groupTimer else x.debounce), wBool x.inGroup,
          wLight x.preloadLA, wLight x.preloadLB, wNat x.edges])) ∧
    (Serves 0x0102 1 p req s → 16 ≤ (arg req 0).toNat →
      exec .readBay s = .next (answered p req .outOfRange [] (takeRequest p s))) ∧
    (Serves 0x0103 0 p req s → exec .readBays s = answers ((List.finRange 16).flatMap (fun b => head b ++
      [wOpt (fun a => wNat a.toNat) s.bays[b].driveAddr, wNat s.power.charge[b], wPresence s.line.bays[b].presence]) ++
      [wNat s.line.debounceSetting, wBool s.light.dim])) ∧
    (Serves 0x0134 0 p req s →
      let weak := s.cool.zones.toList.countP (fun z => decide (z.state ≠ .ok))
      exec .readPower s = answers ([wNat s.power.live, wOpt wNat s.power.pendingCeiling,
        wNat ([600, 900, 1200, 1800].getD s.budStrap.toNat 0), wNat s.power.charge.toList.sum] ++
        s.power.charge.toList.map wNat ++ [wNat s.power.queue.length] ++
        s.power.queue.flatMap (fun e => [wNat e.bay.val, wQueueClass e.cls]) ++
        [wNat (s.bays.toList.countP fun r => decide (r.state = .starting)), wNat s.power.limit,
          wNat (max 1 (s.power.limit - weak)), wNat weak, wNat s.power.staggerSetting, wOpt (left 100) s.power.stagger,
          zones s.power.blocked] ++
        s.power.classes.toList.flatMap (fun c => [wNat c.startDraw, wNat c.runDraw, wNat c.startWindow]) ++
        (List.finRange 16).flatMap (fun b => [wNat s.power.ocSetting[b], wFilter s.power.ocFilter[b]]))) ∧
    (Serves 0x0152 0 p req s →
      let entries := (List.finRange 18).filterMap (fun i => (s.route.learned[i]).map fun l => [wNat i.val, 0, wNat i.val,
          wNat l.addr.toNat, wOpt (fun n => wNat (256 * n.slot + (portIdx n.port).val)) l.note]) ++
        (List.finRange 30).filterMap (fun i => (s.route.statics[i]).map fun x => [wNat (18 + i.val), 1, wPort x.port,
          wNat x.addr.toNat, 0xFFFFFFFF])
      exec .readRoutes s = answers ([wNat (0xFA0000 + s.addrStrap.toNat), wNat (s.route.statics.toList.countP Option.isNone),
        wNat entries.length] ++ entries.flatten)) ∧
    (Serves 0x0163 0 p req s → exec .readThermal s = answers ([wInt s.therm.warn, wInt s.therm.shutdown,
        wNat s.therm.otFilter, wNat s.therm.staleLimit] ++
      s.therm.records.toList.flatMap (fun r => [wOpt wInt r.reading,
        wOpt (fun _ => wBool (decide (s.therm.staleLimit < r.age))) r.reading, wNat r.age, wNat r.samples, wNat r.bad,
        wNat r.streak]) ++ [zones s.therm.hot] ++
      s.therm.sensors.toList.flatMap (fun x => [wNat x.zone.val, wInt x.offset, wBool x.enable, wOpt wInt x.reading]) ++
      s.therm.rules.toList.flatMap (fun r => [wBool r.enable, wNat r.profile.val, wSnoopKind r.kind, wNat r.word, r.mask,
        r.value, wNat r.byte, wEncoding r.encoding, wAction r.action]))) ∧
    (Serves 0x0175 0 p req s → exec .readCooling s = answers ([wNat s.cool.period, wNat s.cool.stallRpm,
        wNat s.cool.stallFilter, wNat (s.cool.periodEnd - s.now)] ++
      (List.finRange 4).flatMap (fun z =>
        let u := s.cool.zones[z]
        [wNat u.curve.length] ++ u.curve.flatMap (fun k => [wInt k.temp, wNat k.duty]) ++
          List.replicate (12 - 2 * u.curve.length) 0xFFFFFFFF ++
          [wNat u.minDuty, wNat u.staleFloor, wNat u.boost, wNat u.slewUp, wNat u.slewDown, wOpt wNat u.output,
            wNat (2 * s.cool.modules.toList.countP (fun m => decide (m.zone = z))), wNat (stalledCount s z), wFan u.state,
            wNat u.base, wNat u.sum, wNat u.target]) ++
      s.cool.modules.toList.flatMap (fun m => [wNat m.zone.val, wNat m.duty, wFan m.state, wBool m.lowWindow,
        wOpt (fun o => wNat o.duty) m.override, wOpt (fun o => left 1000 o.endsAt) m.override]) ++
      s.cool.modules.toList.flatMap (fun m => [m.rotorA, m.rotorB].flatMap fun r =>
        [wBool r.stalled, wNat r.run, wNat r.rpm, wNat r.pulses])))) ∧
  (∀ (a : Addr) (req : Frame) (r : Result) (w : Word), requestCode req = 0x0101 →
    (responseFrame a req ⟨r, [w]⟩).payload = [0x01, 0x01, resultByte r, 0, w.extractLsb' 24 8, w.extractLsb' 16 8,
      w.extractLsb' 8 8, w.extractLsb' 0 8]) ∧
  (∀ (n : Nat) (i : Int), (wNat n).toNat = n % 2 ^ 32 ∧ (wInt i).toInt = i.bmod (2 ^ 32) ∧
    wOpt wNat (none : Option Nat) = 0xFFFFFFFF ∧ wOpt wInt (none : Option Int) = 0xFFFFFFFF) ∧
  [BayState.empty, .seating, .off, .queued, .starting, .online, .cycling, .faulted, .test].map wState =
    [0, 1, 2, 3, 4, 5, 6, 7, 8] ∧
  [FaultCause.overcurrent, .overtemp, .noHello, .overbudget, .addressConflict].map wFault = [1, 2, 3, 4, 5] ∧
  [Level.low, .high].map wLevel = [0, 1] ∧ [Polarity.activeHigh, .activeLow].map wPolarity = [0, 1] ∧
  [Drive.full, .reduced].map wDrive = [0, 1] ∧ [Policy.auto, .manual].map wPolicy = [0, 1] ∧
  [Light.dark, .lit].map wLight = [0, 1] ∧ [Presence.absent, .present].map wPresence = [0, 1] ∧
  [false, true].map wBool = [0, 1] ∧ [FanState.ok, .degraded, .failed].map wFan = [0, 1, 2] ∧
  [OcFilter.clear, .timing 0, .persisted].map wFilter = [0, 1, 2] ∧ [QueueClass.priority, .normal].map wQueueClass = [0, 1] ∧
  [Encoding.signedC, .offset64C, .nonzero].map wEncoding = [0, 1, 2] ∧ [SnoopAction.temperature, .faultHint].map wAction = [0, 1] ∧
  [SnoopKind.data, .status].map wSnoopKind = [1, 2] ∧
  [Port.bay 0, .bay 15, .up .u0, .up .u1].map wPort = [0, 15, 16, 17] ∧
  [Result.ok, .okClamped, .already, .refusedState, .held, .faultLatched, .noDrive, .outOfRange, .tableFull, .duplicate,
    .notFound, .badTable, .badRequest].map resultByte = [0, 1, 2, 3, 4, 5, 6, 7, 8, 9, 10, 11, 12]

/-- POWER_ON (R30): an OFF bay that the other port does not hold is QUEUED at the tail of PRIORITY with fresh retries
and no hold; a QUEUED bay of NORMAL moves to the tail of PRIORITY; an attempt follows either. -/
def Obligations.PowerOnQueuesWithPriority : Prop :=
  ∀ (p : UpPort) (req : Frame) (b : Bay) (s : State), AtRest s → BaysConsistent s → Serves 0x0110 1 p req s →
    (arg req 0).toNat = b.val →
    let joined := fun (q : List QueueEntry) =>
      q.filter (fun x => x.cls = .priority) ++ [⟨b, .priority⟩] ++ q.filter (fun x => x.cls = .normal)
    (s.bays[b].state = .off → s.bays[b].hold ≠ some (otherUp p) →
      exec .powerOn s = .next (finish (attempt (answered p req .ok []
        { takeRequest p s with
          bays := upd s.bays b (fun r => { r with state := .queued, hold := none, retriesLeft := r.retriesSetting })
          power := { s.power with queue := joined s.power.queue } })))) ∧
    (s.bays[b].state = .queued → ⟨b, .normal⟩ ∈ s.power.queue →
      exec .powerOn s = .next (finish (attempt (answered p req .ok []
        { takeRequest p s with
          power := { s.power with queue := joined (s.power.queue.filter (fun x => x.bay ≠ b)) } })))) ∧
    (s.bays[b].state = .queued → ⟨b, .priority⟩ ∈ s.power.queue →
      exec .powerOn s = .next (answered p req .already [] (takeRequest p s)))

/-- POWER_OFF (R31): a QUEUED bay leaves the queue and an attempt follows, a CYCLING bay loses its timer, and an OFF
bay takes a hold it does not have; the hold names the requester when the flag is set. A bay with power leaves power
(R22). POWER_CYCLE (R32): a bay with power leaves power (R22) and is CYCLING for the off time, which is at least 100
ms. -/
def Obligations.PowerOffAndCycleStopTheBay : Prop :=
  (∀ (p : UpPort) (req : Frame) (b : Bay) (s : State), AtRest s → BaysConsistent s → Serves 0x0111 2 p req s →
     (arg req 0).toNat = b.val →
     let hold := if arg req 1 = 0 then none else some p
     (s.bays[b].state = .queued → exec .powerOff s = .next (finish (attempt (answered p req .ok []
       { takeRequest p s with
         bays := upd s.bays b (fun r => { r with state := .off, hold := hold })
         power := { s.power with queue := s.power.queue.filter (fun x => x.bay ≠ b) } })))) ∧
     (s.bays[b].state = .cycling → exec .powerOff s = .next (drivePins (answered p req .ok []
       { takeRequest p s with
         bays := upd s.bays b (fun r => { r with state := .off, hold := hold, cycleTimer := none }) }))) ∧
     (powered s.bays[b].state = true → ∃ t, exec .powerOff s = .next t ∧ LeftPower b s t ∧ t.bays[b].state = .off ∧
       t.bays[b].hold = hold ∧ Responded p req .ok [] s t ∧ t.mgmt.requests = (takeRequest p s).mgmt.requests) ∧
     (s.bays[b].state = .off → arg req 1 = 0 ∨ s.bays[b].hold = some p →
       exec .powerOff s = .next (answered p req .already [] (takeRequest p s))) ∧
     (s.bays[b].state = .off → arg req 1 ≠ 0 → s.bays[b].hold = none →
       exec .powerOff s = .next (answered p req .ok []
         { takeRequest p s with bays := upd s.bays b (fun r => { r with hold := some p }) })) ∧
     (s.bays[b].state = .off → arg req 1 ≠ 0 → s.bays[b].hold = some (otherUp p) →
       exec .powerOff s = .next (answered p req .held [] (takeRequest p s)))) ∧
  (∀ (p : UpPort) (req : Frame) (b : Bay) (s : State), AtRest s → BaysConsistent s → Serves 0x0112 2 p req s →
     (arg req 0).toNat = b.val → powered s.bays[b].state = true →
     ∃ t, exec .powerCycle s = .next t ∧ LeftPower b s t ∧ t.bays[b].state = .cycling ∧
       t.bays[b].cycleTimer = some (s.now + 100 * max 1 ((arg req 1).toNat % 256)) ∧ t.bays[b].hold = none ∧
       Responded p req (if (arg req 1).toNat % 256 = 0 then .okClamped else .ok) [] s t ∧
       t.mgmt.requests = (takeRequest p s).mgmt.requests)

/-- R34: CLEAR_FAULT takes a FAULTED bay to OFF with no hold, outside the spin-up queue; EMPTY answers NO_DRIVE;
every other state, TEST with its kept fault cause among them, refuses and changes nothing. -/
def Obligations.ClearFaultEndsAFault : Prop :=
  ∀ (p : UpPort) (req : Frame) (b : Bay) (s : State), AtRest s → Serves 0x0113 1 p req s → (arg req 0).toNat = b.val →
    (s.bays[b].state = .faulted → exec .clearFault s = .next (drivePins (driveAlert (answered p req .ok []
      { takeRequest p s with
        bays := upd s.bays b (fun r => { r with state := .off, fault := none, hold := none }) })))) ∧
    (s.bays[b].state = .empty → exec .clearFault s = .next (answered p req .noDrive [] (takeRequest p s))) ∧
    (s.bays[b].state ≠ .faulted → s.bays[b].state ≠ .empty →
      exec .clearFault s = .next (answered p req .refusedState [] (takeRequest p s)))

/-- SET_BAY_POLICY (R40): the six settings of every bay of the set are written, retries above 3 as 3, and a QUEUED
bay of the set brings an attempt (R56); no other field of any bay changes. A class or a zone outside its range
changes nothing. SET_STAGGER (R54) and LOAD_CLASS (R44): the clamped values are stored and reported; a rise of the
effective limit, and any class that is loaded, brings an attempt (R53, R56); SET_OC_FILTER stores one of its four
values for the set (R60). That the LOAD_CLASS response begins with the class identifier and that the OK_CLAMPED of
SET_BAY_POLICY carries no data are deduced (log entry 13). -/
def Obligations.PolicyAndAdmissionSettingsAreStored : Prop :=
  (∀ (p : UpPort) (req : Frame) (manual oc ot : Bool) (s : State), AtRest s → Serves 0x0114 7 p req s →
     twoValued (arg req 1) = some manual → twoValued (arg req 5) = some oc → twoValued (arg req 6) = some ot →
     emptySet (arg req 0) = false →
     (∀ (cls : ClassNo) (zone : Zone), (arg req 2).toNat = cls.val → (arg req 3).toNat = zone.val →
       let done := answered p req (if 3 < (arg req 4).toNat then .okClamped else .ok) []
         { takeRequest p s with bays := tab (fun b => if inSet (arg req 0) b then
           { s.bays[b] with policy := if manual then .manual else .auto, cfgClass := cls, cfgZone := zone
                            retriesSetting := min (arg req 4).toNat 3, ocProt := oc, otProt := ot }
           else s.bays[b]) }
       exec .setBayPolicy s = .next
         (if ∃ b : Bay, inSet (arg req 0) b = true ∧ s.bays[b].state = .queued then finish (attempt done) else done)) ∧
     (8 ≤ (arg req 2).toNat ∨ 4 ≤ (arg req 3).toNat →
       exec .setBayPolicy s = .next (answered p req .outOfRange [] (takeRequest p s)))) ∧
  (∀ (p : UpPort) (req : Frame) (s : State), AtRest s →
     (Serves 0x0131 2 p req s →
       let n := min (arg req 0).toNat 150
       let k := min 8 (max 1 (arg req 1).toNat)
       let s' := { takeRequest p s with power := { s.power with staggerSetting := n, limit := k } }
       let done := answered p req (if n = (arg req 0).toNat ∧ k = (arg req 1).toNat then .ok else .okClamped)
         [wNat n, wNat k, wNat (max 1 (k - weakZones s))] s'
       exec .setStagger s = .next
         (if max 1 (s.power.limit - weakZones s) < max 1 (k - weakZones s) then finish (attempt done) else done)) ∧
     (Serves 0x0132 4 p req s → ∀ c : ClassNo, (arg req 0).toNat = c.val →
       let a := min (arg req 1).toNat 1000
       let r := min (arg req 2).toNat 1000
       let w := min 200 (max 10 (arg req 3).toNat)
       exec .loadClass s = .next (finish (attempt (answered p req
         (if a = (arg req 1).toNat ∧ r = (arg req 2).toNat ∧ w = (arg req 3).toNat then .ok else .okClamped)
         [wNat c.val, wNat a, wNat r, wNat w]
         { takeRequest p s with power := { s.power with classes := put s.power.classes c ⟨a, r, w⟩ } })))) ∧
     (Serves 0x0133 2 p req s → emptySet (arg req 0) = false → (arg req 1).toNat ∈ [1, 5, 10, 50] →
       exec .setOcFilter s = .next (answered p req .ok []
         { takeRequest p s with power := { s.power with ocSetting := tab (fun b =>
           if inSet (arg req 0) b then (arg req 1).toNat else s.power.ocSetting[b]) } })))

/-! ### Requests: lines, power, ports -/

/-- SET_BAY_LINES (R6) where no presence edge follows: every bay of the set but those that would change PWR polarity
while they have power takes the record, and its pins follow; the refused bays are reported. LINE_PRELOAD writes both
preload values of every bay of the set, whatever its state, and the lights of TEST bays follow (R15); LINE_SAMPLE
reports every TEST bay and sets its edge count to 0 (R16); SET_SEATING stores a debounce of at most 50 (R10). The
word layout of the LINE_SAMPLE response is partly deduced, and so is that the OK_CLAMPED of SET_SEATING carries no
data (log entry 13). -/
def Obligations.LineSettingsAreWritten : Prop :=
  (∀ (p : UpPort) (req : Frame) (rec : LineRecord) (s : State), AtRest s → Serves 0x0120 7 p req s →
     lineRecordArg req = some rec → emptySet (arg req 0) = false →
     let refused := fun (b : Bay) => inSet (arg req 0) b && (powered s.bays[b].state &&
       decide (s.line.bays[b].record.pwrPol ≠ rec.pwrPol))
     (∀ b : Bay, inSet (arg req 0) b = true → refused b = false →
       presenceOf rec.prsActive s.line.bays[b].prsIn = s.line.bays[b].presence) →
     exec .setBayLines s = .next (drivePins (answered p req
       (if ∃ b : Bay, refused b = true then .refusedState else .ok) [wBays refused]
       { takeRequest p s with line := { s.line with bays := tab (fun b =>
         if inSet (arg req 0) b && !refused b then { s.line.bays[b] with record := rec } else s.line.bays[b]) } }))) ∧
  (∀ (p : UpPort) (req : Frame) (la lb : Bool) (s : State), AtRest s →
     (Serves 0x0124 3 p req s → emptySet (arg req 0) = false → twoValued (arg req 1) = some la →
       twoValued (arg req 2) = some lb →
       exec .linePreload s = .next (drivePins (answered p req .ok []
         { takeRequest p s with line := { s.line with bays := tab (fun b => if inSet (arg req 0) b then
           { s.line.bays[b] with preloadLA := if la then .lit else .dark, preloadLB := if lb then .lit else .dark }
           else s.line.bays[b]) } }))) ∧
     (Serves 0x0123 0 p req s →
       let tested := allBays.filter (fun b => decide (s.bays[b].state = .test))
       exec .lineSample s = .next (answered p req (if tested = [] then .refusedState else .ok)
         ([wBays (fun b => decide (s.bays[b].state = .test)), wNat tested.length] ++ tested.flatMap (fun b =>
           [wPresence s.line.bays[b].presence, wLight s.line.bays[b].preloadLA, wLight s.line.bays[b].preloadLB,
             wNat s.line.bays[b].edges]))
         { takeRequest p s with line := { s.line with bays := tab (fun b => if s.bays[b].state = .test then
           { s.line.bays[b] with edges := 0 } else s.line.bays[b]) } })) ∧
     (Serves 0x0121 1 p req s →
       exec .setSeating s = .next (answered p req (if 50 < (arg req 0).toNat then .okClamped else .ok) []
         { takeRequest p s with line := { s.line with debounceSetting := min (arg req 0).toNat 50 } })))

/-- SET_BAY_LINES judges each bay's presence again under its new record, and a change is a presence edge (R6, R7):
counted in TEST (R14), the start of seating in EMPTY, which a debounce of 0 ends at once by the policy (R8, R9, R24),
the end of it in SEATING (R8, R12), a removal elsewhere (R8, R23). Bays outside the set, and those that refuse the
record, keep their record and are touched by admissions alone. -/
def Obligations.PresenceFollowsNewLineSettings : Prop :=
  ∀ (p : UpPort) (req : Frame) (rec : LineRecord) (s : State), BaysConsistent s → LinesConsistent s →
    Serves 0x0120 7 p req s → lineRecordArg req = some rec → emptySet (arg req 0) = false →
    let refused := fun (b : Bay) => inSet (arg req 0) b && (powered s.bays[b].state &&
      decide (s.line.bays[b].record.pwrPol ≠ rec.pwrPol))
    let takes := fun (b : Bay) => inSet (arg req 0) b && !refused b
    let judged := fun (b : Bay) => if takes b then presenceOf rec.prsActive s.line.bays[b].prsIn
      else s.line.bays[b].presence
    ∃ t, exec .setBayLines s = .next t ∧
      Responded p req (if ∃ b : Bay, refused b = true then .refusedState else .ok) [wBays refused] s t ∧
      t.mgmt.requests = (takeRequest p s).mgmt.requests ∧ t.cool = s.cool ∧
      (∀ b : Bay, t.line.bays[b].record = (if takes b then rec else s.line.bays[b].record) ∧
        t.line.bays[b].presence = judged b ∧ (judged b = s.line.bays[b].presence → UntouchedOrAdmitted b s t ∧
          t.line.bays[b].debounce = s.line.bays[b].debounce ∧ t.line.bays[b].edges = s.line.bays[b].edges)) ∧
      ∀ b : Bay, judged b ≠ s.line.bays[b].presence →
        (s.bays[b].state = .test → t.bays[b] = s.bays[b] ∧
          t.line.bays[b].edges = min 255 (s.line.bays[b].edges + 1)) ∧
        (s.bays[b].state = .empty → 0 < s.line.debounceSetting → t.bays[b] = { s.bays[b] with state := .seating } ∧
          t.line.bays[b].debounce = some (s.now + 100 * s.line.debounceSetting)) ∧
        (s.bays[b].state = .empty → s.line.debounceSetting = 0 →
          (t.ev.bayLatches[b])[BayEvent.inserted.idx] = true ∧
          (s.bays[b].policy = .manual → t.bays[b] = { s.bays[b] with state := .off, hold := none }) ∧
          (s.bays[b].policy = .auto → (t.bays[b].state = .queued ∨ t.bays[b].state = .starting) ∧
            t.bays[b].retriesLeft = s.bays[b].retriesSetting)) ∧
        (s.bays[b].state = .seating → t.bays[b] = { s.bays[b] with state := .empty } ∧
          t.line.bays[b].debounce = none ∧ t.line.bays[b].inGroup = false) ∧
        (s.bays[b].state ≠ .test → s.bays[b].state ≠ .empty → s.bays[b].state ≠ .seating →
          t.bays[b].state = .empty ∧ t.bays[b].hold = none ∧ t.bays[b].fault = none ∧ t.bays[b].cycleTimer = none ∧
          b ∉ t.power.queue.map QueueEntry.bay ∧ (t.ev.bayLatches[b])[BayEvent.removed.idx] = true ∧
          (powered s.bays[b].state = true → t.power.charge[b] = 0 ∧ DisabledQuiet t b))

/-- LINE_TEST_ENTER (R13, R39): EMPTY, FAULTED and unheld OFF bays of the set enter TEST with their prior state, a
FAULTED bay's cause kept in it, and an edge count of 0; the others are reported and left alone. -/
def Obligations.LineTestEnterKeepsThePriorState : Prop :=
  ∀ (p : UpPort) (req : Frame) (s : State), AtRest s → Serves 0x0122 1 p req s →
    emptySet (arg req 0) = false →
    let inS := inSet (arg req 0)
    let enters := fun (b : Bay) => decide (s.bays[b].state = .empty) || decide (s.bays[b].state = .faulted) ||
      (decide (s.bays[b].state = .off) && s.bays[b].hold.isNone)
    let held := fun (b : Bay) => decide (s.bays[b].state = .off) && s.bays[b].hold.isSome
    let already := fun (b : Bay) => decide (s.bays[b].state = .test)
    let refused := fun (b : Bay) => !enters b && !held b && !already b
    let prior := fun (b : Bay) => match s.bays[b].state, s.bays[b].fault with
      | .faulted, some c => Prior.faulted c
      | .off, _ => .off
      | _, _ => .empty
    exec .lineTestEnter s = .next (drivePins (driveAlert (answered p req
      (if ∃ b : Bay, inS b = true ∧ (held b = true ∨ refused b = true) then .refusedState else .ok)
      [wBays (fun b => inS b && enters b), wBays (fun b => inS b && held b), wBays (fun b => inS b && already b),
        wBays (fun b => inS b && refused b)]
      { takeRequest p s with
        bays := tab (fun b => if inS b && enters b then
          { s.bays[b] with state := .test, prior := some (prior b), fault := none } else s.bays[b])
        line := { s.line with bays := tab (fun b => if inS b && enters b then { s.line.bays[b] with edges := 0 }
          else s.line.bays[b]) } })))

/-- LINE_TEST_EXIT (R17): each TEST bay of the set leaves TEST for the state that its prior state and its presence
give, with no hold and no prior state, and a drive found in a bay that was EMPTY is seated; the other bays are
touched by admissions alone. The response names the bays that left TEST and those refused (R172). -/
def Obligations.LineTestExitFollowsPresence : Prop :=
  ∀ (p : UpPort) (req : Frame) (s : State), BaysConsistent s → Serves 0x0125 1 p req s →
    emptySet (arg req 0) = false →
    ∃ t, exec .lineTestExit s = .next t ∧ t.mgmt.requests = (takeRequest p s).mgmt.requests ∧ t.cool = s.cool ∧
      (∀ b : Bay, inSet (arg req 0) b = true → s.bays[b].state = .test →
        t.bays[b].prior = none ∧ t.bays[b].hold = none ∧
        (s.line.bays[b].presence = .absent → t.bays[b].state = .empty ∧ t.bays[b].fault = none ∧
          (s.bays[b].prior ≠ some .empty → (t.ev.bayLatches[b])[BayEvent.removed.idx] = true)) ∧
        (s.line.bays[b].presence = .present → s.bays[b].prior = some .off → t.bays[b].state = .off) ∧
        (∀ c : FaultCause, s.line.bays[b].presence = .present → s.bays[b].prior = some (.faulted c) →
          t.bays[b].state = .faulted ∧ t.bays[b].fault = some c ∧ t.ev.alert = true) ∧
        (s.line.bays[b].presence = .present → s.bays[b].prior = some .empty → 0 < s.line.debounceSetting →
          t.bays[b].state = .seating ∧
          t.line.bays[b].debounce = some (s.now + 100 * s.line.debounceSetting)) ∧
        (s.line.bays[b].presence = .present → s.bays[b].prior = some .empty → s.line.debounceSetting = 0 →
          (t.ev.bayLatches[b])[BayEvent.inserted.idx] = true ∧
          (s.bays[b].policy = .manual → t.bays[b].state = .off) ∧
          (s.bays[b].policy = .auto → (t.bays[b].state = .queued ∨ t.bays[b].state = .starting) ∧
            t.bays[b].retriesLeft = s.bays[b].retriesSetting))) ∧
      (let left := fun (b : Bay) => inSet (arg req 0) b && decide (s.bays[b].state = .test)
       let refused := fun (b : Bay) => inSet (arg req 0) b && decide (s.bays[b].state ≠ .test)
       Responded p req (if ∃ b : Bay, refused b = true then .refusedState else .ok) [wBays left, wBays refused] s t) ∧
      (∀ b : Bay, (inSet (arg req 0) b = false ∨ s.bays[b].state ≠ .test) → UntouchedOrAdmitted b s t)

/-- SET_CEILING (R48): a value V at or above the committed draw is live at once with nothing pending, and a rise
brings an attempt; a value below it is pending while the live ceiling stops at the committed draw. On a rise the draw
that is reported may be the one before or the one after the admission it brings (log entry 8). -/
def Obligations.TheCeilingMovesOrWaits : Prop :=
  ∀ (p : UpPort) (req : Frame) (s : State), AtRest s → Serves 0x0130 1 p req s →
    let v := min 4000 (max 100 (arg req 0).toNat)
    let r := if v = (arg req 0).toNat then Result.ok else .okClamped
    let raised := { takeRequest p s with power := { s.power with live := v, pendingCeiling := none } }
    (v < committed s → exec .setCeiling s = .next (answered p req r [wNat (committed s), wNat v, wNat (committed s)]
      { takeRequest p s with power := { s.power with live := committed s, pendingCeiling := some v } })) ∧
    (committed s ≤ v → v ≤ s.power.live → exec .setCeiling s = .next
      (answered p req r [wNat v, wAbsent, wNat (committed s)] raised)) ∧
    (committed s ≤ v → s.power.live < v → ∃ draw, (draw = committed s ∨ draw = committed (attempt raised)) ∧
      exec .setCeiling s = .next (finish (attempt (answered p req r [wNat v, wAbsent, wNat draw] raised))))

/-- SET_FORWARD_TIMEOUT stores 1 to 255 ms (R81). READ_COUNTERS reports the counters of U0, U1, B0 to B15 and, with
YES, sets every one to 0 after the report (R174). LOAD_ROUTE writes the lowest free static slot unless a valid slot
or the switch holds the address or no slot is free (R100); DROP_ROUTE frees the static slot that holds the address
(R101). The order of the words of READ_COUNTERS is that of R174. That the OK_CLAMPED of SET_FORWARD_TIMEOUT carries
no data is deduced (R169 against R171: log entry 13). -/
def Obligations.CountersAndStaticRoutesAreKept : Prop :=
  (∀ (p : UpPort) (req : Frame) (s : State), AtRest s →
     (Serves 0x0140 1 p req s →
       let v := min 255 (max 1 (arg req 0).toNat)
       exec .setForwardTimeout s = .next (answered p req (if v = (arg req 0).toNat then .ok else .okClamped) []
         { takeRequest p s with fwd := { s.fwd with timeout := v } })) ∧
     (∀ clear : Bool, Serves 0x0141 1 p req s → twoValued (arg req 0) = some clear →
       exec .readCounters s = .next (answered p req .ok
         (portsInOrder.flatMap (fun q => (s.fwd.counters[portIdx q]).toList.map wNat) ++ [wNat s.fwd.timeout])
         { takeRequest p s with fwd := { s.fwd with
           counters := if clear then tab (fun _ => tab fun _ => 0) else s.fwd.counters } }))) ∧
  (∀ (p : UpPort) (req : Frame) (s : State), AtRest s → RoutesDistinct s →
     (Serves 0x0150 2 p req s → ∀ q : Port, (arg req 1).toNat = (portIdx q).val →
       let a := addrArg (arg req 0)
       let used := a = switchAddr s ∨ (∃ x : Port, learnedAddr s x = some a) ∨ ∃ i : Fin 30, staticAddr s i = some a
       (used → exec .loadRoute s = .next (answered p req .duplicate [] (takeRequest p s))) ∧
       (¬used → (∀ i : Fin 30, (s.route.statics[i]).isSome = true) →
         exec .loadRoute s = .next (answered p req .tableFull [] (takeRequest p s))) ∧
       (∀ i : Fin 30, ¬used → s.route.statics[i] = none → (∀ j : Fin 30, j < i → (s.route.statics[j]).isSome = true) →
         exec .loadRoute s = .next (answered p req .ok [wNat (18 + i.val)]
           { takeRequest p s with route := { s.route with statics := put s.route.statics i (some ⟨a, q⟩) } }))) ∧
     (Serves 0x0150 2 p req s → 18 ≤ (arg req 1).toNat →
       exec .loadRoute s = .next (answered p req .outOfRange [] (takeRequest p s))) ∧
     (Serves 0x0151 1 p req s →
       (∀ i : Fin 30, staticAddr s i = some (addrArg (arg req 0)) →
         exec .dropRoute s = .next (answered p req .ok [wNat (18 + i.val)]
           { takeRequest p s with route := { s.route with statics := put s.route.statics i none } })) ∧
       ((∀ i : Fin 30, staticAddr s i ≠ some (addrArg (arg req 0))) →
         exec .dropRoute s = .next (answered p req .notFound [] (takeRequest p s)))))

/-! ### Requests: snooping, cooling, lights, events -/

/-- LOAD_SNOOP_RULE stores a rule whose encoding suits its action, with the word and byte indexes limited, and
refuses one that does not with BAD_TABLE (R107); SET_SENSOR stores zone, offset and enable and keeps the reading
(R122). SET_THRESHOLDS (R117): the four values are clamped first; warn below shutdown is stored, with the streaks
cleared when the shutdown threshold or the filter changes, and the zones' hot reports follow (R116); otherwise
nothing is stored. That the LOAD_SNOOP_RULE response begins with the rule number, and that the OK_CLAMPED of
SET_SENSOR carries no data, are deduced (log entry 13). -/
def Obligations.SnooperSettingsAreStored : Prop :=
  (∀ (p : UpPort) (req : Frame) (s : State), AtRest s →
     (Serves 0x0160 10 p req s → ∀ (n profile : Fin 8) (enable : Bool) (kind : SnoopKind) (encoding : Encoding)
       (action : SnoopAction), (arg req 0).toNat = n.val → twoValued (arg req 1) = some enable →
       (arg req 2).toNat = profile.val → snoopKindArg (arg req 3) = some kind → encodingArg (arg req 8) = some encoding →
       actionArg (arg req 9) = some action →
       let word := min (arg req 4).toNat 254
       let byte := min (arg req 7).toNat 1019
       let rule : SnoopRule := ⟨enable, profile, kind, word, arg req 5, arg req 6, byte, encoding, action⟩
       ((encoding = .nonzero ↔ action = .faultHint) → exec .loadSnoopRule s = .next (answered p req
         (if word = (arg req 4).toNat ∧ byte = (arg req 7).toNat then .ok else .okClamped)
         [wNat n.val, wBool enable, wNat profile.val, wSnoopKind kind, wNat word, arg req 5, arg req 6, wNat byte,
           wEncoding encoding, wAction action]
         { takeRequest p s with therm := { s.therm with rules := put s.therm.rules n rule } })) ∧
       (¬(encoding = .nonzero ↔ action = .faultHint) →
         exec .loadSnoopRule s = .next (answered p req .badTable [] (takeRequest p s)))) ∧
     (Serves 0x0162 4 p req s → ∀ (n : SensorNo) (zone : Zone) (enable : Bool), (arg req 0).toNat = n.val →
       (arg req 1).toNat = zone.val → twoValued (arg req 3) = some enable →
       let o := min 10 (max (-10) (arg req 2).toInt)
       exec .setSensor s = .next (answered p req (if o = (arg req 2).toInt then .ok else .okClamped) []
         { takeRequest p s with therm := { s.therm with sensors := upd s.therm.sensors n (fun x =>
           { x with zone := zone, offset := o, enable := enable }) } }))) ∧
  (∀ (p : UpPort) (req : Frame) (s : State), AtRest s → BaysConsistent s → Serves 0x0161 4 p req s →
     let w := min 110 (max 30 (arg req 0).toInt)
     let d := min 110 (max 30 (arg req 1).toInt)
     let k := min 4 (max 1 (arg req 2).toNat)
     let l := min 60 (max 1 (arg req 3).toNat)
     (d ≤ w → exec .setThresholds s = .next (answered p req .badTable [] (takeRequest p s))) ∧
     (w < d → ∃ t, exec .setThresholds s = .next t ∧ t.therm.warn = w ∧ t.therm.shutdown = d ∧ t.therm.otFilter = k ∧
       t.therm.staleLimit = l ∧ t.therm.rules = s.therm.rules ∧ t.therm.sensors = s.therm.sensors ∧
       (∀ b : Bay, t.therm.records[b] = { s.therm.records[b] with
         streak := if d = s.therm.shutdown ∧ k = s.therm.otFilter then s.therm.records[b].streak else 0 }) ∧
       (∀ z : Zone, t.therm.hot[z] = true ↔ ∃ (b : Bay) (x : Int), s.bays[b].state = .online ∧
         s.bays[b].activeZone = some z ∧ s.therm.records[b].reading = some x ∧ w ≤ x ∧ s.therm.records[b].age ≤ l) ∧
       (∀ b : Bay, UntouchedOrAdmitted b s t) ∧ t.cool = s.cool ∧ t.route = s.route ∧ t.ev.alert = s.ev.alert ∧
       Responded p req (if w = (arg req 0).toInt ∧ d = (arg req 1).toInt ∧ k = (arg req 2).toNat ∧ l = (arg req 3).toNat
         then .ok else .okClamped) [wInt w, wInt d, wNat k, wNat l] s t ∧
       t.mgmt.requests = (takeRequest p s).mgmt.requests))

/-- LOAD_CURVE (R128): a curve of 2 to 6 breakpoints that passes the structure checks replaces the zone's curve and
is reported; any other is refused with BAD_TABLE, once its payload is long enough (R168). SET_ZONE (R136): the five
values are clamped and stored, and the zone's output, its modules' duties and their overrides are raised to the new
min duty at once. SET_FAN_TIMING (R144) stores its three clamped values, and leaves the running period. That the
LOAD_CURVE and SET_ZONE responses begin with the zone is deduced (log entry 13). -/
def Obligations.CurvesZonesAndTimingAreStored : Prop :=
  (∀ (p : UpPort) (req : Frame) (z : Zone) (s : State), AtRest s → Serves 0x0170 2 p req s → (arg req 0).toNat = z.val →
     let n := (arg req 1).toNat
     let curve := (List.range n).map (fun i => Breakpoint.mk (arg req (2 + 2 * i)).toInt (arg req (3 + 2 * i)).toNat)
     let good := 2 ≤ n ∧ n ≤ 6 ∧ (∀ x ∈ curve, -20 ≤ x.temp ∧ x.temp ≤ 120 ∧ x.duty ≤ 1000) ∧
       curve.Pairwise (fun x y => x.temp < y.temp ∧ x.duty ≤ y.duty)
     (req.words < 3 + 2 * n → exec .loadCurve s = .next (answered p req .badRequest [] (takeRequest p s))) ∧
     (3 + 2 * n ≤ req.words → good → exec .loadCurve s = .next (answered p req .ok
       ([wNat z.val, wNat n] ++ curve.flatMap (fun x => [wInt x.temp, wNat x.duty]))
       { takeRequest p s with cool := { s.cool with zones := upd s.cool.zones z (fun u => { u with curve := curve }) } })) ∧
     (3 + 2 * n ≤ req.words → ¬good → exec .loadCurve s = .next (answered p req .badTable [] (takeRequest p s)))) ∧
  (∀ (p : UpPort) (req : Frame) (s : State), AtRest s →
     (Serves 0x0171 6 p req s → ∀ z : Zone, (arg req 0).toNat = z.val →
       let m := min (arg req 1).toNat 1000
       let fl := min (arg req 2).toNat 1000
       let b := min (arg req 3).toNat 500
       let u := min 1000 (max 1 (arg req 4).toNat)
       let d := min 1000 (max 1 (arg req 5).toNat)
       exec .setZone s = .next (answered p req
         (if m = (arg req 1).toNat ∧ fl = (arg req 2).toNat ∧ b = (arg req 3).toNat ∧ u = (arg req 4).toNat ∧
           d = (arg req 5).toNat then .ok else .okClamped)
         [wNat z.val, wNat m, wNat fl, wNat b, wNat u, wNat d]
         { takeRequest p s with cool := { s.cool with
           zones := upd s.cool.zones z (fun x => { x with
             minDuty := m, staleFloor := fl, boost := b, slewUp := u, slewDown := d, output := x.output.map (max m) })
           modules := tab (fun i => if s.cool.modules[i].zone = z then
             { s.cool.modules[i] with
               duty := max s.cool.modules[i].duty m
               lowWindow := s.cool.modules[i].lowWindow || decide (s.cool.modules[i].duty < m ∧ m < 150)
               override := s.cool.modules[i].override.map (fun o => { o with duty := max o.duty m }) }
             else s.cool.modules[i]) } })) ∧
     (Serves 0x0174 3 p req s →
       let v := min 4000 (max 250 (arg req 0).toNat)
       let r := min (arg req 1).toNat 20000
       let k := min 8 (max 1 (arg req 2).toNat)
       exec .setFanTiming s = .next (answered p req
         (if v = (arg req 0).toNat ∧ r = (arg req 1).toNat ∧ k = (arg req 2).toNat then .ok else .okClamped)
         [wNat v, wNat r, wNat k]
         { takeRequest p s with cool := { s.cool with period := v, stallRpm := r, stallFilter := k } })))

/-- SET_FAN_MAP (R127, R143): refused while a bay is STARTING; otherwise every module is in its new zone, a module
that moved carries the zone's output or its own override raised to the zone's min duty, a zone's output stands
exactly while it has modules, 1000 when it had none, and the zone states follow. -/
def Obligations.FanMapMovesTheModules : Prop :=
  ∀ (p : UpPort) (req : Frame) (map : Vector Zone 8) (s : State), AtRest s → BaysConsistent s → Serves 0x0172 8 p req s →
    (∀ m : FanModule, (arg req m.val).toNat = (map[m]).val) →
    ((∃ b : Bay, s.bays[b].state = .starting) →
      exec .setFanMap s = .next (answered p req .refusedState [] (takeRequest p s))) ∧
    ((∀ b : Bay, s.bays[b].state ≠ .starting) → ∃ t, exec .setFanMap s = .next t ∧
      (∀ z : Zone, t.cool.zones[z].output = (if ∃ m : FanModule, map[m] = z then
          some (s.cool.zones[z].output.getD 1000) else none) ∧
        (t.cool.zones[z].state = .ok ↔ ∀ m : FanModule, map[m] = z → s.cool.modules[m].state = .ok) ∧
        (t.cool.zones[z].state = .failed ↔ ∃ m : FanModule, map[m] = z ∧ s.cool.modules[m].state = .failed)) ∧
      (∀ m : FanModule, t.cool.modules[m].zone = map[m] ∧
        t.cool.modules[m].rotorA = s.cool.modules[m].rotorA ∧ t.cool.modules[m].rotorB = s.cool.modules[m].rotorB ∧
        (map[m] = s.cool.modules[m].zone → t.cool.modules[m] = s.cool.modules[m]) ∧
        (map[m] ≠ s.cool.modules[m].zone → s.cool.modules[m].override = none →
          t.cool.zones[map[m]].output = some t.cool.modules[m].duty) ∧
        (∀ o : Override, map[m] ≠ s.cool.modules[m].zone → s.cool.modules[m].override = some o →
          t.cool.modules[m].duty = max o.duty s.cool.zones[map[m]].minDuty ∧
          t.cool.modules[m].override = some ⟨max o.duty s.cool.zones[map[m]].minDuty, o.endsAt⟩)) ∧
      (∀ b : Bay, UntouchedOrAdmitted b s t) ∧ t.therm = s.therm ∧ t.route = s.route ∧
      Responded p req .ok [] s t ∧ t.mgmt.requests = (takeRequest p s).mgmt.requests)

/-- SET_FAN_OVERRIDE (R137): a duration of 0 cancels a running override and is ALREADY otherwise; any other starts
one, with the duty raised to the zone's min duty, at most 1000, and a duration of at most 600 s; the module takes the
duty at once. TACH_PULSE counts in the open window of its rotor, up to 65535 (R139). OVERRIDE_END takes the override
away and leaves the module its duty (R138). That OVERRIDE_END is taken at the override's end time, and changes
nothing where no override stands, is the model's choice (log entries 2 and 3). That the OK_CLAMPED of
SET_FAN_OVERRIDE carries no data is deduced (R169 against R171: log entry 13). -/
def Obligations.OverridesAndPulses : Prop :=
  (∀ (p : UpPort) (req : Frame) (m : FanModule) (s : State), AtRest s → CoolingConsistent s → Serves 0x0173 3 p req s →
     (arg req 0).toNat = m.val →
     let d := min 1000 (max s.cool.zones[s.cool.modules[m].zone].minDuty (arg req 1).toNat)
     let n := min (arg req 2).toNat 600
     ((arg req 2).toNat = 0 → s.cool.modules[m].override = none →
       exec .setFanOverride s = .next (answered p req .already [] (takeRequest p s))) ∧
     ((arg req 2).toNat = 0 → s.cool.modules[m].override ≠ none →
       exec .setFanOverride s = .next (answered p req .ok [] { takeRequest p s with cool := { s.cool with
         modules := upd s.cool.modules m (fun x => { x with override := none }) } })) ∧
     ((arg req 2).toNat ≠ 0 → exec .setFanOverride s = .next (answered p req
       (if d = (arg req 1).toNat ∧ n = (arg req 2).toNat then .ok else .okClamped) []
       { takeRequest p s with cool := { s.cool with modules := upd s.cool.modules m (fun x =>
         { x with duty := d, override := some ⟨d, s.now + 1000 * n⟩, lowWindow := x.lowWindow || decide (d < 150) }) } }))) ∧
  (∀ (m : FanModule) (s : State), AtRest s →
     exec (.tachPulse m .a) s = .next { s with cool := { s.cool with modules := upd s.cool.modules m (fun x =>
       { x with rotorA := { x.rotorA with pulses := min 65535 (x.rotorA.pulses + 1) } }) } } ∧
     exec (.tachPulse m .b) s = .next { s with cool := { s.cool with modules := upd s.cool.modules m (fun x =>
       { x with rotorB := { x.rotorB with pulses := min 65535 (x.rotorB.pulses + 1) } }) } } ∧
     (∀ o : Override, s.cool.modules[m].override = some o →
       exec (.overrideEnd m) s = .next (drivePins
         { s with now := max s.now o.endsAt
                  cool := { s.cool with modules := upd s.cool.modules m (fun x => { x with override := none }) } })) ∧
     (s.cool.modules[m].override = none → exec (.overrideEnd m) s = .next s))

/-- SET_LIGHT (R157): each flag of every bay of the set is left, set or cleared; a LOCATE that is set ends after its
duration of at most 3600 s, or never for 0; the reports and the lights follow. LOAD_PATTERN replaces a pattern and
restarts its clock (R150); SET_LIGHT_MAP replaces the map and the activity hold (R152); SET_NIGHT_DIM stores ON or
OFF (R161); the lights follow each. The word layout of the SET_LIGHT report and the identifier words are partly
deduced (log entry 13). -/
def Obligations.LightRequestsAreStored : Prop :=
  (∀ (p : UpPort) (req : Frame) (a : LightActions) (s : State), AtRest s → Serves 0x0180 6 p req s →
     lightActionsArg req = some a → emptySet (arg req 0) = false →
     let n := min (arg req 5).toNat 3600
     let flag := fun (x : LightAction) (v : Bool) => if x = .set then true else if x = .clear then false else v
     let s' := { takeRequest p s with light := { s.light with bays := tab (fun b => if inSet (arg req 0) b then
       { s.light.bays[b] with
         locate := if a.locate = .set then (if n = 0 then .forever else .until (s.now + 1000 * n))
           else if a.locate = .clear then .absent else (s.light.bays[b]).locate
         controllerFault := flag a.controllerFault (s.light.bays[b]).controllerFault
         rebuild := flag a.rebuild (s.light.bays[b]).rebuild
         predictedFault := flag a.predictedFault (s.light.bays[b]).predictedFault }
       else s.light.bays[b]) } }
     exec .setLight s = .next (drivePins (answered p req
       (if a.locate = .set ∧ 3600 < (arg req 5).toNat then .okClamped else .ok)
       ([wNat (baysOf (arg req 0)).length] ++ (baysOf (arg req 0)).flatMap (lightWords s') ++ lightSettingWords s) s'))) ∧
  (∀ (p : UpPort) (req : Frame) (s : State), AtRest s →
     (Serves 0x0181 3 p req s → ∀ k : PatternNo, (arg req 0).toNat = k.val →
       let on := (arg req 1).toNat % 256
       let off := (arg req 2).toNat % 256
       exec .loadPattern s = .next (drivePins (answered p req .ok [wNat k.val, wNat on, wNat off]
         { takeRequest p s with light := { s.light with patterns := upd s.light.patterns k (fun x =>
           { x with onTime := on, offTime := off, clock := s.now }) } }))) ∧
     (Serves 0x0182 9 p req s → ∀ map : Vector PatternNo 8, (∀ c : Fin 8, (arg req c.val).toNat = (map[c]).val) →
       let n := min 500 (max 20 (arg req 8).toNat)
       exec .setLightMap s = .next (drivePins (answered p req (if n = (arg req 8).toNat then .ok else .okClamped)
         (map.toList.map (fun k => wNat k.val) ++ [wNat n])
         { takeRequest p s with light := { s.light with map := map, hold := n } }))) ∧
     (Serves 0x0183 1 p req s → ∀ v : Bool, twoValued (arg req 0) = some v →
       exec .setNightDim s = .next (drivePins (answered p req .ok [wBool v]
         { takeRequest p s with light := { s.light with dim := v } }))))

/-- READ_EVENTS reports the latches of its scope, a bay or the enclosure, and then clears them, and the module sets
with the enclosure's (R186); the word of an absent cause is deduced (log entry 13) and the code of the ALERT line is
a free value (log entry 7). SUBSCRIBE (R175): ON makes the subscription of the requesting port present; OFF takes it
away with the notices and the overflow flag; what stands already is ALREADY. The response says whether the port's
learned slot is valid. WARM_RESTART (R176): the response is built and marked, the pending restart that names it is
set, and no block changes but for the response's place: the port's priority queue, or the held response when that
queue is full (R170). -/
def Obligations.EventsSubscriptionsAndRestartAreServed : Prop :=
  (∀ (p : UpPort) (req : Frame) (s : State), AtRest s → Serves 0x0190 1 p req s →
     (∀ b : Bay, arg req 0 = wNat b.val → exec .readEvents s = .next (answered p req .ok
       [wLatches (s.ev.bayLatches[b]).toList, wState s.bays[b].state, wCause s.bays[b].fault, wAlert s.ev.alert]
       { takeRequest p s with ev := { s.ev with bayLatches := put s.ev.bayLatches b (tab fun _ => false) } })) ∧
     (arg req 0 = 0x01000000 → exec .readEvents s = .next (answered p req .ok
       ([wLatches s.ev.enclLatches.toList] ++ s.ev.fanSets.toList.map wModules ++
         [wBays (fun b => (s.ev.bayLatches[b]).toList.any id), wAlert s.ev.alert])
       { takeRequest p s with ev := { s.ev with
         enclLatches := tab fun _ => false, fanSets := tab fun _ => tab fun _ => false } }))) ∧
  (∀ (p : UpPort) (req : Frame) (on : Bool) (s : State), AtRest s → Serves 0x0191 1 p req s →
     twoValued (arg req 0) = some on →
     let data := [wBool on, wBool (learnedAddr s (.up p)).isSome]
     (s.ev.subscribed[upIdx p] = on → exec .subscribe s = .next (answered p req .already data (takeRequest p s))) ∧
     (s.ev.subscribed[upIdx p] = false → on = true → exec .subscribe s = .next (answered p req .ok data
       { takeRequest p s with ev := { s.ev with subscribed := put s.ev.subscribed (upIdx p) true } })) ∧
     (s.ev.subscribed[upIdx p] = true → on = false → exec .subscribe s = .next (answered p req .ok data
       { takeRequest p s with ev := { s.ev with
         subscribed := put s.ev.subscribed (upIdx p) false
         notices := put s.ev.notices (upIdx p) []
         overflow := put s.ev.overflow (upIdx p) false } }))) ∧
  (∀ (p : UpPort) (req : Frame) (s : State), AtRest s → Serves 0x01F0 0 p req s →
     let response : Held := ⟨responseFrame (switchAddr s) req ⟨.ok, []⟩, .restart⟩
     let taken := takeRequest p s
     (s.fwd.up[upIdx p].priority.length < 16 → exec .warmRestart s = .next (pushPriority p response
       { taken with mgmt := { taken.mgmt with restart := some ⟨p, .queued⟩ } })) ∧
     (16 ≤ s.fwd.up[upIdx p].priority.length → exec .warmRestart s = .next
       { taken with mgmt := { taken.mgmt with restart := some ⟨p, .held⟩, held := some ⟨p, response⟩ } }))

/-- Setting a latch (R184, R187, R188): a SET latch stays as it is; a CLEAR one is SET and offers one notice to each
subscribed port, at its queue's tail, or, when 16 stand there, marks the overflow. A bay's notice carries the state
and the cause as they stand, an enclosure's its detail. A fan latch adds the module to its module set even when it is
SET already (R142, R185). -/
def Obligations.LatchesBuildOneNotice : Prop :=
  ∀ s : State,
    let offered := fun (n : Notice) (e : EventBlock) => e.subscribed = s.ev.subscribed ∧ e.alert = s.ev.alert ∧
      ∀ p : UpPort,
        (s.ev.subscribed[upIdx p] = true ∧ (s.ev.notices[upIdx p]).length < 16 →
          e.notices[upIdx p] = s.ev.notices[upIdx p] ++ [n] ∧ e.overflow[upIdx p] = s.ev.overflow[upIdx p]) ∧
        (s.ev.subscribed[upIdx p] = true ∧ 16 ≤ (s.ev.notices[upIdx p]).length →
          e.notices[upIdx p] = s.ev.notices[upIdx p] ∧ e.overflow[upIdx p] = true) ∧
        (s.ev.subscribed[upIdx p] = false → e.notices[upIdx p] = s.ev.notices[upIdx p] ∧
          e.overflow[upIdx p] = s.ev.overflow[upIdx p])
    let enclSet := fun (k : EnclEvent) (e : EventBlock) => ∀ j : EnclEvent,
      e.enclLatches[j.idx] = if j = k then true else s.ev.enclLatches[j.idx]
    (∀ (b : Bay) (k : BayEvent),
      ((s.ev.bayLatches[b])[k.idx] = true → latchBay b k s = s) ∧
      ((s.ev.bayLatches[b])[k.idx] = false → ∃ e, latchBay b k s = { s with ev := e } ∧
        (∀ (c : Bay) (j : BayEvent), (e.bayLatches[c])[j.idx] =
          if c = b ∧ j = k then true else (s.ev.bayLatches[c])[j.idx]) ∧
        e.enclLatches = s.ev.enclLatches ∧ e.fanSets = s.ev.fanSets ∧
        offered (.bay b k s.bays[b].state s.bays[b].fault) e)) ∧
    (∀ (k : EnclEvent) (detail : Nat),
      (s.ev.enclLatches[k.idx] = true → latchEncl k detail s = s) ∧
      (s.ev.enclLatches[k.idx] = false → ∃ e, latchEncl k detail s = { s with ev := e } ∧ enclSet k e ∧
        e.bayLatches = s.ev.bayLatches ∧ e.fanSets = s.ev.fanSets ∧ offered (.enclosure k detail) e)) ∧
    (∀ (x : FanState) (m : FanModule), ∃ e, latchFan x m s = { s with ev := e } ∧
      (∀ (y : FanState) (n : FanModule), (e.fanSets[fanSetIdx y])[n] =
        if y = x ∧ n = m then true else (s.ev.fanSets[fanSetIdx y])[n]) ∧
      e.bayLatches = s.ev.bayLatches ∧ enclSet (fanEvent x) e ∧
      (s.ev.enclLatches[(fanEvent x).idx] = true → e = { s.ev with fanSets := e.fanSets }) ∧
      (s.ev.enclLatches[(fanEvent x).idx] = false → offered (.enclosure (fanEvent x) m.val) e))

end
end

