-- ==== Sys2Proof/Laws/State.lean ====
section
/-!
SUPPORT. Laws/State.lean: for every update of the state, what each of its blocks becomes: one lemma per block per update,
true by rfl and tagged simp, so that no later proof unfolds a record update.
-/
namespace Sys2Proof.Machine

/-! ### modBay -/

@[simp] theorem modBay_now (b : Bay) (f : BayRecord → BayRecord) (s : State) : (modBay b f s).now = s.now := by simp only [modBay]
@[simp] theorem modBay_addrStrap (b : Bay) (f : BayRecord → BayRecord) (s : State) : (modBay b f s).addrStrap = s.addrStrap := by simp only [modBay]
@[simp] theorem modBay_budStrap (b : Bay) (f : BayRecord → BayRecord) (s : State) : (modBay b f s).budStrap = s.budStrap := by simp only [modBay]
@[simp] theorem modBay_line (b : Bay) (f : BayRecord → BayRecord) (s : State) : (modBay b f s).line = s.line := by simp only [modBay]
@[simp] theorem modBay_power (b : Bay) (f : BayRecord → BayRecord) (s : State) : (modBay b f s).power = s.power := by simp only [modBay]
@[simp] theorem modBay_fwd (b : Bay) (f : BayRecord → BayRecord) (s : State) : (modBay b f s).fwd = s.fwd := by simp only [modBay]
@[simp] theorem modBay_route (b : Bay) (f : BayRecord → BayRecord) (s : State) : (modBay b f s).route = s.route := by simp only [modBay]
@[simp] theorem modBay_therm (b : Bay) (f : BayRecord → BayRecord) (s : State) : (modBay b f s).therm = s.therm := by simp only [modBay]
@[simp] theorem modBay_cool (b : Bay) (f : BayRecord → BayRecord) (s : State) : (modBay b f s).cool = s.cool := by simp only [modBay]
@[simp] theorem modBay_light (b : Bay) (f : BayRecord → BayRecord) (s : State) : (modBay b f s).light = s.light := by simp only [modBay]
@[simp] theorem modBay_mgmt (b : Bay) (f : BayRecord → BayRecord) (s : State) : (modBay b f s).mgmt = s.mgmt := by simp only [modBay]
@[simp] theorem modBay_ev (b : Bay) (f : BayRecord → BayRecord) (s : State) : (modBay b f s).ev = s.ev := by simp only [modBay]
@[simp] theorem modBay_pending (b : Bay) (f : BayRecord → BayRecord) (s : State) : (modBay b f s).pending = s.pending := by simp only [modBay]

/-! ### setState -/

@[simp] theorem setState_now (b : Bay) (x : BayState) (s : State) : (setState b x s).now = s.now := by simp only [setState, modBay]
@[simp] theorem setState_addrStrap (b : Bay) (x : BayState) (s : State) : (setState b x s).addrStrap = s.addrStrap := by simp only [setState, modBay]
@[simp] theorem setState_budStrap (b : Bay) (x : BayState) (s : State) : (setState b x s).budStrap = s.budStrap := by simp only [setState, modBay]
@[simp] theorem setState_line (b : Bay) (x : BayState) (s : State) : (setState b x s).line = s.line := by simp only [setState, modBay]
@[simp] theorem setState_power (b : Bay) (x : BayState) (s : State) : (setState b x s).power = s.power := by simp only [setState, modBay]
@[simp] theorem setState_fwd (b : Bay) (x : BayState) (s : State) : (setState b x s).fwd = s.fwd := by simp only [setState, modBay]
@[simp] theorem setState_route (b : Bay) (x : BayState) (s : State) : (setState b x s).route = s.route := by simp only [setState, modBay]
@[simp] theorem setState_therm (b : Bay) (x : BayState) (s : State) : (setState b x s).therm = s.therm := by simp only [setState, modBay]
@[simp] theorem setState_cool (b : Bay) (x : BayState) (s : State) : (setState b x s).cool = s.cool := by simp only [setState, modBay]
@[simp] theorem setState_light (b : Bay) (x : BayState) (s : State) : (setState b x s).light = s.light := by simp only [setState, modBay]
@[simp] theorem setState_mgmt (b : Bay) (x : BayState) (s : State) : (setState b x s).mgmt = s.mgmt := by simp only [setState, modBay]
@[simp] theorem setState_ev (b : Bay) (x : BayState) (s : State) : (setState b x s).ev = s.ev := by simp only [setState, modBay]
@[simp] theorem setState_pending (b : Bay) (x : BayState) (s : State) : (setState b x s).pending = s.pending := by simp only [setState, modBay]

/-! ### modBays -/

@[simp] theorem modBays_now (p : Bay → Bool) (f : BayRecord → BayRecord) (s : State) : (modBays p f s).now = s.now := by simp only [modBays]
@[simp] theorem modBays_addrStrap (p : Bay → Bool) (f : BayRecord → BayRecord) (s : State) : (modBays p f s).addrStrap = s.addrStrap := by simp only [modBays]
@[simp] theorem modBays_budStrap (p : Bay → Bool) (f : BayRecord → BayRecord) (s : State) : (modBays p f s).budStrap = s.budStrap := by simp only [modBays]
@[simp] theorem modBays_line (p : Bay → Bool) (f : BayRecord → BayRecord) (s : State) : (modBays p f s).line = s.line := by simp only [modBays]
@[simp] theorem modBays_power (p : Bay → Bool) (f : BayRecord → BayRecord) (s : State) : (modBays p f s).power = s.power := by simp only [modBays]
@[simp] theorem modBays_fwd (p : Bay → Bool) (f : BayRecord → BayRecord) (s : State) : (modBays p f s).fwd = s.fwd := by simp only [modBays]
@[simp] theorem modBays_route (p : Bay → Bool) (f : BayRecord → BayRecord) (s : State) : (modBays p f s).route = s.route := by simp only [modBays]
@[simp] theorem modBays_therm (p : Bay → Bool) (f : BayRecord → BayRecord) (s : State) : (modBays p f s).therm = s.therm := by simp only [modBays]
@[simp] theorem modBays_cool (p : Bay → Bool) (f : BayRecord → BayRecord) (s : State) : (modBays p f s).cool = s.cool := by simp only [modBays]
@[simp] theorem modBays_light (p : Bay → Bool) (f : BayRecord → BayRecord) (s : State) : (modBays p f s).light = s.light := by simp only [modBays]
@[simp] theorem modBays_mgmt (p : Bay → Bool) (f : BayRecord → BayRecord) (s : State) : (modBays p f s).mgmt = s.mgmt := by simp only [modBays]
@[simp] theorem modBays_ev (p : Bay → Bool) (f : BayRecord → BayRecord) (s : State) : (modBays p f s).ev = s.ev := by simp only [modBays]
@[simp] theorem modBays_pending (p : Bay → Bool) (f : BayRecord → BayRecord) (s : State) : (modBays p f s).pending = s.pending := by simp only [modBays]

/-! ### modLine -/

@[simp] theorem modLine_now (b : Bay) (f : LineUnit → LineUnit) (s : State) : (modLine b f s).now = s.now := by simp only [modLine]
@[simp] theorem modLine_addrStrap (b : Bay) (f : LineUnit → LineUnit) (s : State) : (modLine b f s).addrStrap = s.addrStrap := by simp only [modLine]
@[simp] theorem modLine_budStrap (b : Bay) (f : LineUnit → LineUnit) (s : State) : (modLine b f s).budStrap = s.budStrap := by simp only [modLine]
@[simp] theorem modLine_bays (b : Bay) (f : LineUnit → LineUnit) (s : State) : (modLine b f s).bays = s.bays := by simp only [modLine]
@[simp] theorem modLine_power (b : Bay) (f : LineUnit → LineUnit) (s : State) : (modLine b f s).power = s.power := by simp only [modLine]
@[simp] theorem modLine_fwd (b : Bay) (f : LineUnit → LineUnit) (s : State) : (modLine b f s).fwd = s.fwd := by simp only [modLine]
@[simp] theorem modLine_route (b : Bay) (f : LineUnit → LineUnit) (s : State) : (modLine b f s).route = s.route := by simp only [modLine]
@[simp] theorem modLine_therm (b : Bay) (f : LineUnit → LineUnit) (s : State) : (modLine b f s).therm = s.therm := by simp only [modLine]
@[simp] theorem modLine_cool (b : Bay) (f : LineUnit → LineUnit) (s : State) : (modLine b f s).cool = s.cool := by simp only [modLine]
@[simp] theorem modLine_light (b : Bay) (f : LineUnit → LineUnit) (s : State) : (modLine b f s).light = s.light := by simp only [modLine]
@[simp] theorem modLine_mgmt (b : Bay) (f : LineUnit → LineUnit) (s : State) : (modLine b f s).mgmt = s.mgmt := by simp only [modLine]
@[simp] theorem modLine_ev (b : Bay) (f : LineUnit → LineUnit) (s : State) : (modLine b f s).ev = s.ev := by simp only [modLine]
@[simp] theorem modLine_pending (b : Bay) (f : LineUnit → LineUnit) (s : State) : (modLine b f s).pending = s.pending := by simp only [modLine]

/-! ### modLines -/

@[simp] theorem modLines_now (p : Bay → Bool) (f : LineUnit → LineUnit) (s : State) : (modLines p f s).now = s.now := by simp only [modLines]
@[simp] theorem modLines_addrStrap (p : Bay → Bool) (f : LineUnit → LineUnit) (s : State) : (modLines p f s).addrStrap = s.addrStrap := by simp only [modLines]
@[simp] theorem modLines_budStrap (p : Bay → Bool) (f : LineUnit → LineUnit) (s : State) : (modLines p f s).budStrap = s.budStrap := by simp only [modLines]
@[simp] theorem modLines_bays (p : Bay → Bool) (f : LineUnit → LineUnit) (s : State) : (modLines p f s).bays = s.bays := by simp only [modLines]
@[simp] theorem modLines_power (p : Bay → Bool) (f : LineUnit → LineUnit) (s : State) : (modLines p f s).power = s.power := by simp only [modLines]
@[simp] theorem modLines_fwd (p : Bay → Bool) (f : LineUnit → LineUnit) (s : State) : (modLines p f s).fwd = s.fwd := by simp only [modLines]
@[simp] theorem modLines_route (p : Bay → Bool) (f : LineUnit → LineUnit) (s : State) : (modLines p f s).route = s.route := by simp only [modLines]
@[simp] theorem modLines_therm (p : Bay → Bool) (f : LineUnit → LineUnit) (s : State) : (modLines p f s).therm = s.therm := by simp only [modLines]
@[simp] theorem modLines_cool (p : Bay → Bool) (f : LineUnit → LineUnit) (s : State) : (modLines p f s).cool = s.cool := by simp only [modLines]
@[simp] theorem modLines_light (p : Bay → Bool) (f : LineUnit → LineUnit) (s : State) : (modLines p f s).light = s.light := by simp only [modLines]
@[simp] theorem modLines_mgmt (p : Bay → Bool) (f : LineUnit → LineUnit) (s : State) : (modLines p f s).mgmt = s.mgmt := by simp only [modLines]
@[simp] theorem modLines_ev (p : Bay → Bool) (f : LineUnit → LineUnit) (s : State) : (modLines p f s).ev = s.ev := by simp only [modLines]
@[simp] theorem modLines_pending (p : Bay → Bool) (f : LineUnit → LineUnit) (s : State) : (modLines p f s).pending = s.pending := by simp only [modLines]

/-! ### modLight -/

@[simp] theorem modLight_now (b : Bay) (f : LightUnit → LightUnit) (s : State) : (modLight b f s).now = s.now := by simp only [modLight]
@[simp] theorem modLight_addrStrap (b : Bay) (f : LightUnit → LightUnit) (s : State) : (modLight b f s).addrStrap = s.addrStrap := by simp only [modLight]
@[simp] theorem modLight_budStrap (b : Bay) (f : LightUnit → LightUnit) (s : State) : (modLight b f s).budStrap = s.budStrap := by simp only [modLight]
@[simp] theorem modLight_line (b : Bay) (f : LightUnit → LightUnit) (s : State) : (modLight b f s).line = s.line := by simp only [modLight]
@[simp] theorem modLight_bays (b : Bay) (f : LightUnit → LightUnit) (s : State) : (modLight b f s).bays = s.bays := by simp only [modLight]
@[simp] theorem modLight_power (b : Bay) (f : LightUnit → LightUnit) (s : State) : (modLight b f s).power = s.power := by simp only [modLight]
@[simp] theorem modLight_fwd (b : Bay) (f : LightUnit → LightUnit) (s : State) : (modLight b f s).fwd = s.fwd := by simp only [modLight]
@[simp] theorem modLight_route (b : Bay) (f : LightUnit → LightUnit) (s : State) : (modLight b f s).route = s.route := by simp only [modLight]
@[simp] theorem modLight_therm (b : Bay) (f : LightUnit → LightUnit) (s : State) : (modLight b f s).therm = s.therm := by simp only [modLight]
@[simp] theorem modLight_cool (b : Bay) (f : LightUnit → LightUnit) (s : State) : (modLight b f s).cool = s.cool := by simp only [modLight]
@[simp] theorem modLight_mgmt (b : Bay) (f : LightUnit → LightUnit) (s : State) : (modLight b f s).mgmt = s.mgmt := by simp only [modLight]
@[simp] theorem modLight_ev (b : Bay) (f : LightUnit → LightUnit) (s : State) : (modLight b f s).ev = s.ev := by simp only [modLight]
@[simp] theorem modLight_pending (b : Bay) (f : LightUnit → LightUnit) (s : State) : (modLight b f s).pending = s.pending := by simp only [modLight]

/-! ### modLights -/

@[simp] theorem modLights_now (p : Bay → Bool) (f : LightUnit → LightUnit) (s : State) : (modLights p f s).now = s.now := by simp only [modLights]
@[simp] theorem modLights_addrStrap (p : Bay → Bool) (f : LightUnit → LightUnit) (s : State) : (modLights p f s).addrStrap = s.addrStrap := by simp only [modLights]
@[simp] theorem modLights_budStrap (p : Bay → Bool) (f : LightUnit → LightUnit) (s : State) : (modLights p f s).budStrap = s.budStrap := by simp only [modLights]
@[simp] theorem modLights_line (p : Bay → Bool) (f : LightUnit → LightUnit) (s : State) : (modLights p f s).line = s.line := by simp only [modLights]
@[simp] theorem modLights_bays (p : Bay → Bool) (f : LightUnit → LightUnit) (s : State) : (modLights p f s).bays = s.bays := by simp only [modLights]
@[simp] theorem modLights_power (p : Bay → Bool) (f : LightUnit → LightUnit) (s : State) : (modLights p f s).power = s.power := by simp only [modLights]
@[simp] theorem modLights_fwd (p : Bay → Bool) (f : LightUnit → LightUnit) (s : State) : (modLights p f s).fwd = s.fwd := by simp only [modLights]
@[simp] theorem modLights_route (p : Bay → Bool) (f : LightUnit → LightUnit) (s : State) : (modLights p f s).route = s.route := by simp only [modLights]
@[simp] theorem modLights_therm (p : Bay → Bool) (f : LightUnit → LightUnit) (s : State) : (modLights p f s).therm = s.therm := by simp only [modLights]
@[simp] theorem modLights_cool (p : Bay → Bool) (f : LightUnit → LightUnit) (s : State) : (modLights p f s).cool = s.cool := by simp only [modLights]
@[simp] theorem modLights_mgmt (p : Bay → Bool) (f : LightUnit → LightUnit) (s : State) : (modLights p f s).mgmt = s.mgmt := by simp only [modLights]
@[simp] theorem modLights_ev (p : Bay → Bool) (f : LightUnit → LightUnit) (s : State) : (modLights p f s).ev = s.ev := by simp only [modLights]
@[simp] theorem modLights_pending (p : Bay → Bool) (f : LightUnit → LightUnit) (s : State) : (modLights p f s).pending = s.pending := by simp only [modLights]

/-! ### markActivity -/

@[simp] theorem markActivity_now (b : Bay) (s : State) : (markActivity b s).now = s.now := by simp only [markActivity, modLight]
@[simp] theorem markActivity_addrStrap (b : Bay) (s : State) : (markActivity b s).addrStrap = s.addrStrap := by simp only [markActivity, modLight]
@[simp] theorem markActivity_budStrap (b : Bay) (s : State) : (markActivity b s).budStrap = s.budStrap := by simp only [markActivity, modLight]
@[simp] theorem markActivity_line (b : Bay) (s : State) : (markActivity b s).line = s.line := by simp only [markActivity, modLight]
@[simp] theorem markActivity_bays (b : Bay) (s : State) : (markActivity b s).bays = s.bays := by simp only [markActivity, modLight]
@[simp] theorem markActivity_power (b : Bay) (s : State) : (markActivity b s).power = s.power := by simp only [markActivity, modLight]
@[simp] theorem markActivity_fwd (b : Bay) (s : State) : (markActivity b s).fwd = s.fwd := by simp only [markActivity, modLight]
@[simp] theorem markActivity_route (b : Bay) (s : State) : (markActivity b s).route = s.route := by simp only [markActivity, modLight]
@[simp] theorem markActivity_therm (b : Bay) (s : State) : (markActivity b s).therm = s.therm := by simp only [markActivity, modLight]
@[simp] theorem markActivity_cool (b : Bay) (s : State) : (markActivity b s).cool = s.cool := by simp only [markActivity, modLight]
@[simp] theorem markActivity_mgmt (b : Bay) (s : State) : (markActivity b s).mgmt = s.mgmt := by simp only [markActivity, modLight]
@[simp] theorem markActivity_ev (b : Bay) (s : State) : (markActivity b s).ev = s.ev := by simp only [markActivity, modLight]
@[simp] theorem markActivity_pending (b : Bay) (s : State) : (markActivity b s).pending = s.pending := by simp only [markActivity, modLight]

/-! ### modTherm -/

@[simp] theorem modTherm_now (b : Bay) (f : ThermalRecord → ThermalRecord) (s : State) : (modTherm b f s).now = s.now := by simp only [modTherm]
@[simp] theorem modTherm_addrStrap (b : Bay) (f : ThermalRecord → ThermalRecord) (s : State) : (modTherm b f s).addrStrap = s.addrStrap := by simp only [modTherm]
@[simp] theorem modTherm_budStrap (b : Bay) (f : ThermalRecord → ThermalRecord) (s : State) : (modTherm b f s).budStrap = s.budStrap := by simp only [modTherm]
@[simp] theorem modTherm_line (b : Bay) (f : ThermalRecord → ThermalRecord) (s : State) : (modTherm b f s).line = s.line := by simp only [modTherm]
@[simp] theorem modTherm_bays (b : Bay) (f : ThermalRecord → ThermalRecord) (s : State) : (modTherm b f s).bays = s.bays := by simp only [modTherm]
@[simp] theorem modTherm_power (b : Bay) (f : ThermalRecord → ThermalRecord) (s : State) : (modTherm b f s).power = s.power := by simp only [modTherm]
@[simp] theorem modTherm_fwd (b : Bay) (f : ThermalRecord → ThermalRecord) (s : State) : (modTherm b f s).fwd = s.fwd := by simp only [modTherm]
@[simp] theorem modTherm_route (b : Bay) (f : ThermalRecord → ThermalRecord) (s : State) : (modTherm b f s).route = s.route := by simp only [modTherm]
@[simp] theorem modTherm_cool (b : Bay) (f : ThermalRecord → ThermalRecord) (s : State) : (modTherm b f s).cool = s.cool := by simp only [modTherm]
@[simp] theorem modTherm_light (b : Bay) (f : ThermalRecord → ThermalRecord) (s : State) : (modTherm b f s).light = s.light := by simp only [modTherm]
@[simp] theorem modTherm_mgmt (b : Bay) (f : ThermalRecord → ThermalRecord) (s : State) : (modTherm b f s).mgmt = s.mgmt := by simp only [modTherm]
@[simp] theorem modTherm_ev (b : Bay) (f : ThermalRecord → ThermalRecord) (s : State) : (modTherm b f s).ev = s.ev := by simp only [modTherm]
@[simp] theorem modTherm_pending (b : Bay) (f : ThermalRecord → ThermalRecord) (s : State) : (modTherm b f s).pending = s.pending := by simp only [modTherm]

/-! ### badCapture -/

@[simp] theorem badCapture_now (b : Bay) (s : State) : (badCapture b s).now = s.now := by simp only [badCapture, modTherm]
@[simp] theorem badCapture_addrStrap (b : Bay) (s : State) : (badCapture b s).addrStrap = s.addrStrap := by simp only [badCapture, modTherm]
@[simp] theorem badCapture_budStrap (b : Bay) (s : State) : (badCapture b s).budStrap = s.budStrap := by simp only [badCapture, modTherm]
@[simp] theorem badCapture_line (b : Bay) (s : State) : (badCapture b s).line = s.line := by simp only [badCapture, modTherm]
@[simp] theorem badCapture_bays (b : Bay) (s : State) : (badCapture b s).bays = s.bays := by simp only [badCapture, modTherm]
@[simp] theorem badCapture_power (b : Bay) (s : State) : (badCapture b s).power = s.power := by simp only [badCapture, modTherm]
@[simp] theorem badCapture_fwd (b : Bay) (s : State) : (badCapture b s).fwd = s.fwd := by simp only [badCapture, modTherm]
@[simp] theorem badCapture_route (b : Bay) (s : State) : (badCapture b s).route = s.route := by simp only [badCapture, modTherm]
@[simp] theorem badCapture_cool (b : Bay) (s : State) : (badCapture b s).cool = s.cool := by simp only [badCapture, modTherm]
@[simp] theorem badCapture_light (b : Bay) (s : State) : (badCapture b s).light = s.light := by simp only [badCapture, modTherm]
@[simp] theorem badCapture_mgmt (b : Bay) (s : State) : (badCapture b s).mgmt = s.mgmt := by simp only [badCapture, modTherm]
@[simp] theorem badCapture_ev (b : Bay) (s : State) : (badCapture b s).ev = s.ev := by simp only [badCapture, modTherm]
@[simp] theorem badCapture_pending (b : Bay) (s : State) : (badCapture b s).pending = s.pending := by simp only [badCapture, modTherm]

/-! ### refreshHot -/

@[simp] theorem refreshHot_now (s : State) : (refreshHot s).now = s.now := by simp only [refreshHot]
@[simp] theorem refreshHot_addrStrap (s : State) : (refreshHot s).addrStrap = s.addrStrap := by simp only [refreshHot]
@[simp] theorem refreshHot_budStrap (s : State) : (refreshHot s).budStrap = s.budStrap := by simp only [refreshHot]
@[simp] theorem refreshHot_line (s : State) : (refreshHot s).line = s.line := by simp only [refreshHot]
@[simp] theorem refreshHot_bays (s : State) : (refreshHot s).bays = s.bays := by simp only [refreshHot]
@[simp] theorem refreshHot_power (s : State) : (refreshHot s).power = s.power := by simp only [refreshHot]
@[simp] theorem refreshHot_fwd (s : State) : (refreshHot s).fwd = s.fwd := by simp only [refreshHot]
@[simp] theorem refreshHot_route (s : State) : (refreshHot s).route = s.route := by simp only [refreshHot]
@[simp] theorem refreshHot_cool (s : State) : (refreshHot s).cool = s.cool := by simp only [refreshHot]
@[simp] theorem refreshHot_light (s : State) : (refreshHot s).light = s.light := by simp only [refreshHot]
@[simp] theorem refreshHot_mgmt (s : State) : (refreshHot s).mgmt = s.mgmt := by simp only [refreshHot]
@[simp] theorem refreshHot_ev (s : State) : (refreshHot s).ev = s.ev := by simp only [refreshHot]
@[simp] theorem refreshHot_pending (s : State) : (refreshHot s).pending = s.pending := by simp only [refreshHot]

/-! ### modUp -/

@[simp] theorem modUp_now (p : UpPort) (f : UpUnit → UpUnit) (s : State) : (modUp p f s).now = s.now := by simp only [modUp]
@[simp] theorem modUp_addrStrap (p : UpPort) (f : UpUnit → UpUnit) (s : State) : (modUp p f s).addrStrap = s.addrStrap := by simp only [modUp]
@[simp] theorem modUp_budStrap (p : UpPort) (f : UpUnit → UpUnit) (s : State) : (modUp p f s).budStrap = s.budStrap := by simp only [modUp]
@[simp] theorem modUp_line (p : UpPort) (f : UpUnit → UpUnit) (s : State) : (modUp p f s).line = s.line := by simp only [modUp]
@[simp] theorem modUp_bays (p : UpPort) (f : UpUnit → UpUnit) (s : State) : (modUp p f s).bays = s.bays := by simp only [modUp]
@[simp] theorem modUp_power (p : UpPort) (f : UpUnit → UpUnit) (s : State) : (modUp p f s).power = s.power := by simp only [modUp]
@[simp] theorem modUp_route (p : UpPort) (f : UpUnit → UpUnit) (s : State) : (modUp p f s).route = s.route := by simp only [modUp]
@[simp] theorem modUp_therm (p : UpPort) (f : UpUnit → UpUnit) (s : State) : (modUp p f s).therm = s.therm := by simp only [modUp]
@[simp] theorem modUp_cool (p : UpPort) (f : UpUnit → UpUnit) (s : State) : (modUp p f s).cool = s.cool := by simp only [modUp]
@[simp] theorem modUp_light (p : UpPort) (f : UpUnit → UpUnit) (s : State) : (modUp p f s).light = s.light := by simp only [modUp]
@[simp] theorem modUp_mgmt (p : UpPort) (f : UpUnit → UpUnit) (s : State) : (modUp p f s).mgmt = s.mgmt := by simp only [modUp]
@[simp] theorem modUp_ev (p : UpPort) (f : UpUnit → UpUnit) (s : State) : (modUp p f s).ev = s.ev := by simp only [modUp]
@[simp] theorem modUp_pending (p : UpPort) (f : UpUnit → UpUnit) (s : State) : (modUp p f s).pending = s.pending := by simp only [modUp]

/-! ### pushBay -/

@[simp] theorem pushBay_now (b : Bay) (h : Held) (s : State) : (pushBay b h s).now = s.now := by simp only [pushBay]
@[simp] theorem pushBay_addrStrap (b : Bay) (h : Held) (s : State) : (pushBay b h s).addrStrap = s.addrStrap := by simp only [pushBay]
@[simp] theorem pushBay_budStrap (b : Bay) (h : Held) (s : State) : (pushBay b h s).budStrap = s.budStrap := by simp only [pushBay]
@[simp] theorem pushBay_line (b : Bay) (h : Held) (s : State) : (pushBay b h s).line = s.line := by simp only [pushBay]
@[simp] theorem pushBay_bays (b : Bay) (h : Held) (s : State) : (pushBay b h s).bays = s.bays := by simp only [pushBay]
@[simp] theorem pushBay_power (b : Bay) (h : Held) (s : State) : (pushBay b h s).power = s.power := by simp only [pushBay]
@[simp] theorem pushBay_route (b : Bay) (h : Held) (s : State) : (pushBay b h s).route = s.route := by simp only [pushBay]
@[simp] theorem pushBay_therm (b : Bay) (h : Held) (s : State) : (pushBay b h s).therm = s.therm := by simp only [pushBay]
@[simp] theorem pushBay_cool (b : Bay) (h : Held) (s : State) : (pushBay b h s).cool = s.cool := by simp only [pushBay]
@[simp] theorem pushBay_light (b : Bay) (h : Held) (s : State) : (pushBay b h s).light = s.light := by simp only [pushBay]
@[simp] theorem pushBay_mgmt (b : Bay) (h : Held) (s : State) : (pushBay b h s).mgmt = s.mgmt := by simp only [pushBay]
@[simp] theorem pushBay_ev (b : Bay) (h : Held) (s : State) : (pushBay b h s).ev = s.ev := by simp only [pushBay]
@[simp] theorem pushBay_pending (b : Bay) (h : Held) (s : State) : (pushBay b h s).pending = s.pending := by simp only [pushBay]

/-! ### pushPriority -/

@[simp] theorem pushPriority_now (p : UpPort) (h : Held) (s : State) : (pushPriority p h s).now = s.now := by simp only [pushPriority, modUp]
@[simp] theorem pushPriority_addrStrap (p : UpPort) (h : Held) (s : State) : (pushPriority p h s).addrStrap = s.addrStrap := by simp only [pushPriority, modUp]
@[simp] theorem pushPriority_budStrap (p : UpPort) (h : Held) (s : State) : (pushPriority p h s).budStrap = s.budStrap := by simp only [pushPriority, modUp]
@[simp] theorem pushPriority_line (p : UpPort) (h : Held) (s : State) : (pushPriority p h s).line = s.line := by simp only [pushPriority, modUp]
@[simp] theorem pushPriority_bays (p : UpPort) (h : Held) (s : State) : (pushPriority p h s).bays = s.bays := by simp only [pushPriority, modUp]
@[simp] theorem pushPriority_power (p : UpPort) (h : Held) (s : State) : (pushPriority p h s).power = s.power := by simp only [pushPriority, modUp]
@[simp] theorem pushPriority_route (p : UpPort) (h : Held) (s : State) : (pushPriority p h s).route = s.route := by simp only [pushPriority, modUp]
@[simp] theorem pushPriority_therm (p : UpPort) (h : Held) (s : State) : (pushPriority p h s).therm = s.therm := by simp only [pushPriority, modUp]
@[simp] theorem pushPriority_cool (p : UpPort) (h : Held) (s : State) : (pushPriority p h s).cool = s.cool := by simp only [pushPriority, modUp]
@[simp] theorem pushPriority_light (p : UpPort) (h : Held) (s : State) : (pushPriority p h s).light = s.light := by simp only [pushPriority, modUp]
@[simp] theorem pushPriority_mgmt (p : UpPort) (h : Held) (s : State) : (pushPriority p h s).mgmt = s.mgmt := by simp only [pushPriority, modUp]
@[simp] theorem pushPriority_ev (p : UpPort) (h : Held) (s : State) : (pushPriority p h s).ev = s.ev := by simp only [pushPriority, modUp]
@[simp] theorem pushPriority_pending (p : UpPort) (h : Held) (s : State) : (pushPriority p h s).pending = s.pending := by simp only [pushPriority, modUp]

/-! ### pushNormal -/

@[simp] theorem pushNormal_now (p : UpPort) (h : Held) (s : State) : (pushNormal p h s).now = s.now := by simp only [pushNormal, modUp]
@[simp] theorem pushNormal_addrStrap (p : UpPort) (h : Held) (s : State) : (pushNormal p h s).addrStrap = s.addrStrap := by simp only [pushNormal, modUp]
@[simp] theorem pushNormal_budStrap (p : UpPort) (h : Held) (s : State) : (pushNormal p h s).budStrap = s.budStrap := by simp only [pushNormal, modUp]
@[simp] theorem pushNormal_line (p : UpPort) (h : Held) (s : State) : (pushNormal p h s).line = s.line := by simp only [pushNormal, modUp]
@[simp] theorem pushNormal_bays (p : UpPort) (h : Held) (s : State) : (pushNormal p h s).bays = s.bays := by simp only [pushNormal, modUp]
@[simp] theorem pushNormal_power (p : UpPort) (h : Held) (s : State) : (pushNormal p h s).power = s.power := by simp only [pushNormal, modUp]
@[simp] theorem pushNormal_route (p : UpPort) (h : Held) (s : State) : (pushNormal p h s).route = s.route := by simp only [pushNormal, modUp]
@[simp] theorem pushNormal_therm (p : UpPort) (h : Held) (s : State) : (pushNormal p h s).therm = s.therm := by simp only [pushNormal, modUp]
@[simp] theorem pushNormal_cool (p : UpPort) (h : Held) (s : State) : (pushNormal p h s).cool = s.cool := by simp only [pushNormal, modUp]
@[simp] theorem pushNormal_light (p : UpPort) (h : Held) (s : State) : (pushNormal p h s).light = s.light := by simp only [pushNormal, modUp]
@[simp] theorem pushNormal_mgmt (p : UpPort) (h : Held) (s : State) : (pushNormal p h s).mgmt = s.mgmt := by simp only [pushNormal, modUp]
@[simp] theorem pushNormal_ev (p : UpPort) (h : Held) (s : State) : (pushNormal p h s).ev = s.ev := by simp only [pushNormal, modUp]
@[simp] theorem pushNormal_pending (p : UpPort) (h : Held) (s : State) : (pushNormal p h s).pending = s.pending := by simp only [pushNormal, modUp]

/-! ### count -/

@[simp] theorem count_now (p : Port) (k : CounterKind) (n : Nat) (s : State) : (count p k n s).now = s.now := by simp only [count]
@[simp] theorem count_addrStrap (p : Port) (k : CounterKind) (n : Nat) (s : State) : (count p k n s).addrStrap = s.addrStrap := by simp only [count]
@[simp] theorem count_budStrap (p : Port) (k : CounterKind) (n : Nat) (s : State) : (count p k n s).budStrap = s.budStrap := by simp only [count]
@[simp] theorem count_line (p : Port) (k : CounterKind) (n : Nat) (s : State) : (count p k n s).line = s.line := by simp only [count]
@[simp] theorem count_bays (p : Port) (k : CounterKind) (n : Nat) (s : State) : (count p k n s).bays = s.bays := by simp only [count]
@[simp] theorem count_power (p : Port) (k : CounterKind) (n : Nat) (s : State) : (count p k n s).power = s.power := by simp only [count]
@[simp] theorem count_route (p : Port) (k : CounterKind) (n : Nat) (s : State) : (count p k n s).route = s.route := by simp only [count]
@[simp] theorem count_therm (p : Port) (k : CounterKind) (n : Nat) (s : State) : (count p k n s).therm = s.therm := by simp only [count]
@[simp] theorem count_cool (p : Port) (k : CounterKind) (n : Nat) (s : State) : (count p k n s).cool = s.cool := by simp only [count]
@[simp] theorem count_light (p : Port) (k : CounterKind) (n : Nat) (s : State) : (count p k n s).light = s.light := by simp only [count]
@[simp] theorem count_mgmt (p : Port) (k : CounterKind) (n : Nat) (s : State) : (count p k n s).mgmt = s.mgmt := by simp only [count]
@[simp] theorem count_ev (p : Port) (k : CounterKind) (n : Nat) (s : State) : (count p k n s).ev = s.ev := by simp only [count]
@[simp] theorem count_pending (p : Port) (k : CounterKind) (n : Nat) (s : State) : (count p k n s).pending = s.pending := by simp only [count]

/-! ### clearSlot -/

@[simp] theorem clearSlot_now (p : Port) (s : State) : (clearSlot p s).now = s.now := by simp only [clearSlot]
@[simp] theorem clearSlot_addrStrap (p : Port) (s : State) : (clearSlot p s).addrStrap = s.addrStrap := by simp only [clearSlot]
@[simp] theorem clearSlot_budStrap (p : Port) (s : State) : (clearSlot p s).budStrap = s.budStrap := by simp only [clearSlot]
@[simp] theorem clearSlot_line (p : Port) (s : State) : (clearSlot p s).line = s.line := by simp only [clearSlot]
@[simp] theorem clearSlot_bays (p : Port) (s : State) : (clearSlot p s).bays = s.bays := by simp only [clearSlot]
@[simp] theorem clearSlot_power (p : Port) (s : State) : (clearSlot p s).power = s.power := by simp only [clearSlot]
@[simp] theorem clearSlot_route (p : Port) (s : State) : (clearSlot p s).route = s.route := by simp only [clearSlot]
@[simp] theorem clearSlot_therm (p : Port) (s : State) : (clearSlot p s).therm = s.therm := by simp only [clearSlot]
@[simp] theorem clearSlot_cool (p : Port) (s : State) : (clearSlot p s).cool = s.cool := by simp only [clearSlot]
@[simp] theorem clearSlot_light (p : Port) (s : State) : (clearSlot p s).light = s.light := by simp only [clearSlot]
@[simp] theorem clearSlot_mgmt (p : Port) (s : State) : (clearSlot p s).mgmt = s.mgmt := by simp only [clearSlot]
@[simp] theorem clearSlot_ev (p : Port) (s : State) : (clearSlot p s).ev = s.ev := by simp only [clearSlot]
@[simp] theorem clearSlot_pending (p : Port) (s : State) : (clearSlot p s).pending = s.pending := by simp only [clearSlot]

/-! ### enterSlot -/

@[simp] theorem enterSlot_now (p q : Port) (f : Frame) (s : State) : (enterSlot p q f s).now = s.now := by simp only [enterSlot]
@[simp] theorem enterSlot_addrStrap (p q : Port) (f : Frame) (s : State) : (enterSlot p q f s).addrStrap = s.addrStrap := by simp only [enterSlot]
@[simp] theorem enterSlot_budStrap (p q : Port) (f : Frame) (s : State) : (enterSlot p q f s).budStrap = s.budStrap := by simp only [enterSlot]
@[simp] theorem enterSlot_line (p q : Port) (f : Frame) (s : State) : (enterSlot p q f s).line = s.line := by simp only [enterSlot]
@[simp] theorem enterSlot_bays (p q : Port) (f : Frame) (s : State) : (enterSlot p q f s).bays = s.bays := by simp only [enterSlot]
@[simp] theorem enterSlot_power (p q : Port) (f : Frame) (s : State) : (enterSlot p q f s).power = s.power := by simp only [enterSlot]
@[simp] theorem enterSlot_route (p q : Port) (f : Frame) (s : State) : (enterSlot p q f s).route = s.route := by simp only [enterSlot]
@[simp] theorem enterSlot_therm (p q : Port) (f : Frame) (s : State) : (enterSlot p q f s).therm = s.therm := by simp only [enterSlot]
@[simp] theorem enterSlot_cool (p q : Port) (f : Frame) (s : State) : (enterSlot p q f s).cool = s.cool := by simp only [enterSlot]
@[simp] theorem enterSlot_light (p q : Port) (f : Frame) (s : State) : (enterSlot p q f s).light = s.light := by simp only [enterSlot]
@[simp] theorem enterSlot_mgmt (p q : Port) (f : Frame) (s : State) : (enterSlot p q f s).mgmt = s.mgmt := by simp only [enterSlot]
@[simp] theorem enterSlot_ev (p q : Port) (f : Frame) (s : State) : (enterSlot p q f s).ev = s.ev := by simp only [enterSlot]
@[simp] theorem enterSlot_pending (p q : Port) (f : Frame) (s : State) : (enterSlot p q f s).pending = s.pending := by simp only [enterSlot]

/-! ### setTransmitting -/

@[simp] theorem setTransmitting_now (p : Port) (h : Held) (s : State) : (setTransmitting p h s).now = s.now := by simp only [setTransmitting]
@[simp] theorem setTransmitting_addrStrap (p : Port) (h : Held) (s : State) : (setTransmitting p h s).addrStrap = s.addrStrap := by simp only [setTransmitting]
@[simp] theorem setTransmitting_budStrap (p : Port) (h : Held) (s : State) : (setTransmitting p h s).budStrap = s.budStrap := by simp only [setTransmitting]
@[simp] theorem setTransmitting_line (p : Port) (h : Held) (s : State) : (setTransmitting p h s).line = s.line := by simp only [setTransmitting]
@[simp] theorem setTransmitting_bays (p : Port) (h : Held) (s : State) : (setTransmitting p h s).bays = s.bays := by simp only [setTransmitting]
@[simp] theorem setTransmitting_power (p : Port) (h : Held) (s : State) : (setTransmitting p h s).power = s.power := by simp only [setTransmitting]
@[simp] theorem setTransmitting_route (p : Port) (h : Held) (s : State) : (setTransmitting p h s).route = s.route := by simp only [setTransmitting]
@[simp] theorem setTransmitting_therm (p : Port) (h : Held) (s : State) : (setTransmitting p h s).therm = s.therm := by simp only [setTransmitting]
@[simp] theorem setTransmitting_cool (p : Port) (h : Held) (s : State) : (setTransmitting p h s).cool = s.cool := by simp only [setTransmitting]
@[simp] theorem setTransmitting_light (p : Port) (h : Held) (s : State) : (setTransmitting p h s).light = s.light := by simp only [setTransmitting]
@[simp] theorem setTransmitting_mgmt (p : Port) (h : Held) (s : State) : (setTransmitting p h s).mgmt = s.mgmt := by simp only [setTransmitting]
@[simp] theorem setTransmitting_ev (p : Port) (h : Held) (s : State) : (setTransmitting p h s).ev = s.ev := by simp only [setTransmitting]
@[simp] theorem setTransmitting_pending (p : Port) (h : Held) (s : State) : (setTransmitting p h s).pending = s.pending := by simp only [setTransmitting]

/-! ### advance -/

@[simp] theorem advance_addrStrap (t : Nat) (s : State) : (advance t s).addrStrap = s.addrStrap := by simp only [advance]
@[simp] theorem advance_budStrap (t : Nat) (s : State) : (advance t s).budStrap = s.budStrap := by simp only [advance]
@[simp] theorem advance_line (t : Nat) (s : State) : (advance t s).line = s.line := by simp only [advance]
@[simp] theorem advance_bays (t : Nat) (s : State) : (advance t s).bays = s.bays := by simp only [advance]
@[simp] theorem advance_power (t : Nat) (s : State) : (advance t s).power = s.power := by simp only [advance]
@[simp] theorem advance_fwd (t : Nat) (s : State) : (advance t s).fwd = s.fwd := by simp only [advance]
@[simp] theorem advance_route (t : Nat) (s : State) : (advance t s).route = s.route := by simp only [advance]
@[simp] theorem advance_therm (t : Nat) (s : State) : (advance t s).therm = s.therm := by simp only [advance]
@[simp] theorem advance_cool (t : Nat) (s : State) : (advance t s).cool = s.cool := by simp only [advance]
@[simp] theorem advance_light (t : Nat) (s : State) : (advance t s).light = s.light := by simp only [advance]
@[simp] theorem advance_mgmt (t : Nat) (s : State) : (advance t s).mgmt = s.mgmt := by simp only [advance]
@[simp] theorem advance_ev (t : Nat) (s : State) : (advance t s).ev = s.ev := by simp only [advance]
@[simp] theorem advance_pending (t : Nat) (s : State) : (advance t s).pending = s.pending := by simp only [advance]

/-! ### ask -/

@[simp] theorem ask_now (s : State) : (ask s).now = s.now := by simp only [ask]
@[simp] theorem ask_addrStrap (s : State) : (ask s).addrStrap = s.addrStrap := by simp only [ask]
@[simp] theorem ask_budStrap (s : State) : (ask s).budStrap = s.budStrap := by simp only [ask]
@[simp] theorem ask_line (s : State) : (ask s).line = s.line := by simp only [ask]
@[simp] theorem ask_bays (s : State) : (ask s).bays = s.bays := by simp only [ask]
@[simp] theorem ask_fwd (s : State) : (ask s).fwd = s.fwd := by simp only [ask]
@[simp] theorem ask_route (s : State) : (ask s).route = s.route := by simp only [ask]
@[simp] theorem ask_therm (s : State) : (ask s).therm = s.therm := by simp only [ask]
@[simp] theorem ask_cool (s : State) : (ask s).cool = s.cool := by simp only [ask]
@[simp] theorem ask_light (s : State) : (ask s).light = s.light := by simp only [ask]
@[simp] theorem ask_mgmt (s : State) : (ask s).mgmt = s.mgmt := by simp only [ask]
@[simp] theorem ask_ev (s : State) : (ask s).ev = s.ev := by simp only [ask]
@[simp] theorem ask_pending (s : State) : (ask s).pending = s.pending := by simp only [ask]

/-! ### setFilter -/

@[simp] theorem setFilter_now (b : Bay) (x : OcFilter) (s : State) : (setFilter b x s).now = s.now := by simp only [setFilter]
@[simp] theorem setFilter_addrStrap (b : Bay) (x : OcFilter) (s : State) : (setFilter b x s).addrStrap = s.addrStrap := by simp only [setFilter]
@[simp] theorem setFilter_budStrap (b : Bay) (x : OcFilter) (s : State) : (setFilter b x s).budStrap = s.budStrap := by simp only [setFilter]
@[simp] theorem setFilter_line (b : Bay) (x : OcFilter) (s : State) : (setFilter b x s).line = s.line := by simp only [setFilter]
@[simp] theorem setFilter_bays (b : Bay) (x : OcFilter) (s : State) : (setFilter b x s).bays = s.bays := by simp only [setFilter]
@[simp] theorem setFilter_fwd (b : Bay) (x : OcFilter) (s : State) : (setFilter b x s).fwd = s.fwd := by simp only [setFilter]
@[simp] theorem setFilter_route (b : Bay) (x : OcFilter) (s : State) : (setFilter b x s).route = s.route := by simp only [setFilter]
@[simp] theorem setFilter_therm (b : Bay) (x : OcFilter) (s : State) : (setFilter b x s).therm = s.therm := by simp only [setFilter]
@[simp] theorem setFilter_cool (b : Bay) (x : OcFilter) (s : State) : (setFilter b x s).cool = s.cool := by simp only [setFilter]
@[simp] theorem setFilter_light (b : Bay) (x : OcFilter) (s : State) : (setFilter b x s).light = s.light := by simp only [setFilter]
@[simp] theorem setFilter_mgmt (b : Bay) (x : OcFilter) (s : State) : (setFilter b x s).mgmt = s.mgmt := by simp only [setFilter]
@[simp] theorem setFilter_ev (b : Bay) (x : OcFilter) (s : State) : (setFilter b x s).ev = s.ev := by simp only [setFilter]
@[simp] theorem setFilter_pending (b : Bay) (x : OcFilter) (s : State) : (setFilter b x s).pending = s.pending := by simp only [setFilter]

/-! ### setSense -/

@[simp] theorem setSense_now (b : Bay) (v : Bool) (s : State) : (setSense b v s).now = s.now := by simp only [setSense]
@[simp] theorem setSense_addrStrap (b : Bay) (v : Bool) (s : State) : (setSense b v s).addrStrap = s.addrStrap := by simp only [setSense]
@[simp] theorem setSense_budStrap (b : Bay) (v : Bool) (s : State) : (setSense b v s).budStrap = s.budStrap := by simp only [setSense]
@[simp] theorem setSense_line (b : Bay) (v : Bool) (s : State) : (setSense b v s).line = s.line := by simp only [setSense]
@[simp] theorem setSense_bays (b : Bay) (v : Bool) (s : State) : (setSense b v s).bays = s.bays := by simp only [setSense]
@[simp] theorem setSense_fwd (b : Bay) (v : Bool) (s : State) : (setSense b v s).fwd = s.fwd := by simp only [setSense]
@[simp] theorem setSense_route (b : Bay) (v : Bool) (s : State) : (setSense b v s).route = s.route := by simp only [setSense]
@[simp] theorem setSense_therm (b : Bay) (v : Bool) (s : State) : (setSense b v s).therm = s.therm := by simp only [setSense]
@[simp] theorem setSense_cool (b : Bay) (v : Bool) (s : State) : (setSense b v s).cool = s.cool := by simp only [setSense]
@[simp] theorem setSense_light (b : Bay) (v : Bool) (s : State) : (setSense b v s).light = s.light := by simp only [setSense]
@[simp] theorem setSense_mgmt (b : Bay) (v : Bool) (s : State) : (setSense b v s).mgmt = s.mgmt := by simp only [setSense]
@[simp] theorem setSense_ev (b : Bay) (v : Bool) (s : State) : (setSense b v s).ev = s.ev := by simp only [setSense]
@[simp] theorem setSense_pending (b : Bay) (v : Bool) (s : State) : (setSense b v s).pending = s.pending := by simp only [setSense]

/-! ### clearLearned -/

@[simp] theorem clearLearned_now (p : Port) (s : State) : (clearLearned p s).now = s.now := by simp only [clearLearned]
@[simp] theorem clearLearned_addrStrap (p : Port) (s : State) : (clearLearned p s).addrStrap = s.addrStrap := by simp only [clearLearned]
@[simp] theorem clearLearned_budStrap (p : Port) (s : State) : (clearLearned p s).budStrap = s.budStrap := by simp only [clearLearned]
@[simp] theorem clearLearned_line (p : Port) (s : State) : (clearLearned p s).line = s.line := by simp only [clearLearned]
@[simp] theorem clearLearned_bays (p : Port) (s : State) : (clearLearned p s).bays = s.bays := by simp only [clearLearned]
@[simp] theorem clearLearned_power (p : Port) (s : State) : (clearLearned p s).power = s.power := by simp only [clearLearned]
@[simp] theorem clearLearned_fwd (p : Port) (s : State) : (clearLearned p s).fwd = s.fwd := by simp only [clearLearned]
@[simp] theorem clearLearned_therm (p : Port) (s : State) : (clearLearned p s).therm = s.therm := by simp only [clearLearned]
@[simp] theorem clearLearned_cool (p : Port) (s : State) : (clearLearned p s).cool = s.cool := by simp only [clearLearned]
@[simp] theorem clearLearned_light (p : Port) (s : State) : (clearLearned p s).light = s.light := by simp only [clearLearned]
@[simp] theorem clearLearned_mgmt (p : Port) (s : State) : (clearLearned p s).mgmt = s.mgmt := by simp only [clearLearned]
@[simp] theorem clearLearned_ev (p : Port) (s : State) : (clearLearned p s).ev = s.ev := by simp only [clearLearned]
@[simp] theorem clearLearned_pending (p : Port) (s : State) : (clearLearned p s).pending = s.pending := by simp only [clearLearned]

/-! ### modModule -/

@[simp] theorem modModule_now (m : FanModule) (f : ModuleUnit → ModuleUnit) (s : State) : (modModule m f s).now = s.now := by simp only [modModule]
@[simp] theorem modModule_addrStrap (m : FanModule) (f : ModuleUnit → ModuleUnit) (s : State) : (modModule m f s).addrStrap = s.addrStrap := by simp only [modModule]
@[simp] theorem modModule_budStrap (m : FanModule) (f : ModuleUnit → ModuleUnit) (s : State) : (modModule m f s).budStrap = s.budStrap := by simp only [modModule]
@[simp] theorem modModule_line (m : FanModule) (f : ModuleUnit → ModuleUnit) (s : State) : (modModule m f s).line = s.line := by simp only [modModule]
@[simp] theorem modModule_bays (m : FanModule) (f : ModuleUnit → ModuleUnit) (s : State) : (modModule m f s).bays = s.bays := by simp only [modModule]
@[simp] theorem modModule_power (m : FanModule) (f : ModuleUnit → ModuleUnit) (s : State) : (modModule m f s).power = s.power := by simp only [modModule]
@[simp] theorem modModule_fwd (m : FanModule) (f : ModuleUnit → ModuleUnit) (s : State) : (modModule m f s).fwd = s.fwd := by simp only [modModule]
@[simp] theorem modModule_route (m : FanModule) (f : ModuleUnit → ModuleUnit) (s : State) : (modModule m f s).route = s.route := by simp only [modModule]
@[simp] theorem modModule_therm (m : FanModule) (f : ModuleUnit → ModuleUnit) (s : State) : (modModule m f s).therm = s.therm := by simp only [modModule]
@[simp] theorem modModule_light (m : FanModule) (f : ModuleUnit → ModuleUnit) (s : State) : (modModule m f s).light = s.light := by simp only [modModule]
@[simp] theorem modModule_mgmt (m : FanModule) (f : ModuleUnit → ModuleUnit) (s : State) : (modModule m f s).mgmt = s.mgmt := by simp only [modModule]
@[simp] theorem modModule_ev (m : FanModule) (f : ModuleUnit → ModuleUnit) (s : State) : (modModule m f s).ev = s.ev := by simp only [modModule]
@[simp] theorem modModule_pending (m : FanModule) (f : ModuleUnit → ModuleUnit) (s : State) : (modModule m f s).pending = s.pending := by simp only [modModule]

/-! ### refreshZoneStates -/

@[simp] theorem refreshZoneStates_now (s : State) : (refreshZoneStates s).now = s.now := by simp only [refreshZoneStates]
@[simp] theorem refreshZoneStates_addrStrap (s : State) : (refreshZoneStates s).addrStrap = s.addrStrap := by simp only [refreshZoneStates]
@[simp] theorem refreshZoneStates_budStrap (s : State) : (refreshZoneStates s).budStrap = s.budStrap := by simp only [refreshZoneStates]
@[simp] theorem refreshZoneStates_line (s : State) : (refreshZoneStates s).line = s.line := by simp only [refreshZoneStates]
@[simp] theorem refreshZoneStates_bays (s : State) : (refreshZoneStates s).bays = s.bays := by simp only [refreshZoneStates]
@[simp] theorem refreshZoneStates_power (s : State) : (refreshZoneStates s).power = s.power := by simp only [refreshZoneStates]
@[simp] theorem refreshZoneStates_fwd (s : State) : (refreshZoneStates s).fwd = s.fwd := by simp only [refreshZoneStates]
@[simp] theorem refreshZoneStates_route (s : State) : (refreshZoneStates s).route = s.route := by simp only [refreshZoneStates]
@[simp] theorem refreshZoneStates_therm (s : State) : (refreshZoneStates s).therm = s.therm := by simp only [refreshZoneStates]
@[simp] theorem refreshZoneStates_light (s : State) : (refreshZoneStates s).light = s.light := by simp only [refreshZoneStates]
@[simp] theorem refreshZoneStates_mgmt (s : State) : (refreshZoneStates s).mgmt = s.mgmt := by simp only [refreshZoneStates]
@[simp] theorem refreshZoneStates_ev (s : State) : (refreshZoneStates s).ev = s.ev := by simp only [refreshZoneStates]
@[simp] theorem refreshZoneStates_pending (s : State) : (refreshZoneStates s).pending = s.pending := by simp only [refreshZoneStates]

/-! ### zoneDemand -/

@[simp] theorem zoneDemand_now (s : State) : (zoneDemand s).now = s.now := by simp only [zoneDemand]
@[simp] theorem zoneDemand_addrStrap (s : State) : (zoneDemand s).addrStrap = s.addrStrap := by simp only [zoneDemand]
@[simp] theorem zoneDemand_budStrap (s : State) : (zoneDemand s).budStrap = s.budStrap := by simp only [zoneDemand]
@[simp] theorem zoneDemand_line (s : State) : (zoneDemand s).line = s.line := by simp only [zoneDemand]
@[simp] theorem zoneDemand_bays (s : State) : (zoneDemand s).bays = s.bays := by simp only [zoneDemand]
@[simp] theorem zoneDemand_power (s : State) : (zoneDemand s).power = s.power := by simp only [zoneDemand]
@[simp] theorem zoneDemand_fwd (s : State) : (zoneDemand s).fwd = s.fwd := by simp only [zoneDemand]
@[simp] theorem zoneDemand_route (s : State) : (zoneDemand s).route = s.route := by simp only [zoneDemand]
@[simp] theorem zoneDemand_therm (s : State) : (zoneDemand s).therm = s.therm := by simp only [zoneDemand]
@[simp] theorem zoneDemand_light (s : State) : (zoneDemand s).light = s.light := by simp only [zoneDemand]
@[simp] theorem zoneDemand_mgmt (s : State) : (zoneDemand s).mgmt = s.mgmt := by simp only [zoneDemand]
@[simp] theorem zoneDemand_ev (s : State) : (zoneDemand s).ev = s.ev := by simp only [zoneDemand]
@[simp] theorem zoneDemand_pending (s : State) : (zoneDemand s).pending = s.pending := by simp only [zoneDemand]

/-! ### restartPeriod -/

@[simp] theorem restartPeriod_now (s : State) : (restartPeriod s).now = s.now := by simp only [restartPeriod]
@[simp] theorem restartPeriod_addrStrap (s : State) : (restartPeriod s).addrStrap = s.addrStrap := by simp only [restartPeriod]
@[simp] theorem restartPeriod_budStrap (s : State) : (restartPeriod s).budStrap = s.budStrap := by simp only [restartPeriod]
@[simp] theorem restartPeriod_line (s : State) : (restartPeriod s).line = s.line := by simp only [restartPeriod]
@[simp] theorem restartPeriod_bays (s : State) : (restartPeriod s).bays = s.bays := by simp only [restartPeriod]
@[simp] theorem restartPeriod_power (s : State) : (restartPeriod s).power = s.power := by simp only [restartPeriod]
@[simp] theorem restartPeriod_fwd (s : State) : (restartPeriod s).fwd = s.fwd := by simp only [restartPeriod]
@[simp] theorem restartPeriod_route (s : State) : (restartPeriod s).route = s.route := by simp only [restartPeriod]
@[simp] theorem restartPeriod_therm (s : State) : (restartPeriod s).therm = s.therm := by simp only [restartPeriod]
@[simp] theorem restartPeriod_light (s : State) : (restartPeriod s).light = s.light := by simp only [restartPeriod]
@[simp] theorem restartPeriod_mgmt (s : State) : (restartPeriod s).mgmt = s.mgmt := by simp only [restartPeriod]
@[simp] theorem restartPeriod_ev (s : State) : (restartPeriod s).ev = s.ev := by simp only [restartPeriod]
@[simp] theorem restartPeriod_pending (s : State) : (restartPeriod s).pending = s.pending := by simp only [restartPeriod]

/-! ### thermalInputs -/

@[simp] theorem thermalInputs_now (c : Vector (Option Int) 4) (s : State) : (thermalInputs c s).now = s.now := by simp only [thermalInputs]
@[simp] theorem thermalInputs_addrStrap (c : Vector (Option Int) 4) (s : State) : (thermalInputs c s).addrStrap = s.addrStrap := by simp only [thermalInputs]
@[simp] theorem thermalInputs_budStrap (c : Vector (Option Int) 4) (s : State) : (thermalInputs c s).budStrap = s.budStrap := by simp only [thermalInputs]
@[simp] theorem thermalInputs_line (c : Vector (Option Int) 4) (s : State) : (thermalInputs c s).line = s.line := by simp only [thermalInputs]
@[simp] theorem thermalInputs_bays (c : Vector (Option Int) 4) (s : State) : (thermalInputs c s).bays = s.bays := by simp only [thermalInputs]
@[simp] theorem thermalInputs_power (c : Vector (Option Int) 4) (s : State) : (thermalInputs c s).power = s.power := by simp only [thermalInputs]
@[simp] theorem thermalInputs_fwd (c : Vector (Option Int) 4) (s : State) : (thermalInputs c s).fwd = s.fwd := by simp only [thermalInputs]
@[simp] theorem thermalInputs_route (c : Vector (Option Int) 4) (s : State) : (thermalInputs c s).route = s.route := by simp only [thermalInputs]
@[simp] theorem thermalInputs_cool (c : Vector (Option Int) 4) (s : State) : (thermalInputs c s).cool = s.cool := by simp only [thermalInputs]
@[simp] theorem thermalInputs_light (c : Vector (Option Int) 4) (s : State) : (thermalInputs c s).light = s.light := by simp only [thermalInputs]
@[simp] theorem thermalInputs_mgmt (c : Vector (Option Int) 4) (s : State) : (thermalInputs c s).mgmt = s.mgmt := by simp only [thermalInputs]
@[simp] theorem thermalInputs_ev (c : Vector (Option Int) 4) (s : State) : (thermalInputs c s).ev = s.ev := by simp only [thermalInputs]
@[simp] theorem thermalInputs_pending (c : Vector (Option Int) 4) (s : State) : (thermalInputs c s).pending = s.pending := by simp only [thermalInputs]

/-! ### takeRequest -/

@[simp] theorem takeRequest_now (p : UpPort) (s : State) : (takeRequest p s).now = s.now := by simp only [takeRequest]
@[simp] theorem takeRequest_addrStrap (p : UpPort) (s : State) : (takeRequest p s).addrStrap = s.addrStrap := by simp only [takeRequest]
@[simp] theorem takeRequest_budStrap (p : UpPort) (s : State) : (takeRequest p s).budStrap = s.budStrap := by simp only [takeRequest]
@[simp] theorem takeRequest_line (p : UpPort) (s : State) : (takeRequest p s).line = s.line := by simp only [takeRequest]
@[simp] theorem takeRequest_bays (p : UpPort) (s : State) : (takeRequest p s).bays = s.bays := by simp only [takeRequest]
@[simp] theorem takeRequest_power (p : UpPort) (s : State) : (takeRequest p s).power = s.power := by simp only [takeRequest]
@[simp] theorem takeRequest_fwd (p : UpPort) (s : State) : (takeRequest p s).fwd = s.fwd := by simp only [takeRequest]
@[simp] theorem takeRequest_route (p : UpPort) (s : State) : (takeRequest p s).route = s.route := by simp only [takeRequest]
@[simp] theorem takeRequest_therm (p : UpPort) (s : State) : (takeRequest p s).therm = s.therm := by simp only [takeRequest]
@[simp] theorem takeRequest_cool (p : UpPort) (s : State) : (takeRequest p s).cool = s.cool := by simp only [takeRequest]
@[simp] theorem takeRequest_light (p : UpPort) (s : State) : (takeRequest p s).light = s.light := by simp only [takeRequest]
@[simp] theorem takeRequest_ev (p : UpPort) (s : State) : (takeRequest p s).ev = s.ev := by simp only [takeRequest]
@[simp] theorem takeRequest_pending (p : UpPort) (s : State) : (takeRequest p s).pending = s.pending := by simp only [takeRequest]

/-! ### pushRequest -/

@[simp] theorem pushRequest_now (p : UpPort) (f : Frame) (s : State) : (pushRequest p f s).now = s.now := by simp only [pushRequest]
@[simp] theorem pushRequest_addrStrap (p : UpPort) (f : Frame) (s : State) : (pushRequest p f s).addrStrap = s.addrStrap := by simp only [pushRequest]
@[simp] theorem pushRequest_budStrap (p : UpPort) (f : Frame) (s : State) : (pushRequest p f s).budStrap = s.budStrap := by simp only [pushRequest]
@[simp] theorem pushRequest_line (p : UpPort) (f : Frame) (s : State) : (pushRequest p f s).line = s.line := by simp only [pushRequest]
@[simp] theorem pushRequest_bays (p : UpPort) (f : Frame) (s : State) : (pushRequest p f s).bays = s.bays := by simp only [pushRequest]
@[simp] theorem pushRequest_power (p : UpPort) (f : Frame) (s : State) : (pushRequest p f s).power = s.power := by simp only [pushRequest]
@[simp] theorem pushRequest_fwd (p : UpPort) (f : Frame) (s : State) : (pushRequest p f s).fwd = s.fwd := by simp only [pushRequest]
@[simp] theorem pushRequest_route (p : UpPort) (f : Frame) (s : State) : (pushRequest p f s).route = s.route := by simp only [pushRequest]
@[simp] theorem pushRequest_therm (p : UpPort) (f : Frame) (s : State) : (pushRequest p f s).therm = s.therm := by simp only [pushRequest]
@[simp] theorem pushRequest_cool (p : UpPort) (f : Frame) (s : State) : (pushRequest p f s).cool = s.cool := by simp only [pushRequest]
@[simp] theorem pushRequest_light (p : UpPort) (f : Frame) (s : State) : (pushRequest p f s).light = s.light := by simp only [pushRequest]
@[simp] theorem pushRequest_ev (p : UpPort) (f : Frame) (s : State) : (pushRequest p f s).ev = s.ev := by simp only [pushRequest]
@[simp] theorem pushRequest_pending (p : UpPort) (f : Frame) (s : State) : (pushRequest p f s).pending = s.pending := by simp only [pushRequest]

/-! ### dropRequests -/

@[simp] theorem dropRequests_now (p : UpPort) (s : State) : (dropRequests p s).now = s.now := by simp only [dropRequests]
@[simp] theorem dropRequests_addrStrap (p : UpPort) (s : State) : (dropRequests p s).addrStrap = s.addrStrap := by simp only [dropRequests]
@[simp] theorem dropRequests_budStrap (p : UpPort) (s : State) : (dropRequests p s).budStrap = s.budStrap := by simp only [dropRequests]
@[simp] theorem dropRequests_line (p : UpPort) (s : State) : (dropRequests p s).line = s.line := by simp only [dropRequests]
@[simp] theorem dropRequests_bays (p : UpPort) (s : State) : (dropRequests p s).bays = s.bays := by simp only [dropRequests]
@[simp] theorem dropRequests_power (p : UpPort) (s : State) : (dropRequests p s).power = s.power := by simp only [dropRequests]
@[simp] theorem dropRequests_fwd (p : UpPort) (s : State) : (dropRequests p s).fwd = s.fwd := by simp only [dropRequests]
@[simp] theorem dropRequests_route (p : UpPort) (s : State) : (dropRequests p s).route = s.route := by simp only [dropRequests]
@[simp] theorem dropRequests_therm (p : UpPort) (s : State) : (dropRequests p s).therm = s.therm := by simp only [dropRequests]
@[simp] theorem dropRequests_cool (p : UpPort) (s : State) : (dropRequests p s).cool = s.cool := by simp only [dropRequests]
@[simp] theorem dropRequests_light (p : UpPort) (s : State) : (dropRequests p s).light = s.light := by simp only [dropRequests]
@[simp] theorem dropRequests_ev (p : UpPort) (s : State) : (dropRequests p s).ev = s.ev := by simp only [dropRequests]
@[simp] theorem dropRequests_pending (p : UpPort) (s : State) : (dropRequests p s).pending = s.pending := by simp only [dropRequests]

/-! ### driveAlert -/

@[simp] theorem driveAlert_now (s : State) : (driveAlert s).now = s.now := by simp only [driveAlert]
@[simp] theorem driveAlert_addrStrap (s : State) : (driveAlert s).addrStrap = s.addrStrap := by simp only [driveAlert]
@[simp] theorem driveAlert_budStrap (s : State) : (driveAlert s).budStrap = s.budStrap := by simp only [driveAlert]
@[simp] theorem driveAlert_line (s : State) : (driveAlert s).line = s.line := by simp only [driveAlert]
@[simp] theorem driveAlert_bays (s : State) : (driveAlert s).bays = s.bays := by simp only [driveAlert]
@[simp] theorem driveAlert_power (s : State) : (driveAlert s).power = s.power := by simp only [driveAlert]
@[simp] theorem driveAlert_fwd (s : State) : (driveAlert s).fwd = s.fwd := by simp only [driveAlert]
@[simp] theorem driveAlert_route (s : State) : (driveAlert s).route = s.route := by simp only [driveAlert]
@[simp] theorem driveAlert_therm (s : State) : (driveAlert s).therm = s.therm := by simp only [driveAlert]
@[simp] theorem driveAlert_cool (s : State) : (driveAlert s).cool = s.cool := by simp only [driveAlert]
@[simp] theorem driveAlert_light (s : State) : (driveAlert s).light = s.light := by simp only [driveAlert]
@[simp] theorem driveAlert_mgmt (s : State) : (driveAlert s).mgmt = s.mgmt := by simp only [driveAlert]
@[simp] theorem driveAlert_pending (s : State) : (driveAlert s).pending = s.pending := by simp only [driveAlert]

/-! ### unsubscribe -/

@[simp] theorem unsubscribe_now (p : UpPort) (s : State) : (unsubscribe p s).now = s.now := by simp only [unsubscribe]
@[simp] theorem unsubscribe_addrStrap (p : UpPort) (s : State) : (unsubscribe p s).addrStrap = s.addrStrap := by simp only [unsubscribe]
@[simp] theorem unsubscribe_budStrap (p : UpPort) (s : State) : (unsubscribe p s).budStrap = s.budStrap := by simp only [unsubscribe]
@[simp] theorem unsubscribe_line (p : UpPort) (s : State) : (unsubscribe p s).line = s.line := by simp only [unsubscribe]
@[simp] theorem unsubscribe_bays (p : UpPort) (s : State) : (unsubscribe p s).bays = s.bays := by simp only [unsubscribe]
@[simp] theorem unsubscribe_power (p : UpPort) (s : State) : (unsubscribe p s).power = s.power := by simp only [unsubscribe]
@[simp] theorem unsubscribe_fwd (p : UpPort) (s : State) : (unsubscribe p s).fwd = s.fwd := by simp only [unsubscribe]
@[simp] theorem unsubscribe_route (p : UpPort) (s : State) : (unsubscribe p s).route = s.route := by simp only [unsubscribe]
@[simp] theorem unsubscribe_therm (p : UpPort) (s : State) : (unsubscribe p s).therm = s.therm := by simp only [unsubscribe]
@[simp] theorem unsubscribe_cool (p : UpPort) (s : State) : (unsubscribe p s).cool = s.cool := by simp only [unsubscribe]
@[simp] theorem unsubscribe_light (p : UpPort) (s : State) : (unsubscribe p s).light = s.light := by simp only [unsubscribe]
@[simp] theorem unsubscribe_mgmt (p : UpPort) (s : State) : (unsubscribe p s).mgmt = s.mgmt := by simp only [unsubscribe]
@[simp] theorem unsubscribe_pending (p : UpPort) (s : State) : (unsubscribe p s).pending = s.pending := by simp only [unsubscribe]

/-! ### present -/

@[simp] theorem present_now (p : UpPort) (s : State) : (present p s).now = s.now := by simp only [present]
@[simp] theorem present_addrStrap (p : UpPort) (s : State) : (present p s).addrStrap = s.addrStrap := by simp only [present]
@[simp] theorem present_budStrap (p : UpPort) (s : State) : (present p s).budStrap = s.budStrap := by simp only [present]
@[simp] theorem present_line (p : UpPort) (s : State) : (present p s).line = s.line := by simp only [present]
@[simp] theorem present_bays (p : UpPort) (s : State) : (present p s).bays = s.bays := by simp only [present]
@[simp] theorem present_power (p : UpPort) (s : State) : (present p s).power = s.power := by simp only [present]
@[simp] theorem present_fwd (p : UpPort) (s : State) : (present p s).fwd = s.fwd := by simp only [present]
@[simp] theorem present_route (p : UpPort) (s : State) : (present p s).route = s.route := by simp only [present]
@[simp] theorem present_therm (p : UpPort) (s : State) : (present p s).therm = s.therm := by simp only [present]
@[simp] theorem present_cool (p : UpPort) (s : State) : (present p s).cool = s.cool := by simp only [present]
@[simp] theorem present_light (p : UpPort) (s : State) : (present p s).light = s.light := by simp only [present]
@[simp] theorem present_mgmt (p : UpPort) (s : State) : (present p s).mgmt = s.mgmt := by simp only [present]
@[simp] theorem present_pending (p : UpPort) (s : State) : (present p s).pending = s.pending := by simp only [present]

/-! ### clearBayLatches -/

@[simp] theorem clearBayLatches_now (b : Bay) (s : State) : (clearBayLatches b s).now = s.now := by simp only [clearBayLatches]
@[simp] theorem clearBayLatches_addrStrap (b : Bay) (s : State) : (clearBayLatches b s).addrStrap = s.addrStrap := by simp only [clearBayLatches]
@[simp] theorem clearBayLatches_budStrap (b : Bay) (s : State) : (clearBayLatches b s).budStrap = s.budStrap := by simp only [clearBayLatches]
@[simp] theorem clearBayLatches_line (b : Bay) (s : State) : (clearBayLatches b s).line = s.line := by simp only [clearBayLatches]
@[simp] theorem clearBayLatches_bays (b : Bay) (s : State) : (clearBayLatches b s).bays = s.bays := by simp only [clearBayLatches]
@[simp] theorem clearBayLatches_power (b : Bay) (s : State) : (clearBayLatches b s).power = s.power := by simp only [clearBayLatches]
@[simp] theorem clearBayLatches_fwd (b : Bay) (s : State) : (clearBayLatches b s).fwd = s.fwd := by simp only [clearBayLatches]
@[simp] theorem clearBayLatches_route (b : Bay) (s : State) : (clearBayLatches b s).route = s.route := by simp only [clearBayLatches]
@[simp] theorem clearBayLatches_therm (b : Bay) (s : State) : (clearBayLatches b s).therm = s.therm := by simp only [clearBayLatches]
@[simp] theorem clearBayLatches_cool (b : Bay) (s : State) : (clearBayLatches b s).cool = s.cool := by simp only [clearBayLatches]
@[simp] theorem clearBayLatches_light (b : Bay) (s : State) : (clearBayLatches b s).light = s.light := by simp only [clearBayLatches]
@[simp] theorem clearBayLatches_mgmt (b : Bay) (s : State) : (clearBayLatches b s).mgmt = s.mgmt := by simp only [clearBayLatches]
@[simp] theorem clearBayLatches_pending (b : Bay) (s : State) : (clearBayLatches b s).pending = s.pending := by simp only [clearBayLatches]

/-! ### clearEnclLatches -/

@[simp] theorem clearEnclLatches_now (s : State) : (clearEnclLatches s).now = s.now := by simp only [clearEnclLatches]
@[simp] theorem clearEnclLatches_addrStrap (s : State) : (clearEnclLatches s).addrStrap = s.addrStrap := by simp only [clearEnclLatches]
@[simp] theorem clearEnclLatches_budStrap (s : State) : (clearEnclLatches s).budStrap = s.budStrap := by simp only [clearEnclLatches]
@[simp] theorem clearEnclLatches_line (s : State) : (clearEnclLatches s).line = s.line := by simp only [clearEnclLatches]
@[simp] theorem clearEnclLatches_bays (s : State) : (clearEnclLatches s).bays = s.bays := by simp only [clearEnclLatches]
@[simp] theorem clearEnclLatches_power (s : State) : (clearEnclLatches s).power = s.power := by simp only [clearEnclLatches]
@[simp] theorem clearEnclLatches_fwd (s : State) : (clearEnclLatches s).fwd = s.fwd := by simp only [clearEnclLatches]
@[simp] theorem clearEnclLatches_route (s : State) : (clearEnclLatches s).route = s.route := by simp only [clearEnclLatches]
@[simp] theorem clearEnclLatches_therm (s : State) : (clearEnclLatches s).therm = s.therm := by simp only [clearEnclLatches]
@[simp] theorem clearEnclLatches_cool (s : State) : (clearEnclLatches s).cool = s.cool := by simp only [clearEnclLatches]
@[simp] theorem clearEnclLatches_light (s : State) : (clearEnclLatches s).light = s.light := by simp only [clearEnclLatches]
@[simp] theorem clearEnclLatches_mgmt (s : State) : (clearEnclLatches s).mgmt = s.mgmt := by simp only [clearEnclLatches]
@[simp] theorem clearEnclLatches_pending (s : State) : (clearEnclLatches s).pending = s.pending := by simp only [clearEnclLatches]

/-! ### releaseHolds -/

@[simp] theorem releaseHolds_now (p : UpPort) (s : State) : (releaseHolds p s).now = s.now := by simp only [releaseHolds, modBays]
@[simp] theorem releaseHolds_addrStrap (p : UpPort) (s : State) : (releaseHolds p s).addrStrap = s.addrStrap := by simp only [releaseHolds, modBays]
@[simp] theorem releaseHolds_budStrap (p : UpPort) (s : State) : (releaseHolds p s).budStrap = s.budStrap := by simp only [releaseHolds, modBays]
@[simp] theorem releaseHolds_line (p : UpPort) (s : State) : (releaseHolds p s).line = s.line := by simp only [releaseHolds, modBays]
@[simp] theorem releaseHolds_power (p : UpPort) (s : State) : (releaseHolds p s).power = s.power := by simp only [releaseHolds, modBays]
@[simp] theorem releaseHolds_fwd (p : UpPort) (s : State) : (releaseHolds p s).fwd = s.fwd := by simp only [releaseHolds, modBays]
@[simp] theorem releaseHolds_route (p : UpPort) (s : State) : (releaseHolds p s).route = s.route := by simp only [releaseHolds, modBays]
@[simp] theorem releaseHolds_therm (p : UpPort) (s : State) : (releaseHolds p s).therm = s.therm := by simp only [releaseHolds, modBays]
@[simp] theorem releaseHolds_cool (p : UpPort) (s : State) : (releaseHolds p s).cool = s.cool := by simp only [releaseHolds, modBays]
@[simp] theorem releaseHolds_light (p : UpPort) (s : State) : (releaseHolds p s).light = s.light := by simp only [releaseHolds, modBays]
@[simp] theorem releaseHolds_mgmt (p : UpPort) (s : State) : (releaseHolds p s).mgmt = s.mgmt := by simp only [releaseHolds, modBays]
@[simp] theorem releaseHolds_ev (p : UpPort) (s : State) : (releaseHolds p s).ev = s.ev := by simp only [releaseHolds, modBays]
@[simp] theorem releaseHolds_pending (p : UpPort) (s : State) : (releaseHolds p s).pending = s.pending := by simp only [releaseHolds, modBays]

/-! ### drivePins -/

@[simp] theorem drivePins_now (s : State) : (drivePins s).now = s.now := by simp only [drivePins]
@[simp] theorem drivePins_addrStrap (s : State) : (drivePins s).addrStrap = s.addrStrap := by simp only [drivePins]
@[simp] theorem drivePins_budStrap (s : State) : (drivePins s).budStrap = s.budStrap := by simp only [drivePins]
@[simp] theorem drivePins_bays (s : State) : (drivePins s).bays = s.bays := by simp only [drivePins]
@[simp] theorem drivePins_power (s : State) : (drivePins s).power = s.power := by simp only [drivePins]
@[simp] theorem drivePins_fwd (s : State) : (drivePins s).fwd = s.fwd := by simp only [drivePins]
@[simp] theorem drivePins_route (s : State) : (drivePins s).route = s.route := by simp only [drivePins]
@[simp] theorem drivePins_therm (s : State) : (drivePins s).therm = s.therm := by simp only [drivePins]
@[simp] theorem drivePins_cool (s : State) : (drivePins s).cool = s.cool := by simp only [drivePins]
@[simp] theorem drivePins_mgmt (s : State) : (drivePins s).mgmt = s.mgmt := by simp only [drivePins]
@[simp] theorem drivePins_ev (s : State) : (drivePins s).ev = s.ev := by simp only [drivePins]
@[simp] theorem drivePins_pending (s : State) : (drivePins s).pending = s.pending := by simp only [drivePins]

/-! ### restartNow -/

@[simp] theorem restartNow_now (s : State) : (restartNow s).now = s.now := by simp only [restartNow]
@[simp] theorem restartNow_addrStrap (s : State) : (restartNow s).addrStrap = s.addrStrap := by simp only [restartNow]
@[simp] theorem restartNow_budStrap (s : State) : (restartNow s).budStrap = s.budStrap := by simp only [restartNow]
@[simp] theorem restartNow_line (s : State) : (restartNow s).line = s.line := by simp only [restartNow]
@[simp] theorem restartNow_power (s : State) : (restartNow s).power = s.power := by simp only [restartNow]
@[simp] theorem restartNow_therm (s : State) : (restartNow s).therm = s.therm := by simp only [restartNow]
@[simp] theorem restartNow_cool (s : State) : (restartNow s).cool = s.cool := by simp only [restartNow]
@[simp] theorem restartNow_light (s : State) : (restartNow s).light = s.light := by simp only [restartNow]
@[simp] theorem restartNow_pending (s : State) : (restartNow s).pending = s.pending := by simp only [restartNow]

/-! ### tick -/

@[simp] theorem tick_addrStrap (s : State) : (tick s).addrStrap = s.addrStrap := by simp only [tick]
@[simp] theorem tick_budStrap (s : State) : (tick s).budStrap = s.budStrap := by simp only [tick]
@[simp] theorem tick_line (s : State) : (tick s).line = s.line := by simp only [tick]
@[simp] theorem tick_bays (s : State) : (tick s).bays = s.bays := by simp only [tick]
@[simp] theorem tick_power (s : State) : (tick s).power = s.power := by simp only [tick]
@[simp] theorem tick_fwd (s : State) : (tick s).fwd = s.fwd := by simp only [tick]
@[simp] theorem tick_route (s : State) : (tick s).route = s.route := by simp only [tick]
@[simp] theorem tick_therm (s : State) : (tick s).therm = s.therm := by simp only [tick]
@[simp] theorem tick_cool (s : State) : (tick s).cool = s.cool := by simp only [tick]
@[simp] theorem tick_light (s : State) : (tick s).light = s.light := by simp only [tick]
@[simp] theorem tick_mgmt (s : State) : (tick s).mgmt = s.mgmt := by simp only [tick]
@[simp] theorem tick_ev (s : State) : (tick s).ev = s.ev := by simp only [tick]
@[simp] theorem tick_pending (s : State) : (tick s).pending = s.pending := by simp only [tick]

/-! ### The entries that change -/

@[simp] theorem modBay_bays (b : Bay) (f : BayRecord → BayRecord) (s : State) :
    (modBay b f s).bays = upd s.bays b f := by simp only [modBay]
@[simp] theorem setState_bays (b : Bay) (x : BayState) (s : State) :
    (setState b x s).bays = upd s.bays b (fun r => { r with state := x }) := by simp only [setState, modBay]
@[simp] theorem modLine_lines (b : Bay) (f : LineUnit → LineUnit) (s : State) :
    (modLine b f s).line.bays = upd s.line.bays b f := by simp only [modLine]
@[simp] theorem modLine_debounceSetting (b : Bay) (f : LineUnit → LineUnit) (s : State) :
    (modLine b f s).line.debounceSetting = s.line.debounceSetting := by simp only [modLine]
@[simp] theorem modLine_groupTimer (b : Bay) (f : LineUnit → LineUnit) (s : State) :
    (modLine b f s).line.groupTimer = s.line.groupTimer := by simp only [modLine]
@[simp] theorem modLight_lights (b : Bay) (f : LightUnit → LightUnit) (s : State) :
    (modLight b f s).light.bays = upd s.light.bays b f := by simp only [modLight]
@[simp] theorem modTherm_records (b : Bay) (f : ThermalRecord → ThermalRecord) (s : State) :
    (modTherm b f s).therm.records = upd s.therm.records b f := by simp only [modTherm]
@[simp] theorem modUp_up (p : UpPort) (f : UpUnit → UpUnit) (s : State) :
    (modUp p f s).fwd.up = upd s.fwd.up (upIdx p) f := by simp only [modUp]
@[simp] theorem pushBay_bayQueue (b : Bay) (h : Held) (s : State) :
    (pushBay b h s).fwd.bayQueue = upd s.fwd.bayQueue b (· ++ [h]) := by simp only [pushBay]
@[simp] theorem pushPriority_up (p : UpPort) (h : Held) (s : State) :
    (pushPriority p h s).fwd.up = upd s.fwd.up (upIdx p) (fun u => { u with priority := u.priority ++ [h] }) := by simp only [pushPriority, modUp]
@[simp] theorem pushNormal_up (p : UpPort) (h : Held) (s : State) :
    (pushNormal p h s).fwd.up = upd s.fwd.up (upIdx p) (fun u => { u with normal := u.normal ++ [h] }) := by simp only [pushNormal, modUp]
@[simp] theorem count_up (p : Port) (k : CounterKind) (n : Nat) (s : State) : (count p k n s).fwd.up = s.fwd.up := by simp only [count]
@[simp] theorem count_bayQueue (p : Port) (k : CounterKind) (n : Nat) (s : State) :
    (count p k n s).fwd.bayQueue = s.fwd.bayQueue := by simp only [count]
@[simp] theorem count_transmitting (p : Port) (k : CounterKind) (n : Nat) (s : State) :
    (count p k n s).fwd.transmitting = s.fwd.transmitting := by simp only [count]
@[simp] theorem count_waiting (p : Port) (k : CounterKind) (n : Nat) (s : State) :
    (count p k n s).fwd.waiting = s.fwd.waiting := by simp only [count]
@[simp] theorem clearSlot_waiting (p : Port) (s : State) :
    (clearSlot p s).fwd.waiting = put s.fwd.waiting (portIdx p) none := by simp only [clearSlot]
@[simp] theorem clearLearned_learned (p : Port) (s : State) :
    (clearLearned p s).route.learned = put s.route.learned (portIdx p) none := by simp only [clearLearned]
@[simp] theorem clearLearned_statics (p : Port) (s : State) : (clearLearned p s).route.statics = s.route.statics := by simp only [clearLearned]
@[simp] theorem setFilter_charge (b : Bay) (x : OcFilter) (s : State) :
    (setFilter b x s).power.charge = s.power.charge := by simp only [setFilter]
@[simp] theorem setFilter_queue (b : Bay) (x : OcFilter) (s : State) :
    (setFilter b x s).power.queue = s.power.queue := by simp only [setFilter]
@[simp] theorem setFilter_live (b : Bay) (x : OcFilter) (s : State) : (setFilter b x s).power.live = s.power.live := by simp only [setFilter]
@[simp] theorem setFilter_pendingCeiling (b : Bay) (x : OcFilter) (s : State) :
    (setFilter b x s).power.pendingCeiling = s.power.pendingCeiling := by simp only [setFilter]
@[simp] theorem ask_charge (s : State) : (ask s).power.charge = s.power.charge := by simp only [ask]
@[simp] theorem ask_queue (s : State) : (ask s).power.queue = s.power.queue := by simp only [ask]
@[simp] theorem ask_live (s : State) : (ask s).power.live = s.power.live := by simp only [ask]
@[simp] theorem ask_pendingCeiling (s : State) : (ask s).power.pendingCeiling = s.power.pendingCeiling := by simp only [ask]
@[simp] theorem ask_attemptAsked (s : State) : (ask s).power.attemptAsked = true := by simp only [ask]
@[simp] theorem advance_now (t : Nat) (s : State) : (advance t s).now = max s.now t := by simp only [advance]
@[simp] theorem driveAlert_alert (s : State) : (driveAlert s).ev.alert = alertCondition s := by simp only [driveAlert]
@[simp] theorem drivePins_map (s : State) : (drivePins s).light.map = s.light.map := by simp only [drivePins]
@[simp] theorem drivePins_lightBays (s : State) : (drivePins s).light.bays = s.light.bays := by simp only [drivePins]
@[simp] theorem drivePins_hold (s : State) : (drivePins s).light.hold = s.light.hold := by simp only [drivePins]
@[simp] theorem drivePins_dim (s : State) : (drivePins s).light.dim = s.light.dim := by simp only [drivePins]
@[simp] theorem drivePins_debounceSetting (s : State) :
    (drivePins s).line.debounceSetting = s.line.debounceSetting := by simp only [drivePins]
@[simp] theorem drivePins_groupTimer (s : State) : (drivePins s).line.groupTimer = s.line.groupTimer := by simp only [drivePins]
@[simp] theorem refreshHot_records (s : State) : (refreshHot s).therm.records = s.therm.records := by simp only [refreshHot]
@[simp] theorem refreshHot_warn (s : State) : (refreshHot s).therm.warn = s.therm.warn := by simp only [refreshHot]
@[simp] theorem refreshHot_staleLimit (s : State) : (refreshHot s).therm.staleLimit = s.therm.staleLimit := by simp only [refreshHot]

/-! ### holdNext -/

@[simp] theorem holdNext_now (p : Port) (s : State) : (holdNext p s).now = s.now := by cases p <;> rfl
@[simp] theorem holdNext_addrStrap (p : Port) (s : State) : (holdNext p s).addrStrap = s.addrStrap := by cases p <;> rfl
@[simp] theorem holdNext_budStrap (p : Port) (s : State) : (holdNext p s).budStrap = s.budStrap := by cases p <;> rfl
@[simp] theorem holdNext_line (p : Port) (s : State) : (holdNext p s).line = s.line := by cases p <;> rfl
@[simp] theorem holdNext_bays (p : Port) (s : State) : (holdNext p s).bays = s.bays := by cases p <;> rfl
@[simp] theorem holdNext_power (p : Port) (s : State) : (holdNext p s).power = s.power := by cases p <;> rfl
@[simp] theorem holdNext_route (p : Port) (s : State) : (holdNext p s).route = s.route := by cases p <;> rfl
@[simp] theorem holdNext_therm (p : Port) (s : State) : (holdNext p s).therm = s.therm := by cases p <;> rfl
@[simp] theorem holdNext_cool (p : Port) (s : State) : (holdNext p s).cool = s.cool := by cases p <;> rfl
@[simp] theorem holdNext_light (p : Port) (s : State) : (holdNext p s).light = s.light := by cases p <;> rfl
@[simp] theorem holdNext_mgmt (p : Port) (s : State) : (holdNext p s).mgmt = s.mgmt := by cases p <;> rfl
@[simp] theorem holdNext_ev (p : Port) (s : State) : (holdNext p s).ev = s.ev := by cases p <;> rfl
@[simp] theorem holdNext_pending (p : Port) (s : State) : (holdNext p s).pending = s.pending := by cases p <;> rfl
@[simp] theorem holdNext_up (u : UpPort) (s : State) : holdNext (.up u) s = s := rfl
@[simp] theorem holdNext_waiting (b : Bay) (s : State) : (holdNext (.bay b) s).fwd.waiting =
    upd s.fwd.waiting (portIdx (.bay b)) (Option.map fun w => { w with behind := true }) := by simp only [holdNext]

/-! ### The same update twice -/

@[simp] theorem driveAlert_idem (s : State) : driveAlert (driveAlert s) = driveAlert s := rfl
@[simp] theorem refreshHot_idem (s : State) : refreshHot (refreshHot s) = refreshHot s := rfl

end Sys2Proof.Machine
end

