-- ==== Sys2Proof/Laws/Frames.lean ====
section
/-!
SUPPORT. Laws/Frames.lean: which blocks each shared operation leaves alone: one lemma per operation, the conjunction over
the blocks it does not touch, and its parts as simp lemmas.
-/
namespace Sys2Proof.Machine

/-- `latchBay` changes nothing but `ev`. -/
theorem latchBay_frame (b : Bay) (k : BayEvent) (s : State) :
    (latchBay b k s).now = s.now ∧ (latchBay b k s).addrStrap = s.addrStrap ∧
    (latchBay b k s).budStrap = s.budStrap ∧ (latchBay b k s).line = s.line ∧ (latchBay b k s).bays = s.bays ∧
    (latchBay b k s).power = s.power ∧ (latchBay b k s).fwd = s.fwd ∧ (latchBay b k s).route = s.route ∧
    (latchBay b k s).therm = s.therm ∧ (latchBay b k s).cool = s.cool ∧ (latchBay b k s).light = s.light ∧
    (latchBay b k s).mgmt = s.mgmt ∧ (latchBay b k s).pending = s.pending := by
  unfold latchBay; split <;> simp

@[simp] theorem latchBay_now (b : Bay) (k : BayEvent) (s : State) : (latchBay b k s).now = s.now :=
  (latchBay_frame b k s).1
@[simp] theorem latchBay_addrStrap (b : Bay) (k : BayEvent) (s : State) : (latchBay b k s).addrStrap = s.addrStrap :=
  (latchBay_frame b k s).2.1
@[simp] theorem latchBay_budStrap (b : Bay) (k : BayEvent) (s : State) : (latchBay b k s).budStrap = s.budStrap :=
  (latchBay_frame b k s).2.2.1
@[simp] theorem latchBay_line (b : Bay) (k : BayEvent) (s : State) : (latchBay b k s).line = s.line :=
  (latchBay_frame b k s).2.2.2.1
@[simp] theorem latchBay_bays (b : Bay) (k : BayEvent) (s : State) : (latchBay b k s).bays = s.bays :=
  (latchBay_frame b k s).2.2.2.2.1
@[simp] theorem latchBay_power (b : Bay) (k : BayEvent) (s : State) : (latchBay b k s).power = s.power :=
  (latchBay_frame b k s).2.2.2.2.2.1
@[simp] theorem latchBay_fwd (b : Bay) (k : BayEvent) (s : State) : (latchBay b k s).fwd = s.fwd :=
  (latchBay_frame b k s).2.2.2.2.2.2.1
@[simp] theorem latchBay_route (b : Bay) (k : BayEvent) (s : State) : (latchBay b k s).route = s.route :=
  (latchBay_frame b k s).2.2.2.2.2.2.2.1
@[simp] theorem latchBay_therm (b : Bay) (k : BayEvent) (s : State) : (latchBay b k s).therm = s.therm :=
  (latchBay_frame b k s).2.2.2.2.2.2.2.2.1
@[simp] theorem latchBay_cool (b : Bay) (k : BayEvent) (s : State) : (latchBay b k s).cool = s.cool :=
  (latchBay_frame b k s).2.2.2.2.2.2.2.2.2.1
@[simp] theorem latchBay_light (b : Bay) (k : BayEvent) (s : State) : (latchBay b k s).light = s.light :=
  (latchBay_frame b k s).2.2.2.2.2.2.2.2.2.2.1
@[simp] theorem latchBay_mgmt (b : Bay) (k : BayEvent) (s : State) : (latchBay b k s).mgmt = s.mgmt :=
  (latchBay_frame b k s).2.2.2.2.2.2.2.2.2.2.2.1
@[simp] theorem latchBay_pending (b : Bay) (k : BayEvent) (s : State) : (latchBay b k s).pending = s.pending :=
  (latchBay_frame b k s).2.2.2.2.2.2.2.2.2.2.2.2

/-- `latchEncl` changes nothing but `ev`. -/
theorem latchEncl_frame (k : EnclEvent) (n : Nat) (s : State) :
    (latchEncl k n s).now = s.now ∧ (latchEncl k n s).addrStrap = s.addrStrap ∧
    (latchEncl k n s).budStrap = s.budStrap ∧ (latchEncl k n s).line = s.line ∧ (latchEncl k n s).bays = s.bays ∧
    (latchEncl k n s).power = s.power ∧ (latchEncl k n s).fwd = s.fwd ∧ (latchEncl k n s).route = s.route ∧
    (latchEncl k n s).therm = s.therm ∧ (latchEncl k n s).cool = s.cool ∧ (latchEncl k n s).light = s.light ∧
    (latchEncl k n s).mgmt = s.mgmt ∧ (latchEncl k n s).pending = s.pending := by
  unfold latchEncl; split <;> simp

@[simp] theorem latchEncl_now (k : EnclEvent) (n : Nat) (s : State) : (latchEncl k n s).now = s.now :=
  (latchEncl_frame k n s).1
@[simp] theorem latchEncl_addrStrap (k : EnclEvent) (n : Nat) (s : State) :
    (latchEncl k n s).addrStrap = s.addrStrap :=
  (latchEncl_frame k n s).2.1
@[simp] theorem latchEncl_budStrap (k : EnclEvent) (n : Nat) (s : State) : (latchEncl k n s).budStrap = s.budStrap :=
  (latchEncl_frame k n s).2.2.1
@[simp] theorem latchEncl_line (k : EnclEvent) (n : Nat) (s : State) : (latchEncl k n s).line = s.line :=
  (latchEncl_frame k n s).2.2.2.1
@[simp] theorem latchEncl_bays (k : EnclEvent) (n : Nat) (s : State) : (latchEncl k n s).bays = s.bays :=
  (latchEncl_frame k n s).2.2.2.2.1
@[simp] theorem latchEncl_power (k : EnclEvent) (n : Nat) (s : State) : (latchEncl k n s).power = s.power :=
  (latchEncl_frame k n s).2.2.2.2.2.1
@[simp] theorem latchEncl_fwd (k : EnclEvent) (n : Nat) (s : State) : (latchEncl k n s).fwd = s.fwd :=
  (latchEncl_frame k n s).2.2.2.2.2.2.1
@[simp] theorem latchEncl_route (k : EnclEvent) (n : Nat) (s : State) : (latchEncl k n s).route = s.route :=
  (latchEncl_frame k n s).2.2.2.2.2.2.2.1
@[simp] theorem latchEncl_therm (k : EnclEvent) (n : Nat) (s : State) : (latchEncl k n s).therm = s.therm :=
  (latchEncl_frame k n s).2.2.2.2.2.2.2.2.1
@[simp] theorem latchEncl_cool (k : EnclEvent) (n : Nat) (s : State) : (latchEncl k n s).cool = s.cool :=
  (latchEncl_frame k n s).2.2.2.2.2.2.2.2.2.1
@[simp] theorem latchEncl_light (k : EnclEvent) (n : Nat) (s : State) : (latchEncl k n s).light = s.light :=
  (latchEncl_frame k n s).2.2.2.2.2.2.2.2.2.2.1
@[simp] theorem latchEncl_mgmt (k : EnclEvent) (n : Nat) (s : State) : (latchEncl k n s).mgmt = s.mgmt :=
  (latchEncl_frame k n s).2.2.2.2.2.2.2.2.2.2.2.1
@[simp] theorem latchEncl_pending (k : EnclEvent) (n : Nat) (s : State) : (latchEncl k n s).pending = s.pending :=
  (latchEncl_frame k n s).2.2.2.2.2.2.2.2.2.2.2.2

/-- `latchFan` changes nothing but `ev`. -/
theorem latchFan_frame (x : FanState) (m : FanModule) (s : State) :
    (latchFan x m s).now = s.now ∧ (latchFan x m s).addrStrap = s.addrStrap ∧
    (latchFan x m s).budStrap = s.budStrap ∧ (latchFan x m s).line = s.line ∧ (latchFan x m s).bays = s.bays ∧
    (latchFan x m s).power = s.power ∧ (latchFan x m s).fwd = s.fwd ∧ (latchFan x m s).route = s.route ∧
    (latchFan x m s).therm = s.therm ∧ (latchFan x m s).cool = s.cool ∧ (latchFan x m s).light = s.light ∧
    (latchFan x m s).mgmt = s.mgmt ∧ (latchFan x m s).pending = s.pending := by
  simp [latchFan]

@[simp] theorem latchFan_now (x : FanState) (m : FanModule) (s : State) : (latchFan x m s).now = s.now :=
  (latchFan_frame x m s).1
@[simp] theorem latchFan_addrStrap (x : FanState) (m : FanModule) (s : State) :
    (latchFan x m s).addrStrap = s.addrStrap :=
  (latchFan_frame x m s).2.1
@[simp] theorem latchFan_budStrap (x : FanState) (m : FanModule) (s : State) :
    (latchFan x m s).budStrap = s.budStrap :=
  (latchFan_frame x m s).2.2.1
@[simp] theorem latchFan_line (x : FanState) (m : FanModule) (s : State) : (latchFan x m s).line = s.line :=
  (latchFan_frame x m s).2.2.2.1
@[simp] theorem latchFan_bays (x : FanState) (m : FanModule) (s : State) : (latchFan x m s).bays = s.bays :=
  (latchFan_frame x m s).2.2.2.2.1
@[simp] theorem latchFan_power (x : FanState) (m : FanModule) (s : State) : (latchFan x m s).power = s.power :=
  (latchFan_frame x m s).2.2.2.2.2.1
@[simp] theorem latchFan_fwd (x : FanState) (m : FanModule) (s : State) : (latchFan x m s).fwd = s.fwd :=
  (latchFan_frame x m s).2.2.2.2.2.2.1
@[simp] theorem latchFan_route (x : FanState) (m : FanModule) (s : State) : (latchFan x m s).route = s.route :=
  (latchFan_frame x m s).2.2.2.2.2.2.2.1
@[simp] theorem latchFan_therm (x : FanState) (m : FanModule) (s : State) : (latchFan x m s).therm = s.therm :=
  (latchFan_frame x m s).2.2.2.2.2.2.2.2.1
@[simp] theorem latchFan_cool (x : FanState) (m : FanModule) (s : State) : (latchFan x m s).cool = s.cool :=
  (latchFan_frame x m s).2.2.2.2.2.2.2.2.2.1
@[simp] theorem latchFan_light (x : FanState) (m : FanModule) (s : State) : (latchFan x m s).light = s.light :=
  (latchFan_frame x m s).2.2.2.2.2.2.2.2.2.2.1
@[simp] theorem latchFan_mgmt (x : FanState) (m : FanModule) (s : State) : (latchFan x m s).mgmt = s.mgmt :=
  (latchFan_frame x m s).2.2.2.2.2.2.2.2.2.2.2.1
@[simp] theorem latchFan_pending (x : FanState) (m : FanModule) (s : State) : (latchFan x m s).pending = s.pending :=
  (latchFan_frame x m s).2.2.2.2.2.2.2.2.2.2.2.2

/-- `sendStatus` changes nothing but `fwd`, `light`. -/
theorem sendStatus_frame (c : StatusCode) (p : Port) (f : Frame) (s : State) :
    (sendStatus c p f s).now = s.now ∧ (sendStatus c p f s).addrStrap = s.addrStrap ∧
    (sendStatus c p f s).budStrap = s.budStrap ∧ (sendStatus c p f s).line = s.line ∧
    (sendStatus c p f s).bays = s.bays ∧ (sendStatus c p f s).power = s.power ∧
    (sendStatus c p f s).route = s.route ∧ (sendStatus c p f s).therm = s.therm ∧
    (sendStatus c p f s).cool = s.cool ∧ (sendStatus c p f s).mgmt = s.mgmt ∧ (sendStatus c p f s).ev = s.ev ∧
    (sendStatus c p f s).pending = s.pending := by
  unfold sendStatus; split
  · simp
  · cases p <;> simp only <;> split <;> simp

@[simp] theorem sendStatus_now (c : StatusCode) (p : Port) (f : Frame) (s : State) :
    (sendStatus c p f s).now = s.now :=
  (sendStatus_frame c p f s).1
@[simp] theorem sendStatus_addrStrap (c : StatusCode) (p : Port) (f : Frame) (s : State) :
    (sendStatus c p f s).addrStrap = s.addrStrap :=
  (sendStatus_frame c p f s).2.1
@[simp] theorem sendStatus_budStrap (c : StatusCode) (p : Port) (f : Frame) (s : State) :
    (sendStatus c p f s).budStrap = s.budStrap :=
  (sendStatus_frame c p f s).2.2.1
@[simp] theorem sendStatus_line (c : StatusCode) (p : Port) (f : Frame) (s : State) :
    (sendStatus c p f s).line = s.line :=
  (sendStatus_frame c p f s).2.2.2.1
@[simp] theorem sendStatus_bays (c : StatusCode) (p : Port) (f : Frame) (s : State) :
    (sendStatus c p f s).bays = s.bays :=
  (sendStatus_frame c p f s).2.2.2.2.1
@[simp] theorem sendStatus_power (c : StatusCode) (p : Port) (f : Frame) (s : State) :
    (sendStatus c p f s).power = s.power :=
  (sendStatus_frame c p f s).2.2.2.2.2.1
@[simp] theorem sendStatus_route (c : StatusCode) (p : Port) (f : Frame) (s : State) :
    (sendStatus c p f s).route = s.route :=
  (sendStatus_frame c p f s).2.2.2.2.2.2.1
@[simp] theorem sendStatus_therm (c : StatusCode) (p : Port) (f : Frame) (s : State) :
    (sendStatus c p f s).therm = s.therm :=
  (sendStatus_frame c p f s).2.2.2.2.2.2.2.1
@[simp] theorem sendStatus_cool (c : StatusCode) (p : Port) (f : Frame) (s : State) :
    (sendStatus c p f s).cool = s.cool :=
  (sendStatus_frame c p f s).2.2.2.2.2.2.2.2.1
@[simp] theorem sendStatus_mgmt (c : StatusCode) (p : Port) (f : Frame) (s : State) :
    (sendStatus c p f s).mgmt = s.mgmt :=
  (sendStatus_frame c p f s).2.2.2.2.2.2.2.2.2.1
@[simp] theorem sendStatus_ev (c : StatusCode) (p : Port) (f : Frame) (s : State) : (sendStatus c p f s).ev = s.ev :=
  (sendStatus_frame c p f s).2.2.2.2.2.2.2.2.2.2.1
@[simp] theorem sendStatus_pending (c : StatusCode) (p : Port) (f : Frame) (s : State) :
    (sendStatus c p f s).pending = s.pending :=
  (sendStatus_frame c p f s).2.2.2.2.2.2.2.2.2.2.2

/-- `refuseFrame` changes nothing but `fwd`, `light`. -/
theorem refuseFrame_frame (c : StatusCode) (p : Port) (f : Frame) (s : State) :
    (refuseFrame c p f s).now = s.now ∧ (refuseFrame c p f s).addrStrap = s.addrStrap ∧
    (refuseFrame c p f s).budStrap = s.budStrap ∧ (refuseFrame c p f s).line = s.line ∧
    (refuseFrame c p f s).bays = s.bays ∧ (refuseFrame c p f s).power = s.power ∧
    (refuseFrame c p f s).route = s.route ∧ (refuseFrame c p f s).therm = s.therm ∧
    (refuseFrame c p f s).cool = s.cool ∧ (refuseFrame c p f s).mgmt = s.mgmt ∧ (refuseFrame c p f s).ev = s.ev ∧
    (refuseFrame c p f s).pending = s.pending := by
  simp [refuseFrame]

@[simp] theorem refuseFrame_now (c : StatusCode) (p : Port) (f : Frame) (s : State) :
    (refuseFrame c p f s).now = s.now :=
  (refuseFrame_frame c p f s).1
@[simp] theorem refuseFrame_addrStrap (c : StatusCode) (p : Port) (f : Frame) (s : State) :
    (refuseFrame c p f s).addrStrap = s.addrStrap :=
  (refuseFrame_frame c p f s).2.1
@[simp] theorem refuseFrame_budStrap (c : StatusCode) (p : Port) (f : Frame) (s : State) :
    (refuseFrame c p f s).budStrap = s.budStrap :=
  (refuseFrame_frame c p f s).2.2.1
@[simp] theorem refuseFrame_line (c : StatusCode) (p : Port) (f : Frame) (s : State) :
    (refuseFrame c p f s).line = s.line :=
  (refuseFrame_frame c p f s).2.2.2.1
@[simp] theorem refuseFrame_bays (c : StatusCode) (p : Port) (f : Frame) (s : State) :
    (refuseFrame c p f s).bays = s.bays :=
  (refuseFrame_frame c p f s).2.2.2.2.1
@[simp] theorem refuseFrame_power (c : StatusCode) (p : Port) (f : Frame) (s : State) :
    (refuseFrame c p f s).power = s.power :=
  (refuseFrame_frame c p f s).2.2.2.2.2.1
@[simp] theorem refuseFrame_route (c : StatusCode) (p : Port) (f : Frame) (s : State) :
    (refuseFrame c p f s).route = s.route :=
  (refuseFrame_frame c p f s).2.2.2.2.2.2.1
@[simp] theorem refuseFrame_therm (c : StatusCode) (p : Port) (f : Frame) (s : State) :
    (refuseFrame c p f s).therm = s.therm :=
  (refuseFrame_frame c p f s).2.2.2.2.2.2.2.1
@[simp] theorem refuseFrame_cool (c : StatusCode) (p : Port) (f : Frame) (s : State) :
    (refuseFrame c p f s).cool = s.cool :=
  (refuseFrame_frame c p f s).2.2.2.2.2.2.2.2.1
@[simp] theorem refuseFrame_mgmt (c : StatusCode) (p : Port) (f : Frame) (s : State) :
    (refuseFrame c p f s).mgmt = s.mgmt :=
  (refuseFrame_frame c p f s).2.2.2.2.2.2.2.2.2.1
@[simp] theorem refuseFrame_ev (c : StatusCode) (p : Port) (f : Frame) (s : State) : (refuseFrame c p f s).ev = s.ev :=
  (refuseFrame_frame c p f s).2.2.2.2.2.2.2.2.2.2.1
@[simp] theorem refuseFrame_pending (c : StatusCode) (p : Port) (f : Frame) (s : State) :
    (refuseFrame c p f s).pending = s.pending :=
  (refuseFrame_frame c p f s).2.2.2.2.2.2.2.2.2.2.2

/-- `capture` changes nothing but `therm`, `ev`, `bays`. -/
theorem capture_frame (b : Bay) (x : Int) (s : State) :
    (capture b x s).now = s.now ∧ (capture b x s).addrStrap = s.addrStrap ∧ (capture b x s).budStrap = s.budStrap ∧
    (capture b x s).line = s.line ∧ (capture b x s).power = s.power ∧ (capture b x s).fwd = s.fwd ∧
    (capture b x s).route = s.route ∧ (capture b x s).cool = s.cool ∧ (capture b x s).light = s.light ∧
    (capture b x s).mgmt = s.mgmt ∧ (capture b x s).pending = s.pending := by
  unfold capture; simp only; repeat' split
  all_goals simp

@[simp] theorem capture_now (b : Bay) (x : Int) (s : State) : (capture b x s).now = s.now :=
  (capture_frame b x s).1
@[simp] theorem capture_addrStrap (b : Bay) (x : Int) (s : State) : (capture b x s).addrStrap = s.addrStrap :=
  (capture_frame b x s).2.1
@[simp] theorem capture_budStrap (b : Bay) (x : Int) (s : State) : (capture b x s).budStrap = s.budStrap :=
  (capture_frame b x s).2.2.1
@[simp] theorem capture_line (b : Bay) (x : Int) (s : State) : (capture b x s).line = s.line :=
  (capture_frame b x s).2.2.2.1
@[simp] theorem capture_power (b : Bay) (x : Int) (s : State) : (capture b x s).power = s.power :=
  (capture_frame b x s).2.2.2.2.1
@[simp] theorem capture_fwd (b : Bay) (x : Int) (s : State) : (capture b x s).fwd = s.fwd :=
  (capture_frame b x s).2.2.2.2.2.1
@[simp] theorem capture_route (b : Bay) (x : Int) (s : State) : (capture b x s).route = s.route :=
  (capture_frame b x s).2.2.2.2.2.2.1
@[simp] theorem capture_cool (b : Bay) (x : Int) (s : State) : (capture b x s).cool = s.cool :=
  (capture_frame b x s).2.2.2.2.2.2.2.1
@[simp] theorem capture_light (b : Bay) (x : Int) (s : State) : (capture b x s).light = s.light :=
  (capture_frame b x s).2.2.2.2.2.2.2.2.1
@[simp] theorem capture_mgmt (b : Bay) (x : Int) (s : State) : (capture b x s).mgmt = s.mgmt :=
  (capture_frame b x s).2.2.2.2.2.2.2.2.2.1
@[simp] theorem capture_pending (b : Bay) (x : Int) (s : State) : (capture b x s).pending = s.pending :=
  (capture_frame b x s).2.2.2.2.2.2.2.2.2.2

/-- `faultHint` changes nothing but `light`, `ev`. -/
theorem faultHint_frame (b : Bay) (s : State) :
    (faultHint b s).now = s.now ∧ (faultHint b s).addrStrap = s.addrStrap ∧ (faultHint b s).budStrap = s.budStrap ∧
    (faultHint b s).line = s.line ∧ (faultHint b s).bays = s.bays ∧ (faultHint b s).power = s.power ∧
    (faultHint b s).fwd = s.fwd ∧ (faultHint b s).route = s.route ∧ (faultHint b s).therm = s.therm ∧
    (faultHint b s).cool = s.cool ∧ (faultHint b s).mgmt = s.mgmt ∧ (faultHint b s).pending = s.pending := by
  simp [faultHint]

@[simp] theorem faultHint_now (b : Bay) (s : State) : (faultHint b s).now = s.now :=
  (faultHint_frame b s).1
@[simp] theorem faultHint_addrStrap (b : Bay) (s : State) : (faultHint b s).addrStrap = s.addrStrap :=
  (faultHint_frame b s).2.1
@[simp] theorem faultHint_budStrap (b : Bay) (s : State) : (faultHint b s).budStrap = s.budStrap :=
  (faultHint_frame b s).2.2.1
@[simp] theorem faultHint_line (b : Bay) (s : State) : (faultHint b s).line = s.line :=
  (faultHint_frame b s).2.2.2.1
@[simp] theorem faultHint_bays (b : Bay) (s : State) : (faultHint b s).bays = s.bays :=
  (faultHint_frame b s).2.2.2.2.1
@[simp] theorem faultHint_power (b : Bay) (s : State) : (faultHint b s).power = s.power :=
  (faultHint_frame b s).2.2.2.2.2.1
@[simp] theorem faultHint_fwd (b : Bay) (s : State) : (faultHint b s).fwd = s.fwd :=
  (faultHint_frame b s).2.2.2.2.2.2.1
@[simp] theorem faultHint_route (b : Bay) (s : State) : (faultHint b s).route = s.route :=
  (faultHint_frame b s).2.2.2.2.2.2.2.1
@[simp] theorem faultHint_therm (b : Bay) (s : State) : (faultHint b s).therm = s.therm :=
  (faultHint_frame b s).2.2.2.2.2.2.2.2.1
@[simp] theorem faultHint_cool (b : Bay) (s : State) : (faultHint b s).cool = s.cool :=
  (faultHint_frame b s).2.2.2.2.2.2.2.2.2.1
@[simp] theorem faultHint_mgmt (b : Bay) (s : State) : (faultHint b s).mgmt = s.mgmt :=
  (faultHint_frame b s).2.2.2.2.2.2.2.2.2.2.1
@[simp] theorem faultHint_pending (b : Bay) (s : State) : (faultHint b s).pending = s.pending :=
  (faultHint_frame b s).2.2.2.2.2.2.2.2.2.2.2

/-- `applyRule` changes nothing but `therm`, `ev`, `bays`, `light`. -/
theorem applyRule_frame (b : Bay) (r : SnoopRule) (v : Byte) (s : State) :
    (applyRule b r v s).now = s.now ∧ (applyRule b r v s).addrStrap = s.addrStrap ∧
    (applyRule b r v s).budStrap = s.budStrap ∧ (applyRule b r v s).line = s.line ∧
    (applyRule b r v s).power = s.power ∧ (applyRule b r v s).fwd = s.fwd ∧ (applyRule b r v s).route = s.route ∧
    (applyRule b r v s).cool = s.cool ∧ (applyRule b r v s).mgmt = s.mgmt ∧ (applyRule b r v s).pending = s.pending := by
  unfold applyRule; repeat' split
  all_goals simp

@[simp] theorem applyRule_now (b : Bay) (r : SnoopRule) (v : Byte) (s : State) : (applyRule b r v s).now = s.now :=
  (applyRule_frame b r v s).1
@[simp] theorem applyRule_addrStrap (b : Bay) (r : SnoopRule) (v : Byte) (s : State) :
    (applyRule b r v s).addrStrap = s.addrStrap :=
  (applyRule_frame b r v s).2.1
@[simp] theorem applyRule_budStrap (b : Bay) (r : SnoopRule) (v : Byte) (s : State) :
    (applyRule b r v s).budStrap = s.budStrap :=
  (applyRule_frame b r v s).2.2.1
@[simp] theorem applyRule_line (b : Bay) (r : SnoopRule) (v : Byte) (s : State) : (applyRule b r v s).line = s.line :=
  (applyRule_frame b r v s).2.2.2.1
@[simp] theorem applyRule_power (b : Bay) (r : SnoopRule) (v : Byte) (s : State) :
    (applyRule b r v s).power = s.power :=
  (applyRule_frame b r v s).2.2.2.2.1
@[simp] theorem applyRule_fwd (b : Bay) (r : SnoopRule) (v : Byte) (s : State) : (applyRule b r v s).fwd = s.fwd :=
  (applyRule_frame b r v s).2.2.2.2.2.1
@[simp] theorem applyRule_route (b : Bay) (r : SnoopRule) (v : Byte) (s : State) :
    (applyRule b r v s).route = s.route :=
  (applyRule_frame b r v s).2.2.2.2.2.2.1
@[simp] theorem applyRule_cool (b : Bay) (r : SnoopRule) (v : Byte) (s : State) : (applyRule b r v s).cool = s.cool :=
  (applyRule_frame b r v s).2.2.2.2.2.2.2.1
@[simp] theorem applyRule_mgmt (b : Bay) (r : SnoopRule) (v : Byte) (s : State) : (applyRule b r v s).mgmt = s.mgmt :=
  (applyRule_frame b r v s).2.2.2.2.2.2.2.2.1
@[simp] theorem applyRule_pending (b : Bay) (r : SnoopRule) (v : Byte) (s : State) :
    (applyRule b r v s).pending = s.pending :=
  (applyRule_frame b r v s).2.2.2.2.2.2.2.2.2

/-- `snoop` changes nothing but `therm`, `ev`, `bays`, `light`. -/
theorem snoop_frame (b : Bay) (f : Frame) (s : State) :
    (snoop b f s).now = s.now ∧ (snoop b f s).addrStrap = s.addrStrap ∧ (snoop b f s).budStrap = s.budStrap ∧
    (snoop b f s).line = s.line ∧ (snoop b f s).power = s.power ∧ (snoop b f s).fwd = s.fwd ∧
    (snoop b f s).route = s.route ∧ (snoop b f s).cool = s.cool ∧ (snoop b f s).mgmt = s.mgmt ∧
    (snoop b f s).pending = s.pending := by
  unfold snoop; simp only; repeat' split
  all_goals simp

@[simp] theorem snoop_now (b : Bay) (f : Frame) (s : State) : (snoop b f s).now = s.now :=
  (snoop_frame b f s).1
@[simp] theorem snoop_addrStrap (b : Bay) (f : Frame) (s : State) : (snoop b f s).addrStrap = s.addrStrap :=
  (snoop_frame b f s).2.1
@[simp] theorem snoop_budStrap (b : Bay) (f : Frame) (s : State) : (snoop b f s).budStrap = s.budStrap :=
  (snoop_frame b f s).2.2.1
@[simp] theorem snoop_line (b : Bay) (f : Frame) (s : State) : (snoop b f s).line = s.line :=
  (snoop_frame b f s).2.2.2.1
@[simp] theorem snoop_power (b : Bay) (f : Frame) (s : State) : (snoop b f s).power = s.power :=
  (snoop_frame b f s).2.2.2.2.1
@[simp] theorem snoop_fwd (b : Bay) (f : Frame) (s : State) : (snoop b f s).fwd = s.fwd :=
  (snoop_frame b f s).2.2.2.2.2.1
@[simp] theorem snoop_route (b : Bay) (f : Frame) (s : State) : (snoop b f s).route = s.route :=
  (snoop_frame b f s).2.2.2.2.2.2.1
@[simp] theorem snoop_cool (b : Bay) (f : Frame) (s : State) : (snoop b f s).cool = s.cool :=
  (snoop_frame b f s).2.2.2.2.2.2.2.1
@[simp] theorem snoop_mgmt (b : Bay) (f : Frame) (s : State) : (snoop b f s).mgmt = s.mgmt :=
  (snoop_frame b f s).2.2.2.2.2.2.2.2.1
@[simp] theorem snoop_pending (b : Bay) (f : Frame) (s : State) : (snoop b f s).pending = s.pending :=
  (snoop_frame b f s).2.2.2.2.2.2.2.2.2

/-- `place` changes nothing but `fwd`, `therm`, `ev`, `bays`, `light`. -/
theorem place_frame (p q : Port) (f : Frame) (s : State) :
    (place p q f s).now = s.now ∧ (place p q f s).addrStrap = s.addrStrap ∧ (place p q f s).budStrap = s.budStrap ∧
    (place p q f s).line = s.line ∧ (place p q f s).power = s.power ∧ (place p q f s).route = s.route ∧
    (place p q f s).cool = s.cool ∧ (place p q f s).mgmt = s.mgmt ∧ (place p q f s).pending = s.pending := by
  unfold place; cases q <;> cases p <;> simp

@[simp] theorem place_now (p q : Port) (f : Frame) (s : State) : (place p q f s).now = s.now :=
  (place_frame p q f s).1
@[simp] theorem place_addrStrap (p q : Port) (f : Frame) (s : State) : (place p q f s).addrStrap = s.addrStrap :=
  (place_frame p q f s).2.1
@[simp] theorem place_budStrap (p q : Port) (f : Frame) (s : State) : (place p q f s).budStrap = s.budStrap :=
  (place_frame p q f s).2.2.1
@[simp] theorem place_line (p q : Port) (f : Frame) (s : State) : (place p q f s).line = s.line :=
  (place_frame p q f s).2.2.2.1
@[simp] theorem place_power (p q : Port) (f : Frame) (s : State) : (place p q f s).power = s.power :=
  (place_frame p q f s).2.2.2.2.1
@[simp] theorem place_route (p q : Port) (f : Frame) (s : State) : (place p q f s).route = s.route :=
  (place_frame p q f s).2.2.2.2.2.1
@[simp] theorem place_cool (p q : Port) (f : Frame) (s : State) : (place p q f s).cool = s.cool :=
  (place_frame p q f s).2.2.2.2.2.2.1
@[simp] theorem place_mgmt (p q : Port) (f : Frame) (s : State) : (place p q f s).mgmt = s.mgmt :=
  (place_frame p q f s).2.2.2.2.2.2.2.1
@[simp] theorem place_pending (p q : Port) (f : Frame) (s : State) : (place p q f s).pending = s.pending :=
  (place_frame p q f s).2.2.2.2.2.2.2.2

/-- `fillPlace` changes nothing but `fwd`, `therm`, `ev`, `bays`, `light`. -/
theorem fillPlace_frame (q : Port) (s : State) :
    (fillPlace q s).now = s.now ∧ (fillPlace q s).addrStrap = s.addrStrap ∧ (fillPlace q s).budStrap = s.budStrap ∧
    (fillPlace q s).line = s.line ∧ (fillPlace q s).power = s.power ∧ (fillPlace q s).route = s.route ∧
    (fillPlace q s).cool = s.cool ∧ (fillPlace q s).mgmt = s.mgmt ∧ (fillPlace q s).pending = s.pending := by
  unfold fillPlace; split <;> simp

@[simp] theorem fillPlace_now (q : Port) (s : State) : (fillPlace q s).now = s.now :=
  (fillPlace_frame q s).1
@[simp] theorem fillPlace_addrStrap (q : Port) (s : State) : (fillPlace q s).addrStrap = s.addrStrap :=
  (fillPlace_frame q s).2.1
@[simp] theorem fillPlace_budStrap (q : Port) (s : State) : (fillPlace q s).budStrap = s.budStrap :=
  (fillPlace_frame q s).2.2.1
@[simp] theorem fillPlace_line (q : Port) (s : State) : (fillPlace q s).line = s.line :=
  (fillPlace_frame q s).2.2.2.1
@[simp] theorem fillPlace_power (q : Port) (s : State) : (fillPlace q s).power = s.power :=
  (fillPlace_frame q s).2.2.2.2.1
@[simp] theorem fillPlace_route (q : Port) (s : State) : (fillPlace q s).route = s.route :=
  (fillPlace_frame q s).2.2.2.2.2.1
@[simp] theorem fillPlace_cool (q : Port) (s : State) : (fillPlace q s).cool = s.cool :=
  (fillPlace_frame q s).2.2.2.2.2.2.1
@[simp] theorem fillPlace_mgmt (q : Port) (s : State) : (fillPlace q s).mgmt = s.mgmt :=
  (fillPlace_frame q s).2.2.2.2.2.2.2.1
@[simp] theorem fillPlace_pending (q : Port) (s : State) : (fillPlace q s).pending = s.pending :=
  (fillPlace_frame q s).2.2.2.2.2.2.2.2

/-- `abandon` changes nothing but `fwd`. -/
theorem abandon_frame (p : Port) (s : State) :
    (abandon p s).now = s.now ∧ (abandon p s).addrStrap = s.addrStrap ∧ (abandon p s).budStrap = s.budStrap ∧
    (abandon p s).line = s.line ∧ (abandon p s).bays = s.bays ∧ (abandon p s).power = s.power ∧
    (abandon p s).route = s.route ∧ (abandon p s).therm = s.therm ∧ (abandon p s).cool = s.cool ∧
    (abandon p s).light = s.light ∧ (abandon p s).mgmt = s.mgmt ∧ (abandon p s).ev = s.ev ∧
    (abandon p s).pending = s.pending := by
  unfold abandon; split <;> simp

@[simp] theorem abandon_now (p : Port) (s : State) : (abandon p s).now = s.now :=
  (abandon_frame p s).1
@[simp] theorem abandon_addrStrap (p : Port) (s : State) : (abandon p s).addrStrap = s.addrStrap :=
  (abandon_frame p s).2.1
@[simp] theorem abandon_budStrap (p : Port) (s : State) : (abandon p s).budStrap = s.budStrap :=
  (abandon_frame p s).2.2.1
@[simp] theorem abandon_line (p : Port) (s : State) : (abandon p s).line = s.line :=
  (abandon_frame p s).2.2.2.1
@[simp] theorem abandon_bays (p : Port) (s : State) : (abandon p s).bays = s.bays :=
  (abandon_frame p s).2.2.2.2.1
@[simp] theorem abandon_power (p : Port) (s : State) : (abandon p s).power = s.power :=
  (abandon_frame p s).2.2.2.2.2.1
@[simp] theorem abandon_route (p : Port) (s : State) : (abandon p s).route = s.route :=
  (abandon_frame p s).2.2.2.2.2.2.1
@[simp] theorem abandon_therm (p : Port) (s : State) : (abandon p s).therm = s.therm :=
  (abandon_frame p s).2.2.2.2.2.2.2.1
@[simp] theorem abandon_cool (p : Port) (s : State) : (abandon p s).cool = s.cool :=
  (abandon_frame p s).2.2.2.2.2.2.2.2.1
@[simp] theorem abandon_light (p : Port) (s : State) : (abandon p s).light = s.light :=
  (abandon_frame p s).2.2.2.2.2.2.2.2.2.1
@[simp] theorem abandon_mgmt (p : Port) (s : State) : (abandon p s).mgmt = s.mgmt :=
  (abandon_frame p s).2.2.2.2.2.2.2.2.2.2.1
@[simp] theorem abandon_ev (p : Port) (s : State) : (abandon p s).ev = s.ev :=
  (abandon_frame p s).2.2.2.2.2.2.2.2.2.2.2.1
@[simp] theorem abandon_pending (p : Port) (s : State) : (abandon p s).pending = s.pending :=
  (abandon_frame p s).2.2.2.2.2.2.2.2.2.2.2.2

/-- `endWait` changes nothing but `fwd`, `light`. -/
theorem endWait_frame (c : StatusCode) (x : Port × Waiting) (s : State) :
    (endWait c x s).now = s.now ∧ (endWait c x s).addrStrap = s.addrStrap ∧ (endWait c x s).budStrap = s.budStrap ∧
    (endWait c x s).line = s.line ∧ (endWait c x s).bays = s.bays ∧ (endWait c x s).power = s.power ∧
    (endWait c x s).route = s.route ∧ (endWait c x s).therm = s.therm ∧ (endWait c x s).cool = s.cool ∧
    (endWait c x s).mgmt = s.mgmt ∧ (endWait c x s).ev = s.ev ∧ (endWait c x s).pending = s.pending := by
  simp [endWait]

@[simp] theorem endWait_now (c : StatusCode) (x : Port × Waiting) (s : State) : (endWait c x s).now = s.now :=
  (endWait_frame c x s).1
@[simp] theorem endWait_addrStrap (c : StatusCode) (x : Port × Waiting) (s : State) :
    (endWait c x s).addrStrap = s.addrStrap :=
  (endWait_frame c x s).2.1
@[simp] theorem endWait_budStrap (c : StatusCode) (x : Port × Waiting) (s : State) :
    (endWait c x s).budStrap = s.budStrap :=
  (endWait_frame c x s).2.2.1
@[simp] theorem endWait_line (c : StatusCode) (x : Port × Waiting) (s : State) : (endWait c x s).line = s.line :=
  (endWait_frame c x s).2.2.2.1
@[simp] theorem endWait_bays (c : StatusCode) (x : Port × Waiting) (s : State) : (endWait c x s).bays = s.bays :=
  (endWait_frame c x s).2.2.2.2.1
@[simp] theorem endWait_power (c : StatusCode) (x : Port × Waiting) (s : State) : (endWait c x s).power = s.power :=
  (endWait_frame c x s).2.2.2.2.2.1
@[simp] theorem endWait_route (c : StatusCode) (x : Port × Waiting) (s : State) : (endWait c x s).route = s.route :=
  (endWait_frame c x s).2.2.2.2.2.2.1
@[simp] theorem endWait_therm (c : StatusCode) (x : Port × Waiting) (s : State) : (endWait c x s).therm = s.therm :=
  (endWait_frame c x s).2.2.2.2.2.2.2.1
@[simp] theorem endWait_cool (c : StatusCode) (x : Port × Waiting) (s : State) : (endWait c x s).cool = s.cool :=
  (endWait_frame c x s).2.2.2.2.2.2.2.2.1
@[simp] theorem endWait_mgmt (c : StatusCode) (x : Port × Waiting) (s : State) : (endWait c x s).mgmt = s.mgmt :=
  (endWait_frame c x s).2.2.2.2.2.2.2.2.2.1
@[simp] theorem endWait_ev (c : StatusCode) (x : Port × Waiting) (s : State) : (endWait c x s).ev = s.ev :=
  (endWait_frame c x s).2.2.2.2.2.2.2.2.2.2.1
@[simp] theorem endWait_pending (c : StatusCode) (x : Port × Waiting) (s : State) :
    (endWait c x s).pending = s.pending :=
  (endWait_frame c x s).2.2.2.2.2.2.2.2.2.2.2

/-- `dropOwnWait` changes nothing but `fwd`. -/
theorem dropOwnWait_frame (p : Port) (s : State) :
    (dropOwnWait p s).now = s.now ∧ (dropOwnWait p s).addrStrap = s.addrStrap ∧
    (dropOwnWait p s).budStrap = s.budStrap ∧ (dropOwnWait p s).line = s.line ∧ (dropOwnWait p s).bays = s.bays ∧
    (dropOwnWait p s).power = s.power ∧ (dropOwnWait p s).route = s.route ∧ (dropOwnWait p s).therm = s.therm ∧
    (dropOwnWait p s).cool = s.cool ∧ (dropOwnWait p s).light = s.light ∧ (dropOwnWait p s).mgmt = s.mgmt ∧
    (dropOwnWait p s).ev = s.ev ∧ (dropOwnWait p s).pending = s.pending := by
  unfold dropOwnWait; split <;> simp

@[simp] theorem dropOwnWait_now (p : Port) (s : State) : (dropOwnWait p s).now = s.now :=
  (dropOwnWait_frame p s).1
@[simp] theorem dropOwnWait_addrStrap (p : Port) (s : State) : (dropOwnWait p s).addrStrap = s.addrStrap :=
  (dropOwnWait_frame p s).2.1
@[simp] theorem dropOwnWait_budStrap (p : Port) (s : State) : (dropOwnWait p s).budStrap = s.budStrap :=
  (dropOwnWait_frame p s).2.2.1
@[simp] theorem dropOwnWait_line (p : Port) (s : State) : (dropOwnWait p s).line = s.line :=
  (dropOwnWait_frame p s).2.2.2.1
@[simp] theorem dropOwnWait_bays (p : Port) (s : State) : (dropOwnWait p s).bays = s.bays :=
  (dropOwnWait_frame p s).2.2.2.2.1
@[simp] theorem dropOwnWait_power (p : Port) (s : State) : (dropOwnWait p s).power = s.power :=
  (dropOwnWait_frame p s).2.2.2.2.2.1
@[simp] theorem dropOwnWait_route (p : Port) (s : State) : (dropOwnWait p s).route = s.route :=
  (dropOwnWait_frame p s).2.2.2.2.2.2.1
@[simp] theorem dropOwnWait_therm (p : Port) (s : State) : (dropOwnWait p s).therm = s.therm :=
  (dropOwnWait_frame p s).2.2.2.2.2.2.2.1
@[simp] theorem dropOwnWait_cool (p : Port) (s : State) : (dropOwnWait p s).cool = s.cool :=
  (dropOwnWait_frame p s).2.2.2.2.2.2.2.2.1
@[simp] theorem dropOwnWait_light (p : Port) (s : State) : (dropOwnWait p s).light = s.light :=
  (dropOwnWait_frame p s).2.2.2.2.2.2.2.2.2.1
@[simp] theorem dropOwnWait_mgmt (p : Port) (s : State) : (dropOwnWait p s).mgmt = s.mgmt :=
  (dropOwnWait_frame p s).2.2.2.2.2.2.2.2.2.2.1
@[simp] theorem dropOwnWait_ev (p : Port) (s : State) : (dropOwnWait p s).ev = s.ev :=
  (dropOwnWait_frame p s).2.2.2.2.2.2.2.2.2.2.2.1
@[simp] theorem dropOwnWait_pending (p : Port) (s : State) : (dropOwnWait p s).pending = s.pending :=
  (dropOwnWait_frame p s).2.2.2.2.2.2.2.2.2.2.2.2

/-- `bayGone` changes nothing but `fwd`, `light`. -/
theorem bayGone_frame (h : Held) (s : State) :
    (bayGone h s).now = s.now ∧ (bayGone h s).addrStrap = s.addrStrap ∧ (bayGone h s).budStrap = s.budStrap ∧
    (bayGone h s).line = s.line ∧ (bayGone h s).bays = s.bays ∧ (bayGone h s).power = s.power ∧
    (bayGone h s).route = s.route ∧ (bayGone h s).therm = s.therm ∧ (bayGone h s).cool = s.cool ∧
    (bayGone h s).mgmt = s.mgmt ∧ (bayGone h s).ev = s.ev ∧ (bayGone h s).pending = s.pending := by
  unfold bayGone; split <;> simp

@[simp] theorem bayGone_now (h : Held) (s : State) : (bayGone h s).now = s.now :=
  (bayGone_frame h s).1
@[simp] theorem bayGone_addrStrap (h : Held) (s : State) : (bayGone h s).addrStrap = s.addrStrap :=
  (bayGone_frame h s).2.1
@[simp] theorem bayGone_budStrap (h : Held) (s : State) : (bayGone h s).budStrap = s.budStrap :=
  (bayGone_frame h s).2.2.1
@[simp] theorem bayGone_line (h : Held) (s : State) : (bayGone h s).line = s.line :=
  (bayGone_frame h s).2.2.2.1
@[simp] theorem bayGone_bays (h : Held) (s : State) : (bayGone h s).bays = s.bays :=
  (bayGone_frame h s).2.2.2.2.1
@[simp] theorem bayGone_power (h : Held) (s : State) : (bayGone h s).power = s.power :=
  (bayGone_frame h s).2.2.2.2.2.1
@[simp] theorem bayGone_route (h : Held) (s : State) : (bayGone h s).route = s.route :=
  (bayGone_frame h s).2.2.2.2.2.2.1
@[simp] theorem bayGone_therm (h : Held) (s : State) : (bayGone h s).therm = s.therm :=
  (bayGone_frame h s).2.2.2.2.2.2.2.1
@[simp] theorem bayGone_cool (h : Held) (s : State) : (bayGone h s).cool = s.cool :=
  (bayGone_frame h s).2.2.2.2.2.2.2.2.1
@[simp] theorem bayGone_mgmt (h : Held) (s : State) : (bayGone h s).mgmt = s.mgmt :=
  (bayGone_frame h s).2.2.2.2.2.2.2.2.2.1
@[simp] theorem bayGone_ev (h : Held) (s : State) : (bayGone h s).ev = s.ev :=
  (bayGone_frame h s).2.2.2.2.2.2.2.2.2.2.1
@[simp] theorem bayGone_pending (h : Held) (s : State) : (bayGone h s).pending = s.pending :=
  (bayGone_frame h s).2.2.2.2.2.2.2.2.2.2.2

/-- A block that every step of a fold leaves alone is left alone by the fold. -/
theorem foldl_keeps {α β : Type} (get : State → β) (f : State → α → State) (h : ∀ s x, get (f s x) = get s) (l : List α)
    (s : State) : get (l.foldl f s) = get s := by
  induction l generalizing s with
  | nil => rfl
  | cons x xs ih => rw [List.foldl_cons, ih, h]

/-- `flushQueue` changes nothing but `fwd`, `light`. -/
theorem flushQueue_frame (b : Bay) (s : State) :
    (flushQueue b s).now = s.now ∧ (flushQueue b s).addrStrap = s.addrStrap ∧
    (flushQueue b s).budStrap = s.budStrap ∧ (flushQueue b s).line = s.line ∧ (flushQueue b s).bays = s.bays ∧
    (flushQueue b s).power = s.power ∧ (flushQueue b s).route = s.route ∧ (flushQueue b s).therm = s.therm ∧
    (flushQueue b s).cool = s.cool ∧ (flushQueue b s).mgmt = s.mgmt ∧ (flushQueue b s).ev = s.ev ∧
    (flushQueue b s).pending = s.pending := by
  unfold flushQueue; simp only
  refine ⟨(foldl_keeps State.now _ (fun s h => ?_) _ _).trans ?_, (foldl_keeps State.addrStrap _ (fun s h => ?_) _ _).trans ?_, (foldl_keeps State.budStrap _ (fun s h => ?_) _ _).trans ?_, (foldl_keeps State.line _ (fun s h => ?_) _ _).trans ?_, (foldl_keeps State.bays _ (fun s h => ?_) _ _).trans ?_, (foldl_keeps State.power _ (fun s h => ?_) _ _).trans ?_, (foldl_keeps State.route _ (fun s h => ?_) _ _).trans ?_, (foldl_keeps State.therm _ (fun s h => ?_) _ _).trans ?_, (foldl_keeps State.cool _ (fun s h => ?_) _ _).trans ?_, (foldl_keeps State.mgmt _ (fun s h => ?_) _ _).trans ?_, (foldl_keeps State.ev _ (fun s h => ?_) _ _).trans ?_, (foldl_keeps State.pending _ (fun s h => ?_) _ _).trans ?_⟩
  all_goals simp

@[simp] theorem flushQueue_now (b : Bay) (s : State) : (flushQueue b s).now = s.now :=
  (flushQueue_frame b s).1
@[simp] theorem flushQueue_addrStrap (b : Bay) (s : State) : (flushQueue b s).addrStrap = s.addrStrap :=
  (flushQueue_frame b s).2.1
@[simp] theorem flushQueue_budStrap (b : Bay) (s : State) : (flushQueue b s).budStrap = s.budStrap :=
  (flushQueue_frame b s).2.2.1
@[simp] theorem flushQueue_line (b : Bay) (s : State) : (flushQueue b s).line = s.line :=
  (flushQueue_frame b s).2.2.2.1
@[simp] theorem flushQueue_bays (b : Bay) (s : State) : (flushQueue b s).bays = s.bays :=
  (flushQueue_frame b s).2.2.2.2.1
@[simp] theorem flushQueue_power (b : Bay) (s : State) : (flushQueue b s).power = s.power :=
  (flushQueue_frame b s).2.2.2.2.2.1
@[simp] theorem flushQueue_route (b : Bay) (s : State) : (flushQueue b s).route = s.route :=
  (flushQueue_frame b s).2.2.2.2.2.2.1
@[simp] theorem flushQueue_therm (b : Bay) (s : State) : (flushQueue b s).therm = s.therm :=
  (flushQueue_frame b s).2.2.2.2.2.2.2.1
@[simp] theorem flushQueue_cool (b : Bay) (s : State) : (flushQueue b s).cool = s.cool :=
  (flushQueue_frame b s).2.2.2.2.2.2.2.2.1
@[simp] theorem flushQueue_mgmt (b : Bay) (s : State) : (flushQueue b s).mgmt = s.mgmt :=
  (flushQueue_frame b s).2.2.2.2.2.2.2.2.2.1
@[simp] theorem flushQueue_ev (b : Bay) (s : State) : (flushQueue b s).ev = s.ev :=
  (flushQueue_frame b s).2.2.2.2.2.2.2.2.2.2.1
@[simp] theorem flushQueue_pending (b : Bay) (s : State) : (flushQueue b s).pending = s.pending :=
  (flushQueue_frame b s).2.2.2.2.2.2.2.2.2.2.2

/-- `flushWaiters` changes nothing but `fwd`, `light`. -/
theorem flushWaiters_frame (b : Bay) (s : State) :
    (flushWaiters b s).now = s.now ∧ (flushWaiters b s).addrStrap = s.addrStrap ∧
    (flushWaiters b s).budStrap = s.budStrap ∧ (flushWaiters b s).line = s.line ∧ (flushWaiters b s).bays = s.bays ∧
    (flushWaiters b s).power = s.power ∧ (flushWaiters b s).route = s.route ∧ (flushWaiters b s).therm = s.therm ∧
    (flushWaiters b s).cool = s.cool ∧ (flushWaiters b s).mgmt = s.mgmt ∧ (flushWaiters b s).ev = s.ev ∧
    (flushWaiters b s).pending = s.pending := by
  unfold flushWaiters
  refine ⟨foldl_keeps State.now _ (fun s x => ?_) _ _, foldl_keeps State.addrStrap _ (fun s x => ?_) _ _, foldl_keeps State.budStrap _ (fun s x => ?_) _ _, foldl_keeps State.line _ (fun s x => ?_) _ _, foldl_keeps State.bays _ (fun s x => ?_) _ _, foldl_keeps State.power _ (fun s x => ?_) _ _, foldl_keeps State.route _ (fun s x => ?_) _ _, foldl_keeps State.therm _ (fun s x => ?_) _ _, foldl_keeps State.cool _ (fun s x => ?_) _ _, foldl_keeps State.mgmt _ (fun s x => ?_) _ _, foldl_keeps State.ev _ (fun s x => ?_) _ _, foldl_keeps State.pending _ (fun s x => ?_) _ _⟩
  all_goals simp

@[simp] theorem flushWaiters_now (b : Bay) (s : State) : (flushWaiters b s).now = s.now :=
  (flushWaiters_frame b s).1
@[simp] theorem flushWaiters_addrStrap (b : Bay) (s : State) : (flushWaiters b s).addrStrap = s.addrStrap :=
  (flushWaiters_frame b s).2.1
@[simp] theorem flushWaiters_budStrap (b : Bay) (s : State) : (flushWaiters b s).budStrap = s.budStrap :=
  (flushWaiters_frame b s).2.2.1
@[simp] theorem flushWaiters_line (b : Bay) (s : State) : (flushWaiters b s).line = s.line :=
  (flushWaiters_frame b s).2.2.2.1
@[simp] theorem flushWaiters_bays (b : Bay) (s : State) : (flushWaiters b s).bays = s.bays :=
  (flushWaiters_frame b s).2.2.2.2.1
@[simp] theorem flushWaiters_power (b : Bay) (s : State) : (flushWaiters b s).power = s.power :=
  (flushWaiters_frame b s).2.2.2.2.2.1
@[simp] theorem flushWaiters_route (b : Bay) (s : State) : (flushWaiters b s).route = s.route :=
  (flushWaiters_frame b s).2.2.2.2.2.2.1
@[simp] theorem flushWaiters_therm (b : Bay) (s : State) : (flushWaiters b s).therm = s.therm :=
  (flushWaiters_frame b s).2.2.2.2.2.2.2.1
@[simp] theorem flushWaiters_cool (b : Bay) (s : State) : (flushWaiters b s).cool = s.cool :=
  (flushWaiters_frame b s).2.2.2.2.2.2.2.2.1
@[simp] theorem flushWaiters_mgmt (b : Bay) (s : State) : (flushWaiters b s).mgmt = s.mgmt :=
  (flushWaiters_frame b s).2.2.2.2.2.2.2.2.2.1
@[simp] theorem flushWaiters_ev (b : Bay) (s : State) : (flushWaiters b s).ev = s.ev :=
  (flushWaiters_frame b s).2.2.2.2.2.2.2.2.2.2.1
@[simp] theorem flushWaiters_pending (b : Bay) (s : State) : (flushWaiters b s).pending = s.pending :=
  (flushWaiters_frame b s).2.2.2.2.2.2.2.2.2.2.2

/-- `flush` changes nothing but `fwd`, `light`. -/
theorem flush_frame (b : Bay) (s : State) :
    (flush b s).now = s.now ∧ (flush b s).addrStrap = s.addrStrap ∧ (flush b s).budStrap = s.budStrap ∧
    (flush b s).line = s.line ∧ (flush b s).bays = s.bays ∧ (flush b s).power = s.power ∧
    (flush b s).route = s.route ∧ (flush b s).therm = s.therm ∧ (flush b s).cool = s.cool ∧
    (flush b s).mgmt = s.mgmt ∧ (flush b s).ev = s.ev ∧ (flush b s).pending = s.pending := by
  simp [flush]

@[simp] theorem flush_now (b : Bay) (s : State) : (flush b s).now = s.now :=
  (flush_frame b s).1
@[simp] theorem flush_addrStrap (b : Bay) (s : State) : (flush b s).addrStrap = s.addrStrap :=
  (flush_frame b s).2.1
@[simp] theorem flush_budStrap (b : Bay) (s : State) : (flush b s).budStrap = s.budStrap :=
  (flush_frame b s).2.2.1
@[simp] theorem flush_line (b : Bay) (s : State) : (flush b s).line = s.line :=
  (flush_frame b s).2.2.2.1
@[simp] theorem flush_bays (b : Bay) (s : State) : (flush b s).bays = s.bays :=
  (flush_frame b s).2.2.2.2.1
@[simp] theorem flush_power (b : Bay) (s : State) : (flush b s).power = s.power :=
  (flush_frame b s).2.2.2.2.2.1
@[simp] theorem flush_route (b : Bay) (s : State) : (flush b s).route = s.route :=
  (flush_frame b s).2.2.2.2.2.2.1
@[simp] theorem flush_therm (b : Bay) (s : State) : (flush b s).therm = s.therm :=
  (flush_frame b s).2.2.2.2.2.2.2.1
@[simp] theorem flush_cool (b : Bay) (s : State) : (flush b s).cool = s.cool :=
  (flush_frame b s).2.2.2.2.2.2.2.2.1
@[simp] theorem flush_mgmt (b : Bay) (s : State) : (flush b s).mgmt = s.mgmt :=
  (flush_frame b s).2.2.2.2.2.2.2.2.2.1
@[simp] theorem flush_ev (b : Bay) (s : State) : (flush b s).ev = s.ev :=
  (flush_frame b s).2.2.2.2.2.2.2.2.2.2.1
@[simp] theorem flush_pending (b : Bay) (s : State) : (flush b s).pending = s.pending :=
  (flush_frame b s).2.2.2.2.2.2.2.2.2.2.2

/-- `stepDown` changes nothing but `power`, `ev`. -/
theorem stepDown_frame (s : State) :
    (stepDown s).now = s.now ∧ (stepDown s).addrStrap = s.addrStrap ∧ (stepDown s).budStrap = s.budStrap ∧
    (stepDown s).line = s.line ∧ (stepDown s).bays = s.bays ∧ (stepDown s).fwd = s.fwd ∧
    (stepDown s).route = s.route ∧ (stepDown s).therm = s.therm ∧ (stepDown s).cool = s.cool ∧
    (stepDown s).light = s.light ∧ (stepDown s).mgmt = s.mgmt ∧ (stepDown s).pending = s.pending := by
  unfold stepDown; split
  · simp
  · simp only; split <;> simp

@[simp] theorem stepDown_now (s : State) : (stepDown s).now = s.now :=
  (stepDown_frame s).1
@[simp] theorem stepDown_addrStrap (s : State) : (stepDown s).addrStrap = s.addrStrap :=
  (stepDown_frame s).2.1
@[simp] theorem stepDown_budStrap (s : State) : (stepDown s).budStrap = s.budStrap :=
  (stepDown_frame s).2.2.1
@[simp] theorem stepDown_line (s : State) : (stepDown s).line = s.line :=
  (stepDown_frame s).2.2.2.1
@[simp] theorem stepDown_bays (s : State) : (stepDown s).bays = s.bays :=
  (stepDown_frame s).2.2.2.2.1
@[simp] theorem stepDown_fwd (s : State) : (stepDown s).fwd = s.fwd :=
  (stepDown_frame s).2.2.2.2.2.1
@[simp] theorem stepDown_route (s : State) : (stepDown s).route = s.route :=
  (stepDown_frame s).2.2.2.2.2.2.1
@[simp] theorem stepDown_therm (s : State) : (stepDown s).therm = s.therm :=
  (stepDown_frame s).2.2.2.2.2.2.2.1
@[simp] theorem stepDown_cool (s : State) : (stepDown s).cool = s.cool :=
  (stepDown_frame s).2.2.2.2.2.2.2.2.1
@[simp] theorem stepDown_light (s : State) : (stepDown s).light = s.light :=
  (stepDown_frame s).2.2.2.2.2.2.2.2.2.1
@[simp] theorem stepDown_mgmt (s : State) : (stepDown s).mgmt = s.mgmt :=
  (stepDown_frame s).2.2.2.2.2.2.2.2.2.2.1
@[simp] theorem stepDown_pending (s : State) : (stepDown s).pending = s.pending :=
  (stepDown_frame s).2.2.2.2.2.2.2.2.2.2.2

/-- `setCharge` changes nothing but `power`, `ev`. -/
theorem setCharge_frame (b : Bay) (v : Nat) (s : State) :
    (setCharge b v s).now = s.now ∧ (setCharge b v s).addrStrap = s.addrStrap ∧
    (setCharge b v s).budStrap = s.budStrap ∧ (setCharge b v s).line = s.line ∧ (setCharge b v s).bays = s.bays ∧
    (setCharge b v s).fwd = s.fwd ∧ (setCharge b v s).route = s.route ∧ (setCharge b v s).therm = s.therm ∧
    (setCharge b v s).cool = s.cool ∧ (setCharge b v s).light = s.light ∧ (setCharge b v s).mgmt = s.mgmt ∧
    (setCharge b v s).pending = s.pending := by
  unfold setCharge; simp only; split <;> simp

@[simp] theorem setCharge_now (b : Bay) (v : Nat) (s : State) : (setCharge b v s).now = s.now :=
  (setCharge_frame b v s).1
@[simp] theorem setCharge_addrStrap (b : Bay) (v : Nat) (s : State) : (setCharge b v s).addrStrap = s.addrStrap :=
  (setCharge_frame b v s).2.1
@[simp] theorem setCharge_budStrap (b : Bay) (v : Nat) (s : State) : (setCharge b v s).budStrap = s.budStrap :=
  (setCharge_frame b v s).2.2.1
@[simp] theorem setCharge_line (b : Bay) (v : Nat) (s : State) : (setCharge b v s).line = s.line :=
  (setCharge_frame b v s).2.2.2.1
@[simp] theorem setCharge_bays (b : Bay) (v : Nat) (s : State) : (setCharge b v s).bays = s.bays :=
  (setCharge_frame b v s).2.2.2.2.1
@[simp] theorem setCharge_fwd (b : Bay) (v : Nat) (s : State) : (setCharge b v s).fwd = s.fwd :=
  (setCharge_frame b v s).2.2.2.2.2.1
@[simp] theorem setCharge_route (b : Bay) (v : Nat) (s : State) : (setCharge b v s).route = s.route :=
  (setCharge_frame b v s).2.2.2.2.2.2.1
@[simp] theorem setCharge_therm (b : Bay) (v : Nat) (s : State) : (setCharge b v s).therm = s.therm :=
  (setCharge_frame b v s).2.2.2.2.2.2.2.1
@[simp] theorem setCharge_cool (b : Bay) (v : Nat) (s : State) : (setCharge b v s).cool = s.cool :=
  (setCharge_frame b v s).2.2.2.2.2.2.2.2.1
@[simp] theorem setCharge_light (b : Bay) (v : Nat) (s : State) : (setCharge b v s).light = s.light :=
  (setCharge_frame b v s).2.2.2.2.2.2.2.2.2.1
@[simp] theorem setCharge_mgmt (b : Bay) (v : Nat) (s : State) : (setCharge b v s).mgmt = s.mgmt :=
  (setCharge_frame b v s).2.2.2.2.2.2.2.2.2.2.1
@[simp] theorem setCharge_pending (b : Bay) (v : Nat) (s : State) : (setCharge b v s).pending = s.pending :=
  (setCharge_frame b v s).2.2.2.2.2.2.2.2.2.2.2

/-- `leavePower` changes nothing but `bays`, `power`, `ev`, `fwd`, `light`, `therm`, `route`. -/
theorem leavePower_frame (b : Bay) (s : State) :
    (leavePower b s).now = s.now ∧ (leavePower b s).addrStrap = s.addrStrap ∧
    (leavePower b s).budStrap = s.budStrap ∧ (leavePower b s).line = s.line ∧ (leavePower b s).cool = s.cool ∧
    (leavePower b s).mgmt = s.mgmt ∧ (leavePower b s).pending = s.pending := by
  unfold leavePower; simp only; repeat' split
  all_goals simp

@[simp] theorem leavePower_now (b : Bay) (s : State) : (leavePower b s).now = s.now :=
  (leavePower_frame b s).1
@[simp] theorem leavePower_addrStrap (b : Bay) (s : State) : (leavePower b s).addrStrap = s.addrStrap :=
  (leavePower_frame b s).2.1
@[simp] theorem leavePower_budStrap (b : Bay) (s : State) : (leavePower b s).budStrap = s.budStrap :=
  (leavePower_frame b s).2.2.1
@[simp] theorem leavePower_line (b : Bay) (s : State) : (leavePower b s).line = s.line :=
  (leavePower_frame b s).2.2.2.1
@[simp] theorem leavePower_cool (b : Bay) (s : State) : (leavePower b s).cool = s.cool :=
  (leavePower_frame b s).2.2.2.2.1
@[simp] theorem leavePower_mgmt (b : Bay) (s : State) : (leavePower b s).mgmt = s.mgmt :=
  (leavePower_frame b s).2.2.2.2.2.1
@[simp] theorem leavePower_pending (b : Bay) (s : State) : (leavePower b s).pending = s.pending :=
  (leavePower_frame b s).2.2.2.2.2.2

/-- `faultBay` changes nothing but `bays`, `power`, `ev`, `fwd`, `light`, `therm`, `route`. -/
theorem faultBay_frame (b : Bay) (c : FaultCause) (s : State) :
    (faultBay b c s).now = s.now ∧ (faultBay b c s).addrStrap = s.addrStrap ∧
    (faultBay b c s).budStrap = s.budStrap ∧ (faultBay b c s).line = s.line ∧ (faultBay b c s).cool = s.cool ∧
    (faultBay b c s).mgmt = s.mgmt ∧ (faultBay b c s).pending = s.pending := by
  simp [faultBay]

@[simp] theorem faultBay_now (b : Bay) (c : FaultCause) (s : State) : (faultBay b c s).now = s.now :=
  (faultBay_frame b c s).1
@[simp] theorem faultBay_addrStrap (b : Bay) (c : FaultCause) (s : State) : (faultBay b c s).addrStrap = s.addrStrap :=
  (faultBay_frame b c s).2.1
@[simp] theorem faultBay_budStrap (b : Bay) (c : FaultCause) (s : State) : (faultBay b c s).budStrap = s.budStrap :=
  (faultBay_frame b c s).2.2.1
@[simp] theorem faultBay_line (b : Bay) (c : FaultCause) (s : State) : (faultBay b c s).line = s.line :=
  (faultBay_frame b c s).2.2.2.1
@[simp] theorem faultBay_cool (b : Bay) (c : FaultCause) (s : State) : (faultBay b c s).cool = s.cool :=
  (faultBay_frame b c s).2.2.2.2.1
@[simp] theorem faultBay_mgmt (b : Bay) (c : FaultCause) (s : State) : (faultBay b c s).mgmt = s.mgmt :=
  (faultBay_frame b c s).2.2.2.2.2.1
@[simp] theorem faultBay_pending (b : Bay) (c : FaultCause) (s : State) : (faultBay b c s).pending = s.pending :=
  (faultBay_frame b c s).2.2.2.2.2.2

/-- `joinQueue` changes nothing but `power`. -/
theorem joinQueue_frame (b : Bay) (c : QueueClass) (s : State) :
    (joinQueue b c s).now = s.now ∧ (joinQueue b c s).addrStrap = s.addrStrap ∧
    (joinQueue b c s).budStrap = s.budStrap ∧ (joinQueue b c s).line = s.line ∧ (joinQueue b c s).bays = s.bays ∧
    (joinQueue b c s).fwd = s.fwd ∧ (joinQueue b c s).route = s.route ∧ (joinQueue b c s).therm = s.therm ∧
    (joinQueue b c s).cool = s.cool ∧ (joinQueue b c s).light = s.light ∧ (joinQueue b c s).mgmt = s.mgmt ∧
    (joinQueue b c s).ev = s.ev ∧ (joinQueue b c s).pending = s.pending := by
  simp [joinQueue]

@[simp] theorem joinQueue_now (b : Bay) (c : QueueClass) (s : State) : (joinQueue b c s).now = s.now :=
  (joinQueue_frame b c s).1
@[simp] theorem joinQueue_addrStrap (b : Bay) (c : QueueClass) (s : State) :
    (joinQueue b c s).addrStrap = s.addrStrap :=
  (joinQueue_frame b c s).2.1
@[simp] theorem joinQueue_budStrap (b : Bay) (c : QueueClass) (s : State) : (joinQueue b c s).budStrap = s.budStrap :=
  (joinQueue_frame b c s).2.2.1
@[simp] theorem joinQueue_line (b : Bay) (c : QueueClass) (s : State) : (joinQueue b c s).line = s.line :=
  (joinQueue_frame b c s).2.2.2.1
@[simp] theorem joinQueue_bays (b : Bay) (c : QueueClass) (s : State) : (joinQueue b c s).bays = s.bays :=
  (joinQueue_frame b c s).2.2.2.2.1
@[simp] theorem joinQueue_fwd (b : Bay) (c : QueueClass) (s : State) : (joinQueue b c s).fwd = s.fwd :=
  (joinQueue_frame b c s).2.2.2.2.2.1
@[simp] theorem joinQueue_route (b : Bay) (c : QueueClass) (s : State) : (joinQueue b c s).route = s.route :=
  (joinQueue_frame b c s).2.2.2.2.2.2.1
@[simp] theorem joinQueue_therm (b : Bay) (c : QueueClass) (s : State) : (joinQueue b c s).therm = s.therm :=
  (joinQueue_frame b c s).2.2.2.2.2.2.2.1
@[simp] theorem joinQueue_cool (b : Bay) (c : QueueClass) (s : State) : (joinQueue b c s).cool = s.cool :=
  (joinQueue_frame b c s).2.2.2.2.2.2.2.2.1
@[simp] theorem joinQueue_light (b : Bay) (c : QueueClass) (s : State) : (joinQueue b c s).light = s.light :=
  (joinQueue_frame b c s).2.2.2.2.2.2.2.2.2.1
@[simp] theorem joinQueue_mgmt (b : Bay) (c : QueueClass) (s : State) : (joinQueue b c s).mgmt = s.mgmt :=
  (joinQueue_frame b c s).2.2.2.2.2.2.2.2.2.2.1
@[simp] theorem joinQueue_ev (b : Bay) (c : QueueClass) (s : State) : (joinQueue b c s).ev = s.ev :=
  (joinQueue_frame b c s).2.2.2.2.2.2.2.2.2.2.2.1
@[simp] theorem joinQueue_pending (b : Bay) (c : QueueClass) (s : State) : (joinQueue b c s).pending = s.pending :=
  (joinQueue_frame b c s).2.2.2.2.2.2.2.2.2.2.2.2

/-- `leaveQueue` changes nothing but `power`. -/
theorem leaveQueue_frame (b : Bay) (s : State) :
    (leaveQueue b s).now = s.now ∧ (leaveQueue b s).addrStrap = s.addrStrap ∧
    (leaveQueue b s).budStrap = s.budStrap ∧ (leaveQueue b s).line = s.line ∧ (leaveQueue b s).bays = s.bays ∧
    (leaveQueue b s).fwd = s.fwd ∧ (leaveQueue b s).route = s.route ∧ (leaveQueue b s).therm = s.therm ∧
    (leaveQueue b s).cool = s.cool ∧ (leaveQueue b s).light = s.light ∧ (leaveQueue b s).mgmt = s.mgmt ∧
    (leaveQueue b s).ev = s.ev ∧ (leaveQueue b s).pending = s.pending := by
  simp [leaveQueue]

@[simp] theorem leaveQueue_now (b : Bay) (s : State) : (leaveQueue b s).now = s.now :=
  (leaveQueue_frame b s).1
@[simp] theorem leaveQueue_addrStrap (b : Bay) (s : State) : (leaveQueue b s).addrStrap = s.addrStrap :=
  (leaveQueue_frame b s).2.1
@[simp] theorem leaveQueue_budStrap (b : Bay) (s : State) : (leaveQueue b s).budStrap = s.budStrap :=
  (leaveQueue_frame b s).2.2.1
@[simp] theorem leaveQueue_line (b : Bay) (s : State) : (leaveQueue b s).line = s.line :=
  (leaveQueue_frame b s).2.2.2.1
@[simp] theorem leaveQueue_bays (b : Bay) (s : State) : (leaveQueue b s).bays = s.bays :=
  (leaveQueue_frame b s).2.2.2.2.1
@[simp] theorem leaveQueue_fwd (b : Bay) (s : State) : (leaveQueue b s).fwd = s.fwd :=
  (leaveQueue_frame b s).2.2.2.2.2.1
@[simp] theorem leaveQueue_route (b : Bay) (s : State) : (leaveQueue b s).route = s.route :=
  (leaveQueue_frame b s).2.2.2.2.2.2.1
@[simp] theorem leaveQueue_therm (b : Bay) (s : State) : (leaveQueue b s).therm = s.therm :=
  (leaveQueue_frame b s).2.2.2.2.2.2.2.1
@[simp] theorem leaveQueue_cool (b : Bay) (s : State) : (leaveQueue b s).cool = s.cool :=
  (leaveQueue_frame b s).2.2.2.2.2.2.2.2.1
@[simp] theorem leaveQueue_light (b : Bay) (s : State) : (leaveQueue b s).light = s.light :=
  (leaveQueue_frame b s).2.2.2.2.2.2.2.2.2.1
@[simp] theorem leaveQueue_mgmt (b : Bay) (s : State) : (leaveQueue b s).mgmt = s.mgmt :=
  (leaveQueue_frame b s).2.2.2.2.2.2.2.2.2.2.1
@[simp] theorem leaveQueue_ev (b : Bay) (s : State) : (leaveQueue b s).ev = s.ev :=
  (leaveQueue_frame b s).2.2.2.2.2.2.2.2.2.2.2.1
@[simp] theorem leaveQueue_pending (b : Bay) (s : State) : (leaveQueue b s).pending = s.pending :=
  (leaveQueue_frame b s).2.2.2.2.2.2.2.2.2.2.2.2

/-- `enqueueFresh` changes nothing but `power`, `bays`. -/
theorem enqueueFresh_frame (b : Bay) (c : QueueClass) (s : State) :
    (enqueueFresh b c s).now = s.now ∧ (enqueueFresh b c s).addrStrap = s.addrStrap ∧
    (enqueueFresh b c s).budStrap = s.budStrap ∧ (enqueueFresh b c s).line = s.line ∧
    (enqueueFresh b c s).fwd = s.fwd ∧ (enqueueFresh b c s).route = s.route ∧ (enqueueFresh b c s).therm = s.therm ∧
    (enqueueFresh b c s).cool = s.cool ∧ (enqueueFresh b c s).light = s.light ∧ (enqueueFresh b c s).mgmt = s.mgmt ∧
    (enqueueFresh b c s).ev = s.ev ∧ (enqueueFresh b c s).pending = s.pending := by
  simp [enqueueFresh]

@[simp] theorem enqueueFresh_now (b : Bay) (c : QueueClass) (s : State) : (enqueueFresh b c s).now = s.now :=
  (enqueueFresh_frame b c s).1
@[simp] theorem enqueueFresh_addrStrap (b : Bay) (c : QueueClass) (s : State) :
    (enqueueFresh b c s).addrStrap = s.addrStrap :=
  (enqueueFresh_frame b c s).2.1
@[simp] theorem enqueueFresh_budStrap (b : Bay) (c : QueueClass) (s : State) :
    (enqueueFresh b c s).budStrap = s.budStrap :=
  (enqueueFresh_frame b c s).2.2.1
@[simp] theorem enqueueFresh_line (b : Bay) (c : QueueClass) (s : State) : (enqueueFresh b c s).line = s.line :=
  (enqueueFresh_frame b c s).2.2.2.1
@[simp] theorem enqueueFresh_fwd (b : Bay) (c : QueueClass) (s : State) : (enqueueFresh b c s).fwd = s.fwd :=
  (enqueueFresh_frame b c s).2.2.2.2.1
@[simp] theorem enqueueFresh_route (b : Bay) (c : QueueClass) (s : State) : (enqueueFresh b c s).route = s.route :=
  (enqueueFresh_frame b c s).2.2.2.2.2.1
@[simp] theorem enqueueFresh_therm (b : Bay) (c : QueueClass) (s : State) : (enqueueFresh b c s).therm = s.therm :=
  (enqueueFresh_frame b c s).2.2.2.2.2.2.1
@[simp] theorem enqueueFresh_cool (b : Bay) (c : QueueClass) (s : State) : (enqueueFresh b c s).cool = s.cool :=
  (enqueueFresh_frame b c s).2.2.2.2.2.2.2.1
@[simp] theorem enqueueFresh_light (b : Bay) (c : QueueClass) (s : State) : (enqueueFresh b c s).light = s.light :=
  (enqueueFresh_frame b c s).2.2.2.2.2.2.2.2.1
@[simp] theorem enqueueFresh_mgmt (b : Bay) (c : QueueClass) (s : State) : (enqueueFresh b c s).mgmt = s.mgmt :=
  (enqueueFresh_frame b c s).2.2.2.2.2.2.2.2.2.1
@[simp] theorem enqueueFresh_ev (b : Bay) (c : QueueClass) (s : State) : (enqueueFresh b c s).ev = s.ev :=
  (enqueueFresh_frame b c s).2.2.2.2.2.2.2.2.2.2.1
@[simp] theorem enqueueFresh_pending (b : Bay) (c : QueueClass) (s : State) :
    (enqueueFresh b c s).pending = s.pending :=
  (enqueueFresh_frame b c s).2.2.2.2.2.2.2.2.2.2.2

/-- `admitBay` changes nothing but `power`, `bays`, `ev`. -/
theorem admitBay_frame (b : Bay) (s : State) :
    (admitBay b s).now = s.now ∧ (admitBay b s).addrStrap = s.addrStrap ∧ (admitBay b s).budStrap = s.budStrap ∧
    (admitBay b s).line = s.line ∧ (admitBay b s).fwd = s.fwd ∧ (admitBay b s).route = s.route ∧ (admitBay b s).therm = s.therm ∧
    (admitBay b s).cool = s.cool ∧ (admitBay b s).light = s.light ∧ (admitBay b s).mgmt = s.mgmt ∧
    (admitBay b s).pending = s.pending := by
  unfold admitBay; simp only; split <;> simp

@[simp] theorem admitBay_now (b : Bay) (s : State) : (admitBay b s).now = s.now :=
  (admitBay_frame b s).1
@[simp] theorem admitBay_addrStrap (b : Bay) (s : State) : (admitBay b s).addrStrap = s.addrStrap :=
  (admitBay_frame b s).2.1
@[simp] theorem admitBay_budStrap (b : Bay) (s : State) : (admitBay b s).budStrap = s.budStrap :=
  (admitBay_frame b s).2.2.1
@[simp] theorem admitBay_line (b : Bay) (s : State) : (admitBay b s).line = s.line :=
  (admitBay_frame b s).2.2.2.1
@[simp] theorem admitBay_fwd (b : Bay) (s : State) : (admitBay b s).fwd = s.fwd :=
  (admitBay_frame b s).2.2.2.2.1
@[simp] theorem admitBay_route (b : Bay) (s : State) : (admitBay b s).route = s.route :=
  (admitBay_frame b s).2.2.2.2.2.1
@[simp] theorem admitBay_therm (b : Bay) (s : State) : (admitBay b s).therm = s.therm :=
  (admitBay_frame b s).2.2.2.2.2.2.1
@[simp] theorem admitBay_cool (b : Bay) (s : State) : (admitBay b s).cool = s.cool :=
  (admitBay_frame b s).2.2.2.2.2.2.2.1
@[simp] theorem admitBay_light (b : Bay) (s : State) : (admitBay b s).light = s.light :=
  (admitBay_frame b s).2.2.2.2.2.2.2.2.1
@[simp] theorem admitBay_mgmt (b : Bay) (s : State) : (admitBay b s).mgmt = s.mgmt :=
  (admitBay_frame b s).2.2.2.2.2.2.2.2.2.1
@[simp] theorem admitBay_pending (b : Bay) (s : State) : (admitBay b s).pending = s.pending :=
  (admitBay_frame b s).2.2.2.2.2.2.2.2.2.2

/-- `attemptLoop` changes nothing but `power`, `bays`, `ev`. -/
theorem attemptLoop_frame (n : Nat) (s : State) :
    (attemptLoop n s).now = s.now ∧ (attemptLoop n s).addrStrap = s.addrStrap ∧
    (attemptLoop n s).budStrap = s.budStrap ∧ (attemptLoop n s).line = s.line ∧ (attemptLoop n s).fwd = s.fwd ∧
    (attemptLoop n s).route = s.route ∧ (attemptLoop n s).therm = s.therm ∧ (attemptLoop n s).cool = s.cool ∧
    (attemptLoop n s).light = s.light ∧ (attemptLoop n s).mgmt = s.mgmt ∧ (attemptLoop n s).pending = s.pending := by
  induction n generalizing s with
  | zero => simp [attemptLoop]
  | succ n ih =>
    unfold attemptLoop
    split
    · split
      · simp
      · next b _ => simpa using ih (admitBay b s)
    · simp

@[simp] theorem attemptLoop_now (n : Nat) (s : State) : (attemptLoop n s).now = s.now :=
  (attemptLoop_frame n s).1
@[simp] theorem attemptLoop_addrStrap (n : Nat) (s : State) : (attemptLoop n s).addrStrap = s.addrStrap :=
  (attemptLoop_frame n s).2.1
@[simp] theorem attemptLoop_budStrap (n : Nat) (s : State) : (attemptLoop n s).budStrap = s.budStrap :=
  (attemptLoop_frame n s).2.2.1
@[simp] theorem attemptLoop_line (n : Nat) (s : State) : (attemptLoop n s).line = s.line :=
  (attemptLoop_frame n s).2.2.2.1
@[simp] theorem attemptLoop_fwd (n : Nat) (s : State) : (attemptLoop n s).fwd = s.fwd :=
  (attemptLoop_frame n s).2.2.2.2.1
@[simp] theorem attemptLoop_route (n : Nat) (s : State) : (attemptLoop n s).route = s.route :=
  (attemptLoop_frame n s).2.2.2.2.2.1
@[simp] theorem attemptLoop_therm (n : Nat) (s : State) : (attemptLoop n s).therm = s.therm :=
  (attemptLoop_frame n s).2.2.2.2.2.2.1
@[simp] theorem attemptLoop_cool (n : Nat) (s : State) : (attemptLoop n s).cool = s.cool :=
  (attemptLoop_frame n s).2.2.2.2.2.2.2.1
@[simp] theorem attemptLoop_light (n : Nat) (s : State) : (attemptLoop n s).light = s.light :=
  (attemptLoop_frame n s).2.2.2.2.2.2.2.2.1
@[simp] theorem attemptLoop_mgmt (n : Nat) (s : State) : (attemptLoop n s).mgmt = s.mgmt :=
  (attemptLoop_frame n s).2.2.2.2.2.2.2.2.2.1
@[simp] theorem attemptLoop_pending (n : Nat) (s : State) : (attemptLoop n s).pending = s.pending :=
  (attemptLoop_frame n s).2.2.2.2.2.2.2.2.2.2

/-- `attempt` changes nothing but `power`, `bays`, `ev`. -/
theorem attempt_frame (s : State) :
    (attempt s).now = s.now ∧ (attempt s).addrStrap = s.addrStrap ∧ (attempt s).budStrap = s.budStrap ∧
    (attempt s).line = s.line ∧ (attempt s).fwd = s.fwd ∧ (attempt s).route = s.route ∧ (attempt s).therm = s.therm ∧
    (attempt s).cool = s.cool ∧ (attempt s).light = s.light ∧ (attempt s).mgmt = s.mgmt ∧
    (attempt s).pending = s.pending := by
  simp [attempt]

@[simp] theorem attempt_now (s : State) : (attempt s).now = s.now :=
  (attempt_frame s).1
@[simp] theorem attempt_addrStrap (s : State) : (attempt s).addrStrap = s.addrStrap :=
  (attempt_frame s).2.1
@[simp] theorem attempt_budStrap (s : State) : (attempt s).budStrap = s.budStrap :=
  (attempt_frame s).2.2.1
@[simp] theorem attempt_line (s : State) : (attempt s).line = s.line :=
  (attempt_frame s).2.2.2.1
@[simp] theorem attempt_fwd (s : State) : (attempt s).fwd = s.fwd :=
  (attempt_frame s).2.2.2.2.1
@[simp] theorem attempt_route (s : State) : (attempt s).route = s.route :=
  (attempt_frame s).2.2.2.2.2.1
@[simp] theorem attempt_therm (s : State) : (attempt s).therm = s.therm :=
  (attempt_frame s).2.2.2.2.2.2.1
@[simp] theorem attempt_cool (s : State) : (attempt s).cool = s.cool :=
  (attempt_frame s).2.2.2.2.2.2.2.1
@[simp] theorem attempt_light (s : State) : (attempt s).light = s.light :=
  (attempt_frame s).2.2.2.2.2.2.2.2.1
@[simp] theorem attempt_mgmt (s : State) : (attempt s).mgmt = s.mgmt :=
  (attempt_frame s).2.2.2.2.2.2.2.2.2.1
@[simp] theorem attempt_pending (s : State) : (attempt s).pending = s.pending :=
  (attempt_frame s).2.2.2.2.2.2.2.2.2.2

/-- `attemptIfAsked` changes nothing but `power`, `bays`, `ev`. -/
theorem attemptIfAsked_frame (s : State) :
    (attemptIfAsked s).now = s.now ∧ (attemptIfAsked s).addrStrap = s.addrStrap ∧
    (attemptIfAsked s).budStrap = s.budStrap ∧ (attemptIfAsked s).line = s.line ∧ (attemptIfAsked s).fwd = s.fwd ∧
    (attemptIfAsked s).route = s.route ∧ (attemptIfAsked s).therm = s.therm ∧ (attemptIfAsked s).cool = s.cool ∧
    (attemptIfAsked s).light = s.light ∧ (attemptIfAsked s).mgmt = s.mgmt ∧ (attemptIfAsked s).pending = s.pending := by
  unfold attemptIfAsked; split <;> simp

@[simp] theorem attemptIfAsked_now (s : State) : (attemptIfAsked s).now = s.now :=
  (attemptIfAsked_frame s).1
@[simp] theorem attemptIfAsked_addrStrap (s : State) : (attemptIfAsked s).addrStrap = s.addrStrap :=
  (attemptIfAsked_frame s).2.1
@[simp] theorem attemptIfAsked_budStrap (s : State) : (attemptIfAsked s).budStrap = s.budStrap :=
  (attemptIfAsked_frame s).2.2.1
@[simp] theorem attemptIfAsked_line (s : State) : (attemptIfAsked s).line = s.line :=
  (attemptIfAsked_frame s).2.2.2.1
@[simp] theorem attemptIfAsked_fwd (s : State) : (attemptIfAsked s).fwd = s.fwd :=
  (attemptIfAsked_frame s).2.2.2.2.1
@[simp] theorem attemptIfAsked_route (s : State) : (attemptIfAsked s).route = s.route :=
  (attemptIfAsked_frame s).2.2.2.2.2.1
@[simp] theorem attemptIfAsked_therm (s : State) : (attemptIfAsked s).therm = s.therm :=
  (attemptIfAsked_frame s).2.2.2.2.2.2.1
@[simp] theorem attemptIfAsked_cool (s : State) : (attemptIfAsked s).cool = s.cool :=
  (attemptIfAsked_frame s).2.2.2.2.2.2.2.1
@[simp] theorem attemptIfAsked_light (s : State) : (attemptIfAsked s).light = s.light :=
  (attemptIfAsked_frame s).2.2.2.2.2.2.2.2.1
@[simp] theorem attemptIfAsked_mgmt (s : State) : (attemptIfAsked s).mgmt = s.mgmt :=
  (attemptIfAsked_frame s).2.2.2.2.2.2.2.2.2.1
@[simp] theorem attemptIfAsked_pending (s : State) : (attemptIfAsked s).pending = s.pending :=
  (attemptIfAsked_frame s).2.2.2.2.2.2.2.2.2.2

/-- `seat` changes nothing but `line`, `bays`, `power`, `ev`. -/
theorem seat_frame (b : Bay) (s : State) :
    (seat b s).now = s.now ∧ (seat b s).addrStrap = s.addrStrap ∧ (seat b s).budStrap = s.budStrap ∧
    (seat b s).fwd = s.fwd ∧ (seat b s).route = s.route ∧ (seat b s).therm = s.therm ∧ (seat b s).cool = s.cool ∧
    (seat b s).light = s.light ∧ (seat b s).mgmt = s.mgmt ∧ (seat b s).pending = s.pending := by
  unfold seat; simp only; split <;> simp

@[simp] theorem seat_now (b : Bay) (s : State) : (seat b s).now = s.now :=
  (seat_frame b s).1
@[simp] theorem seat_addrStrap (b : Bay) (s : State) : (seat b s).addrStrap = s.addrStrap :=
  (seat_frame b s).2.1
@[simp] theorem seat_budStrap (b : Bay) (s : State) : (seat b s).budStrap = s.budStrap :=
  (seat_frame b s).2.2.1
@[simp] theorem seat_fwd (b : Bay) (s : State) : (seat b s).fwd = s.fwd :=
  (seat_frame b s).2.2.2.1
@[simp] theorem seat_route (b : Bay) (s : State) : (seat b s).route = s.route :=
  (seat_frame b s).2.2.2.2.1
@[simp] theorem seat_therm (b : Bay) (s : State) : (seat b s).therm = s.therm :=
  (seat_frame b s).2.2.2.2.2.1
@[simp] theorem seat_cool (b : Bay) (s : State) : (seat b s).cool = s.cool :=
  (seat_frame b s).2.2.2.2.2.2.1
@[simp] theorem seat_light (b : Bay) (s : State) : (seat b s).light = s.light :=
  (seat_frame b s).2.2.2.2.2.2.2.1
@[simp] theorem seat_mgmt (b : Bay) (s : State) : (seat b s).mgmt = s.mgmt :=
  (seat_frame b s).2.2.2.2.2.2.2.2.1
@[simp] theorem seat_pending (b : Bay) (s : State) : (seat b s).pending = s.pending :=
  (seat_frame b s).2.2.2.2.2.2.2.2.2

/-- `startSeating` changes nothing but `line`, `bays`, `power`, `ev`. -/
theorem startSeating_frame (b : Bay) (s : State) :
    (startSeating b s).now = s.now ∧ (startSeating b s).addrStrap = s.addrStrap ∧
    (startSeating b s).budStrap = s.budStrap ∧ (startSeating b s).fwd = s.fwd ∧ (startSeating b s).route = s.route ∧
    (startSeating b s).therm = s.therm ∧ (startSeating b s).cool = s.cool ∧ (startSeating b s).light = s.light ∧
    (startSeating b s).mgmt = s.mgmt ∧ (startSeating b s).pending = s.pending := by
  unfold startSeating; simp only; split <;> simp

@[simp] theorem startSeating_now (b : Bay) (s : State) : (startSeating b s).now = s.now :=
  (startSeating_frame b s).1
@[simp] theorem startSeating_addrStrap (b : Bay) (s : State) : (startSeating b s).addrStrap = s.addrStrap :=
  (startSeating_frame b s).2.1
@[simp] theorem startSeating_budStrap (b : Bay) (s : State) : (startSeating b s).budStrap = s.budStrap :=
  (startSeating_frame b s).2.2.1
@[simp] theorem startSeating_fwd (b : Bay) (s : State) : (startSeating b s).fwd = s.fwd :=
  (startSeating_frame b s).2.2.2.1
@[simp] theorem startSeating_route (b : Bay) (s : State) : (startSeating b s).route = s.route :=
  (startSeating_frame b s).2.2.2.2.1
@[simp] theorem startSeating_therm (b : Bay) (s : State) : (startSeating b s).therm = s.therm :=
  (startSeating_frame b s).2.2.2.2.2.1
@[simp] theorem startSeating_cool (b : Bay) (s : State) : (startSeating b s).cool = s.cool :=
  (startSeating_frame b s).2.2.2.2.2.2.1
@[simp] theorem startSeating_light (b : Bay) (s : State) : (startSeating b s).light = s.light :=
  (startSeating_frame b s).2.2.2.2.2.2.2.1
@[simp] theorem startSeating_mgmt (b : Bay) (s : State) : (startSeating b s).mgmt = s.mgmt :=
  (startSeating_frame b s).2.2.2.2.2.2.2.2.1
@[simp] theorem startSeating_pending (b : Bay) (s : State) : (startSeating b s).pending = s.pending :=
  (startSeating_frame b s).2.2.2.2.2.2.2.2.2

/-- `cancelEmptyGroup` changes nothing but `line`. -/
theorem cancelEmptyGroup_frame (s : State) :
    (cancelEmptyGroup s).now = s.now ∧ (cancelEmptyGroup s).addrStrap = s.addrStrap ∧
    (cancelEmptyGroup s).budStrap = s.budStrap ∧ (cancelEmptyGroup s).bays = s.bays ∧
    (cancelEmptyGroup s).power = s.power ∧ (cancelEmptyGroup s).fwd = s.fwd ∧ (cancelEmptyGroup s).route = s.route ∧
    (cancelEmptyGroup s).therm = s.therm ∧ (cancelEmptyGroup s).cool = s.cool ∧
    (cancelEmptyGroup s).light = s.light ∧ (cancelEmptyGroup s).mgmt = s.mgmt ∧ (cancelEmptyGroup s).ev = s.ev ∧
    (cancelEmptyGroup s).pending = s.pending := by
  unfold cancelEmptyGroup; split <;> simp

@[simp] theorem cancelEmptyGroup_now (s : State) : (cancelEmptyGroup s).now = s.now :=
  (cancelEmptyGroup_frame s).1
@[simp] theorem cancelEmptyGroup_addrStrap (s : State) : (cancelEmptyGroup s).addrStrap = s.addrStrap :=
  (cancelEmptyGroup_frame s).2.1
@[simp] theorem cancelEmptyGroup_budStrap (s : State) : (cancelEmptyGroup s).budStrap = s.budStrap :=
  (cancelEmptyGroup_frame s).2.2.1
@[simp] theorem cancelEmptyGroup_bays (s : State) : (cancelEmptyGroup s).bays = s.bays :=
  (cancelEmptyGroup_frame s).2.2.2.1
@[simp] theorem cancelEmptyGroup_power (s : State) : (cancelEmptyGroup s).power = s.power :=
  (cancelEmptyGroup_frame s).2.2.2.2.1
@[simp] theorem cancelEmptyGroup_fwd (s : State) : (cancelEmptyGroup s).fwd = s.fwd :=
  (cancelEmptyGroup_frame s).2.2.2.2.2.1
@[simp] theorem cancelEmptyGroup_route (s : State) : (cancelEmptyGroup s).route = s.route :=
  (cancelEmptyGroup_frame s).2.2.2.2.2.2.1
@[simp] theorem cancelEmptyGroup_therm (s : State) : (cancelEmptyGroup s).therm = s.therm :=
  (cancelEmptyGroup_frame s).2.2.2.2.2.2.2.1
@[simp] theorem cancelEmptyGroup_cool (s : State) : (cancelEmptyGroup s).cool = s.cool :=
  (cancelEmptyGroup_frame s).2.2.2.2.2.2.2.2.1
@[simp] theorem cancelEmptyGroup_light (s : State) : (cancelEmptyGroup s).light = s.light :=
  (cancelEmptyGroup_frame s).2.2.2.2.2.2.2.2.2.1
@[simp] theorem cancelEmptyGroup_mgmt (s : State) : (cancelEmptyGroup s).mgmt = s.mgmt :=
  (cancelEmptyGroup_frame s).2.2.2.2.2.2.2.2.2.2.1
@[simp] theorem cancelEmptyGroup_ev (s : State) : (cancelEmptyGroup s).ev = s.ev :=
  (cancelEmptyGroup_frame s).2.2.2.2.2.2.2.2.2.2.2.1
@[simp] theorem cancelEmptyGroup_pending (s : State) : (cancelEmptyGroup s).pending = s.pending :=
  (cancelEmptyGroup_frame s).2.2.2.2.2.2.2.2.2.2.2.2

/-- `unseat` changes nothing but `line`, `bays`. -/
theorem unseat_frame (b : Bay) (s : State) :
    (unseat b s).now = s.now ∧ (unseat b s).addrStrap = s.addrStrap ∧ (unseat b s).budStrap = s.budStrap ∧
    (unseat b s).power = s.power ∧ (unseat b s).fwd = s.fwd ∧ (unseat b s).route = s.route ∧
    (unseat b s).therm = s.therm ∧ (unseat b s).cool = s.cool ∧ (unseat b s).light = s.light ∧
    (unseat b s).mgmt = s.mgmt ∧ (unseat b s).ev = s.ev ∧ (unseat b s).pending = s.pending := by
  simp [unseat]

@[simp] theorem unseat_now (b : Bay) (s : State) : (unseat b s).now = s.now :=
  (unseat_frame b s).1
@[simp] theorem unseat_addrStrap (b : Bay) (s : State) : (unseat b s).addrStrap = s.addrStrap :=
  (unseat_frame b s).2.1
@[simp] theorem unseat_budStrap (b : Bay) (s : State) : (unseat b s).budStrap = s.budStrap :=
  (unseat_frame b s).2.2.1
@[simp] theorem unseat_power (b : Bay) (s : State) : (unseat b s).power = s.power :=
  (unseat_frame b s).2.2.2.1
@[simp] theorem unseat_fwd (b : Bay) (s : State) : (unseat b s).fwd = s.fwd :=
  (unseat_frame b s).2.2.2.2.1
@[simp] theorem unseat_route (b : Bay) (s : State) : (unseat b s).route = s.route :=
  (unseat_frame b s).2.2.2.2.2.1
@[simp] theorem unseat_therm (b : Bay) (s : State) : (unseat b s).therm = s.therm :=
  (unseat_frame b s).2.2.2.2.2.2.1
@[simp] theorem unseat_cool (b : Bay) (s : State) : (unseat b s).cool = s.cool :=
  (unseat_frame b s).2.2.2.2.2.2.2.1
@[simp] theorem unseat_light (b : Bay) (s : State) : (unseat b s).light = s.light :=
  (unseat_frame b s).2.2.2.2.2.2.2.2.1
@[simp] theorem unseat_mgmt (b : Bay) (s : State) : (unseat b s).mgmt = s.mgmt :=
  (unseat_frame b s).2.2.2.2.2.2.2.2.2.1
@[simp] theorem unseat_ev (b : Bay) (s : State) : (unseat b s).ev = s.ev :=
  (unseat_frame b s).2.2.2.2.2.2.2.2.2.2.1
@[simp] theorem unseat_pending (b : Bay) (s : State) : (unseat b s).pending = s.pending :=
  (unseat_frame b s).2.2.2.2.2.2.2.2.2.2.2

/-- `remove` changes nothing but `bays`, `power`, `ev`, `fwd`, `light`, `therm`, `route`. -/
theorem remove_frame (b : Bay) (s : State) :
    (remove b s).now = s.now ∧ (remove b s).addrStrap = s.addrStrap ∧ (remove b s).budStrap = s.budStrap ∧
    (remove b s).line = s.line ∧ (remove b s).cool = s.cool ∧ (remove b s).mgmt = s.mgmt ∧
    (remove b s).pending = s.pending := by
  unfold remove; simp only; repeat' split
  all_goals simp

@[simp] theorem remove_now (b : Bay) (s : State) : (remove b s).now = s.now :=
  (remove_frame b s).1
@[simp] theorem remove_addrStrap (b : Bay) (s : State) : (remove b s).addrStrap = s.addrStrap :=
  (remove_frame b s).2.1
@[simp] theorem remove_budStrap (b : Bay) (s : State) : (remove b s).budStrap = s.budStrap :=
  (remove_frame b s).2.2.1
@[simp] theorem remove_line (b : Bay) (s : State) : (remove b s).line = s.line :=
  (remove_frame b s).2.2.2.1
@[simp] theorem remove_cool (b : Bay) (s : State) : (remove b s).cool = s.cool :=
  (remove_frame b s).2.2.2.2.1
@[simp] theorem remove_mgmt (b : Bay) (s : State) : (remove b s).mgmt = s.mgmt :=
  (remove_frame b s).2.2.2.2.2.1
@[simp] theorem remove_pending (b : Bay) (s : State) : (remove b s).pending = s.pending :=
  (remove_frame b s).2.2.2.2.2.2

/-- `presenceEdge` changes nothing but `line`, `bays`, `power`, `ev`, `fwd`, `light`, `therm`, `route`. -/
theorem presenceEdge_frame (b : Bay) (s : State) :
    (presenceEdge b s).now = s.now ∧ (presenceEdge b s).addrStrap = s.addrStrap ∧
    (presenceEdge b s).budStrap = s.budStrap ∧ (presenceEdge b s).cool = s.cool ∧ (presenceEdge b s).mgmt = s.mgmt ∧
    (presenceEdge b s).pending = s.pending := by
  unfold presenceEdge; split <;> simp

@[simp] theorem presenceEdge_now (b : Bay) (s : State) : (presenceEdge b s).now = s.now :=
  (presenceEdge_frame b s).1
@[simp] theorem presenceEdge_addrStrap (b : Bay) (s : State) : (presenceEdge b s).addrStrap = s.addrStrap :=
  (presenceEdge_frame b s).2.1
@[simp] theorem presenceEdge_budStrap (b : Bay) (s : State) : (presenceEdge b s).budStrap = s.budStrap :=
  (presenceEdge_frame b s).2.2.1
@[simp] theorem presenceEdge_cool (b : Bay) (s : State) : (presenceEdge b s).cool = s.cool :=
  (presenceEdge_frame b s).2.2.2.1
@[simp] theorem presenceEdge_mgmt (b : Bay) (s : State) : (presenceEdge b s).mgmt = s.mgmt :=
  (presenceEdge_frame b s).2.2.2.2.1
@[simp] theorem presenceEdge_pending (b : Bay) (s : State) : (presenceEdge b s).pending = s.pending :=
  (presenceEdge_frame b s).2.2.2.2.2

/-- `judgePresence` changes nothing but `line`, `bays`, `power`, `ev`, `fwd`, `light`, `therm`, `route`. -/
theorem judgePresence_frame (b : Bay) (s : State) :
    (judgePresence b s).now = s.now ∧ (judgePresence b s).addrStrap = s.addrStrap ∧
    (judgePresence b s).budStrap = s.budStrap ∧ (judgePresence b s).cool = s.cool ∧
    (judgePresence b s).mgmt = s.mgmt ∧ (judgePresence b s).pending = s.pending := by
  unfold judgePresence; simp only; split <;> simp

@[simp] theorem judgePresence_now (b : Bay) (s : State) : (judgePresence b s).now = s.now :=
  (judgePresence_frame b s).1
@[simp] theorem judgePresence_addrStrap (b : Bay) (s : State) : (judgePresence b s).addrStrap = s.addrStrap :=
  (judgePresence_frame b s).2.1
@[simp] theorem judgePresence_budStrap (b : Bay) (s : State) : (judgePresence b s).budStrap = s.budStrap :=
  (judgePresence_frame b s).2.2.1
@[simp] theorem judgePresence_cool (b : Bay) (s : State) : (judgePresence b s).cool = s.cool :=
  (judgePresence_frame b s).2.2.2.1
@[simp] theorem judgePresence_mgmt (b : Bay) (s : State) : (judgePresence b s).mgmt = s.mgmt :=
  (judgePresence_frame b s).2.2.2.2.1
@[simp] theorem judgePresence_pending (b : Bay) (s : State) : (judgePresence b s).pending = s.pending :=
  (judgePresence_frame b s).2.2.2.2.2

/-- `refreshBlocks` changes nothing but `power`. -/
theorem refreshBlocks_frame (s : State) :
    (refreshBlocks s).now = s.now ∧ (refreshBlocks s).addrStrap = s.addrStrap ∧
    (refreshBlocks s).budStrap = s.budStrap ∧ (refreshBlocks s).line = s.line ∧ (refreshBlocks s).bays = s.bays ∧
    (refreshBlocks s).fwd = s.fwd ∧ (refreshBlocks s).route = s.route ∧ (refreshBlocks s).therm = s.therm ∧
    (refreshBlocks s).cool = s.cool ∧ (refreshBlocks s).light = s.light ∧ (refreshBlocks s).mgmt = s.mgmt ∧
    (refreshBlocks s).ev = s.ev ∧ (refreshBlocks s).pending = s.pending := by
  unfold refreshBlocks; simp only; split <;> simp

@[simp] theorem refreshBlocks_now (s : State) : (refreshBlocks s).now = s.now :=
  (refreshBlocks_frame s).1
@[simp] theorem refreshBlocks_addrStrap (s : State) : (refreshBlocks s).addrStrap = s.addrStrap :=
  (refreshBlocks_frame s).2.1
@[simp] theorem refreshBlocks_budStrap (s : State) : (refreshBlocks s).budStrap = s.budStrap :=
  (refreshBlocks_frame s).2.2.1
@[simp] theorem refreshBlocks_line (s : State) : (refreshBlocks s).line = s.line :=
  (refreshBlocks_frame s).2.2.2.1
@[simp] theorem refreshBlocks_bays (s : State) : (refreshBlocks s).bays = s.bays :=
  (refreshBlocks_frame s).2.2.2.2.1
@[simp] theorem refreshBlocks_fwd (s : State) : (refreshBlocks s).fwd = s.fwd :=
  (refreshBlocks_frame s).2.2.2.2.2.1
@[simp] theorem refreshBlocks_route (s : State) : (refreshBlocks s).route = s.route :=
  (refreshBlocks_frame s).2.2.2.2.2.2.1
@[simp] theorem refreshBlocks_therm (s : State) : (refreshBlocks s).therm = s.therm :=
  (refreshBlocks_frame s).2.2.2.2.2.2.2.1
@[simp] theorem refreshBlocks_cool (s : State) : (refreshBlocks s).cool = s.cool :=
  (refreshBlocks_frame s).2.2.2.2.2.2.2.2.1
@[simp] theorem refreshBlocks_light (s : State) : (refreshBlocks s).light = s.light :=
  (refreshBlocks_frame s).2.2.2.2.2.2.2.2.2.1
@[simp] theorem refreshBlocks_mgmt (s : State) : (refreshBlocks s).mgmt = s.mgmt :=
  (refreshBlocks_frame s).2.2.2.2.2.2.2.2.2.2.1
@[simp] theorem refreshBlocks_ev (s : State) : (refreshBlocks s).ev = s.ev :=
  (refreshBlocks_frame s).2.2.2.2.2.2.2.2.2.2.2.1
@[simp] theorem refreshBlocks_pending (s : State) : (refreshBlocks s).pending = s.pending :=
  (refreshBlocks_frame s).2.2.2.2.2.2.2.2.2.2.2.2

/-- `releaseLoop` changes nothing but `ev`, `fwd`. -/
theorem releaseLoop_frame (n : Nat) (p : UpPort) (s : State) :
    (releaseLoop n p s).now = s.now ∧ (releaseLoop n p s).addrStrap = s.addrStrap ∧
    (releaseLoop n p s).budStrap = s.budStrap ∧ (releaseLoop n p s).line = s.line ∧
    (releaseLoop n p s).bays = s.bays ∧ (releaseLoop n p s).power = s.power ∧ (releaseLoop n p s).route = s.route ∧
    (releaseLoop n p s).therm = s.therm ∧ (releaseLoop n p s).cool = s.cool ∧ (releaseLoop n p s).light = s.light ∧
    (releaseLoop n p s).mgmt = s.mgmt ∧ (releaseLoop n p s).pending = s.pending := by
  induction n generalizing s with
  | zero => simp [releaseLoop]
  | succ n ih =>
    unfold releaseLoop
    split
    · next x rest l _ _ =>
      split
      · simpa using ih (pushPriority p ⟨noticeFrame
          (switchAddr { s with ev := { s.ev with notices := put s.ev.notices (upIdx p) rest } }) l.addr x, .built⟩
          { s with ev := { s.ev with notices := put s.ev.notices (upIdx p) rest } })
      · simp
    · simp

@[simp] theorem releaseLoop_now (n : Nat) (p : UpPort) (s : State) : (releaseLoop n p s).now = s.now :=
  (releaseLoop_frame n p s).1
@[simp] theorem releaseLoop_addrStrap (n : Nat) (p : UpPort) (s : State) :
    (releaseLoop n p s).addrStrap = s.addrStrap :=
  (releaseLoop_frame n p s).2.1
@[simp] theorem releaseLoop_budStrap (n : Nat) (p : UpPort) (s : State) : (releaseLoop n p s).budStrap = s.budStrap :=
  (releaseLoop_frame n p s).2.2.1
@[simp] theorem releaseLoop_line (n : Nat) (p : UpPort) (s : State) : (releaseLoop n p s).line = s.line :=
  (releaseLoop_frame n p s).2.2.2.1
@[simp] theorem releaseLoop_bays (n : Nat) (p : UpPort) (s : State) : (releaseLoop n p s).bays = s.bays :=
  (releaseLoop_frame n p s).2.2.2.2.1
@[simp] theorem releaseLoop_power (n : Nat) (p : UpPort) (s : State) : (releaseLoop n p s).power = s.power :=
  (releaseLoop_frame n p s).2.2.2.2.2.1
@[simp] theorem releaseLoop_route (n : Nat) (p : UpPort) (s : State) : (releaseLoop n p s).route = s.route :=
  (releaseLoop_frame n p s).2.2.2.2.2.2.1
@[simp] theorem releaseLoop_therm (n : Nat) (p : UpPort) (s : State) : (releaseLoop n p s).therm = s.therm :=
  (releaseLoop_frame n p s).2.2.2.2.2.2.2.1
@[simp] theorem releaseLoop_cool (n : Nat) (p : UpPort) (s : State) : (releaseLoop n p s).cool = s.cool :=
  (releaseLoop_frame n p s).2.2.2.2.2.2.2.2.1
@[simp] theorem releaseLoop_light (n : Nat) (p : UpPort) (s : State) : (releaseLoop n p s).light = s.light :=
  (releaseLoop_frame n p s).2.2.2.2.2.2.2.2.2.1
@[simp] theorem releaseLoop_mgmt (n : Nat) (p : UpPort) (s : State) : (releaseLoop n p s).mgmt = s.mgmt :=
  (releaseLoop_frame n p s).2.2.2.2.2.2.2.2.2.2.1
@[simp] theorem releaseLoop_pending (n : Nat) (p : UpPort) (s : State) : (releaseLoop n p s).pending = s.pending :=
  (releaseLoop_frame n p s).2.2.2.2.2.2.2.2.2.2.2

/-- `release` changes nothing but `ev`, `fwd`. -/
theorem release_frame (p : UpPort) (s : State) :
    (release p s).now = s.now ∧ (release p s).addrStrap = s.addrStrap ∧ (release p s).budStrap = s.budStrap ∧
    (release p s).line = s.line ∧ (release p s).bays = s.bays ∧ (release p s).power = s.power ∧
    (release p s).route = s.route ∧ (release p s).therm = s.therm ∧ (release p s).cool = s.cool ∧
    (release p s).light = s.light ∧ (release p s).mgmt = s.mgmt ∧ (release p s).pending = s.pending := by
  simp [release]

@[simp] theorem release_now (p : UpPort) (s : State) : (release p s).now = s.now :=
  (release_frame p s).1
@[simp] theorem release_addrStrap (p : UpPort) (s : State) : (release p s).addrStrap = s.addrStrap :=
  (release_frame p s).2.1
@[simp] theorem release_budStrap (p : UpPort) (s : State) : (release p s).budStrap = s.budStrap :=
  (release_frame p s).2.2.1
@[simp] theorem release_line (p : UpPort) (s : State) : (release p s).line = s.line :=
  (release_frame p s).2.2.2.1
@[simp] theorem release_bays (p : UpPort) (s : State) : (release p s).bays = s.bays :=
  (release_frame p s).2.2.2.2.1
@[simp] theorem release_power (p : UpPort) (s : State) : (release p s).power = s.power :=
  (release_frame p s).2.2.2.2.2.1
@[simp] theorem release_route (p : UpPort) (s : State) : (release p s).route = s.route :=
  (release_frame p s).2.2.2.2.2.2.1
@[simp] theorem release_therm (p : UpPort) (s : State) : (release p s).therm = s.therm :=
  (release_frame p s).2.2.2.2.2.2.2.1
@[simp] theorem release_cool (p : UpPort) (s : State) : (release p s).cool = s.cool :=
  (release_frame p s).2.2.2.2.2.2.2.2.1
@[simp] theorem release_light (p : UpPort) (s : State) : (release p s).light = s.light :=
  (release_frame p s).2.2.2.2.2.2.2.2.2.1
@[simp] theorem release_mgmt (p : UpPort) (s : State) : (release p s).mgmt = s.mgmt :=
  (release_frame p s).2.2.2.2.2.2.2.2.2.2.1
@[simp] theorem release_pending (p : UpPort) (s : State) : (release p s).pending = s.pending :=
  (release_frame p s).2.2.2.2.2.2.2.2.2.2.2

/-- `settle` changes nothing but `therm`, `power`, `bays`, `ev`, `fwd`, `line`, `light`. -/
theorem settle_frame (s : State) :
    (settle s).now = s.now ∧ (settle s).addrStrap = s.addrStrap ∧ (settle s).budStrap = s.budStrap ∧
    (settle s).route = s.route ∧ (settle s).cool = s.cool ∧ (settle s).mgmt = s.mgmt ∧ (settle s).pending = s.pending := by
  simp [settle]

@[simp] theorem settle_now (s : State) : (settle s).now = s.now :=
  (settle_frame s).1
@[simp] theorem settle_addrStrap (s : State) : (settle s).addrStrap = s.addrStrap :=
  (settle_frame s).2.1
@[simp] theorem settle_budStrap (s : State) : (settle s).budStrap = s.budStrap :=
  (settle_frame s).2.2.1
@[simp] theorem settle_route (s : State) : (settle s).route = s.route :=
  (settle_frame s).2.2.2.1
@[simp] theorem settle_cool (s : State) : (settle s).cool = s.cool :=
  (settle_frame s).2.2.2.2.1
@[simp] theorem settle_mgmt (s : State) : (settle s).mgmt = s.mgmt :=
  (settle_frame s).2.2.2.2.2.1
@[simp] theorem settle_pending (s : State) : (settle s).pending = s.pending :=
  (settle_frame s).2.2.2.2.2.2

/-- `finish` changes nothing but `ev`, `fwd`, `line`, `light`. -/
theorem finish_frame (s : State) :
    (finish s).now = s.now ∧ (finish s).addrStrap = s.addrStrap ∧ (finish s).budStrap = s.budStrap ∧
    (finish s).bays = s.bays ∧ (finish s).power = s.power ∧ (finish s).route = s.route ∧ (finish s).therm = s.therm ∧
    (finish s).cool = s.cool ∧ (finish s).mgmt = s.mgmt ∧ (finish s).pending = s.pending := by
  simp [finish]

@[simp] theorem finish_now (s : State) : (finish s).now = s.now :=
  (finish_frame s).1
@[simp] theorem finish_addrStrap (s : State) : (finish s).addrStrap = s.addrStrap :=
  (finish_frame s).2.1
@[simp] theorem finish_budStrap (s : State) : (finish s).budStrap = s.budStrap :=
  (finish_frame s).2.2.1
@[simp] theorem finish_bays (s : State) : (finish s).bays = s.bays :=
  (finish_frame s).2.2.2.1
@[simp] theorem finish_power (s : State) : (finish s).power = s.power :=
  (finish_frame s).2.2.2.2.1
@[simp] theorem finish_route (s : State) : (finish s).route = s.route :=
  (finish_frame s).2.2.2.2.2.1
@[simp] theorem finish_therm (s : State) : (finish s).therm = s.therm :=
  (finish_frame s).2.2.2.2.2.2.1
@[simp] theorem finish_cool (s : State) : (finish s).cool = s.cool :=
  (finish_frame s).2.2.2.2.2.2.2.1
@[simp] theorem finish_mgmt (s : State) : (finish s).mgmt = s.mgmt :=
  (finish_frame s).2.2.2.2.2.2.2.2.1
@[simp] theorem finish_pending (s : State) : (finish s).pending = s.pending :=
  (finish_frame s).2.2.2.2.2.2.2.2.2

/-- `offerResponse` changes nothing but `fwd`, `mgmt`. -/
theorem offerResponse_frame (p : UpPort) (h : Held) (s : State) :
    (offerResponse p h s).now = s.now ∧ (offerResponse p h s).addrStrap = s.addrStrap ∧
    (offerResponse p h s).budStrap = s.budStrap ∧ (offerResponse p h s).line = s.line ∧
    (offerResponse p h s).bays = s.bays ∧ (offerResponse p h s).power = s.power ∧
    (offerResponse p h s).route = s.route ∧ (offerResponse p h s).therm = s.therm ∧
    (offerResponse p h s).cool = s.cool ∧ (offerResponse p h s).light = s.light ∧ (offerResponse p h s).ev = s.ev ∧
    (offerResponse p h s).pending = s.pending := by
  unfold offerResponse; split <;> simp

@[simp] theorem offerResponse_now (p : UpPort) (h : Held) (s : State) : (offerResponse p h s).now = s.now :=
  (offerResponse_frame p h s).1
@[simp] theorem offerResponse_addrStrap (p : UpPort) (h : Held) (s : State) :
    (offerResponse p h s).addrStrap = s.addrStrap :=
  (offerResponse_frame p h s).2.1
@[simp] theorem offerResponse_budStrap (p : UpPort) (h : Held) (s : State) :
    (offerResponse p h s).budStrap = s.budStrap :=
  (offerResponse_frame p h s).2.2.1
@[simp] theorem offerResponse_line (p : UpPort) (h : Held) (s : State) : (offerResponse p h s).line = s.line :=
  (offerResponse_frame p h s).2.2.2.1
@[simp] theorem offerResponse_bays (p : UpPort) (h : Held) (s : State) : (offerResponse p h s).bays = s.bays :=
  (offerResponse_frame p h s).2.2.2.2.1
@[simp] theorem offerResponse_power (p : UpPort) (h : Held) (s : State) : (offerResponse p h s).power = s.power :=
  (offerResponse_frame p h s).2.2.2.2.2.1
@[simp] theorem offerResponse_route (p : UpPort) (h : Held) (s : State) : (offerResponse p h s).route = s.route :=
  (offerResponse_frame p h s).2.2.2.2.2.2.1
@[simp] theorem offerResponse_therm (p : UpPort) (h : Held) (s : State) : (offerResponse p h s).therm = s.therm :=
  (offerResponse_frame p h s).2.2.2.2.2.2.2.1
@[simp] theorem offerResponse_cool (p : UpPort) (h : Held) (s : State) : (offerResponse p h s).cool = s.cool :=
  (offerResponse_frame p h s).2.2.2.2.2.2.2.2.1
@[simp] theorem offerResponse_light (p : UpPort) (h : Held) (s : State) : (offerResponse p h s).light = s.light :=
  (offerResponse_frame p h s).2.2.2.2.2.2.2.2.2.1
@[simp] theorem offerResponse_ev (p : UpPort) (h : Held) (s : State) : (offerResponse p h s).ev = s.ev :=
  (offerResponse_frame p h s).2.2.2.2.2.2.2.2.2.2.1
@[simp] theorem offerResponse_pending (p : UpPort) (h : Held) (s : State) :
    (offerResponse p h s).pending = s.pending :=
  (offerResponse_frame p h s).2.2.2.2.2.2.2.2.2.2.2

/-- `respond` changes nothing but `ev`, `fwd`, `mgmt`. -/
theorem respond_frame (p : UpPort) (req : Frame) (r : Reply) (s : State) :
    (respond p req (s, r)).now = s.now ∧ (respond p req (s, r)).addrStrap = s.addrStrap ∧
    (respond p req (s, r)).budStrap = s.budStrap ∧ (respond p req (s, r)).line = s.line ∧
    (respond p req (s, r)).bays = s.bays ∧ (respond p req (s, r)).power = s.power ∧
    (respond p req (s, r)).route = s.route ∧ (respond p req (s, r)).therm = s.therm ∧
    (respond p req (s, r)).cool = s.cool ∧ (respond p req (s, r)).light = s.light ∧
    (respond p req (s, r)).pending = s.pending := by
  unfold respond; simp only; split <;> simp

@[simp] theorem respond_now (p : UpPort) (req : Frame) (r : Reply) (s : State) : (respond p req (s, r)).now = s.now :=
  (respond_frame p req r s).1
@[simp] theorem respond_addrStrap (p : UpPort) (req : Frame) (r : Reply) (s : State) :
    (respond p req (s, r)).addrStrap = s.addrStrap :=
  (respond_frame p req r s).2.1
@[simp] theorem respond_budStrap (p : UpPort) (req : Frame) (r : Reply) (s : State) :
    (respond p req (s, r)).budStrap = s.budStrap :=
  (respond_frame p req r s).2.2.1
@[simp] theorem respond_line (p : UpPort) (req : Frame) (r : Reply) (s : State) :
    (respond p req (s, r)).line = s.line :=
  (respond_frame p req r s).2.2.2.1
@[simp] theorem respond_bays (p : UpPort) (req : Frame) (r : Reply) (s : State) :
    (respond p req (s, r)).bays = s.bays :=
  (respond_frame p req r s).2.2.2.2.1
@[simp] theorem respond_power (p : UpPort) (req : Frame) (r : Reply) (s : State) :
    (respond p req (s, r)).power = s.power :=
  (respond_frame p req r s).2.2.2.2.2.1
@[simp] theorem respond_route (p : UpPort) (req : Frame) (r : Reply) (s : State) :
    (respond p req (s, r)).route = s.route :=
  (respond_frame p req r s).2.2.2.2.2.2.1
@[simp] theorem respond_therm (p : UpPort) (req : Frame) (r : Reply) (s : State) :
    (respond p req (s, r)).therm = s.therm :=
  (respond_frame p req r s).2.2.2.2.2.2.2.1
@[simp] theorem respond_cool (p : UpPort) (req : Frame) (r : Reply) (s : State) :
    (respond p req (s, r)).cool = s.cool :=
  (respond_frame p req r s).2.2.2.2.2.2.2.2.1
@[simp] theorem respond_light (p : UpPort) (req : Frame) (r : Reply) (s : State) :
    (respond p req (s, r)).light = s.light :=
  (respond_frame p req r s).2.2.2.2.2.2.2.2.2.1
@[simp] theorem respond_pending (p : UpPort) (req : Frame) (r : Reply) (s : State) :
    (respond p req (s, r)).pending = s.pending :=
  (respond_frame p req r s).2.2.2.2.2.2.2.2.2.2

/-- `answered` changes nothing but `fwd`, `mgmt`. -/
theorem answered_frame (p : UpPort) (req : Frame) (r : Result) (data : List Word) (s : State) :
    (answered p req r data s).now = s.now ∧ (answered p req r data s).addrStrap = s.addrStrap ∧
    (answered p req r data s).budStrap = s.budStrap ∧ (answered p req r data s).line = s.line ∧
    (answered p req r data s).bays = s.bays ∧ (answered p req r data s).power = s.power ∧
    (answered p req r data s).route = s.route ∧ (answered p req r data s).therm = s.therm ∧
    (answered p req r data s).cool = s.cool ∧ (answered p req r data s).light = s.light ∧
    (answered p req r data s).ev = s.ev ∧ (answered p req r data s).pending = s.pending := by
  simp [answered]

@[simp] theorem answered_now (p : UpPort) (req : Frame) (r : Result) (data : List Word) (s : State) :
    (answered p req r data s).now = s.now :=
  (answered_frame p req r data s).1
@[simp] theorem answered_addrStrap (p : UpPort) (req : Frame) (r : Result) (data : List Word) (s : State) :
    (answered p req r data s).addrStrap = s.addrStrap :=
  (answered_frame p req r data s).2.1
@[simp] theorem answered_budStrap (p : UpPort) (req : Frame) (r : Result) (data : List Word) (s : State) :
    (answered p req r data s).budStrap = s.budStrap :=
  (answered_frame p req r data s).2.2.1
@[simp] theorem answered_line (p : UpPort) (req : Frame) (r : Result) (data : List Word) (s : State) :
    (answered p req r data s).line = s.line :=
  (answered_frame p req r data s).2.2.2.1
@[simp] theorem answered_bays (p : UpPort) (req : Frame) (r : Result) (data : List Word) (s : State) :
    (answered p req r data s).bays = s.bays :=
  (answered_frame p req r data s).2.2.2.2.1
@[simp] theorem answered_power (p : UpPort) (req : Frame) (r : Result) (data : List Word) (s : State) :
    (answered p req r data s).power = s.power :=
  (answered_frame p req r data s).2.2.2.2.2.1
@[simp] theorem answered_route (p : UpPort) (req : Frame) (r : Result) (data : List Word) (s : State) :
    (answered p req r data s).route = s.route :=
  (answered_frame p req r data s).2.2.2.2.2.2.1
@[simp] theorem answered_therm (p : UpPort) (req : Frame) (r : Result) (data : List Word) (s : State) :
    (answered p req r data s).therm = s.therm :=
  (answered_frame p req r data s).2.2.2.2.2.2.2.1
@[simp] theorem answered_cool (p : UpPort) (req : Frame) (r : Result) (data : List Word) (s : State) :
    (answered p req r data s).cool = s.cool :=
  (answered_frame p req r data s).2.2.2.2.2.2.2.2.1
@[simp] theorem answered_light (p : UpPort) (req : Frame) (r : Result) (data : List Word) (s : State) :
    (answered p req r data s).light = s.light :=
  (answered_frame p req r data s).2.2.2.2.2.2.2.2.2.1
@[simp] theorem answered_ev (p : UpPort) (req : Frame) (r : Result) (data : List Word) (s : State) :
    (answered p req r data s).ev = s.ev :=
  (answered_frame p req r data s).2.2.2.2.2.2.2.2.2.2.1
@[simp] theorem answered_pending (p : UpPort) (req : Frame) (r : Result) (data : List Word) (s : State) :
    (answered p req r data s).pending = s.pending :=
  (answered_frame p req r data s).2.2.2.2.2.2.2.2.2.2.2

end Sys2Proof.Machine
end

