-- ==== Sys2Proof/Laws/Rest.lean ====
section
/-!
SUPPORT. Laws/Rest.lean: what a step ends with: when the end of a step (settle) does nothing, and when it only drives the
lines and the pins; how a request is found and answered.
-/
namespace Sys2Proof.Machine

/-! ### Notices -/

theorem releasable_iff (p : UpPort) (s : State) :
    releasable p s = true ↔ s.ev.notices[upIdx p] ≠ [] ∧ (s.route.learned[portIdx (.up p)]).isSome = true ∧
      priorityRoom p s = true ∧ holdsFor p s = false := by
  simp [releasable, and_assoc]

/-- A port with nothing to release is left as it is. -/
theorem releaseLoop_of_not_releasable (n : Nat) (p : UpPort) (s : State) (h : releasable p s = false) :
    releaseLoop n p s = s := by
  cases n with
  | zero => rfl
  | succ n =>
    unfold releaseLoop
    split
    · next x rest l hn hl =>
      split
      · next hc =>
        rw [Bool.and_eq_true] at hc
        have : releasable p s = true := (releasable_iff p s).2 ⟨by simp [hn], by simp [hl], hc.1, by simpa using hc.2⟩
        simp [this] at h
      · rfl
    · rfl

theorem release_of_not_releasable (p : UpPort) (s : State) (h : releasable p s = false) : release p s = s :=
  releaseLoop_of_not_releasable _ p s h

theorem finish_of_released (s : State) (h : NoticesReleased s) : finish s = drivePins (driveAlert s) := by
  unfold finish
  rw [release_of_not_releasable .u0 s (h .u0), release_of_not_releasable .u1 s (h .u1)]

/-! ### The end of a step -/

/-- The reports are taken already: the snooper's and the power admission unit's ends of a step change nothing. -/
theorem refreshBlocks_of_eq (s : State) (h : blocksNow s = s.power.blocked) : refreshBlocks s = s := by
  unfold refreshBlocks
  simp only [h]
  have : ([(0 : Zone), 1, 2, 3].any fun z => s.power.blocked[z] && !s.power.blocked[z]) = false := by simp
  rw [this]
  simp

theorem attemptIfAsked_of_not_asked (s : State) (h : s.power.attemptAsked = false) : attemptIfAsked s = s := by
  simp [attemptIfAsked, h]

/-- With the reports taken and no attempt owed, a step ends by releasing notices and driving the lines. -/
theorem settle_eq_finish (s : State) (hot : refreshHot s = s) (blocks : blocksNow s = s.power.blocked)
    (asked : s.power.attemptAsked = false) : settle s = finish s := by
  unfold settle finish
  rw [hot, refreshBlocks_of_eq s blocks, attemptIfAsked_of_not_asked s asked]

/-- With the reports taken and an attempt owed, the attempt comes first. -/
theorem settle_eq_finish_attempt (s : State) (hot : refreshHot s = s) (blocks : blocksNow s = s.power.blocked)
    (asked : s.power.attemptAsked = true) :
    settle s = finish (attempt { s with power := { s.power with attemptAsked := false } }) := by
  unfold settle finish
  rw [hot, refreshBlocks_of_eq s blocks, attemptIfAsked, if_pos asked]

/-- Nothing happens at the end of a step that leaves the part at rest. -/
theorem settle_of_atRest (s : State) (h : AtRest s) : settle s = s := by
  rw [settle_eq_finish s h.hot h.blocks h.asked, finish_of_released s h.notices, h.alert, h.pins]

theorem refreshHot_eq_self_iff (s : State) : refreshHot s = s ↔ tab (zoneHot s) = s.therm.hot := by
  constructor
  · intro h
    have := congrArg (fun x : State => x.therm.hot) h
    simpa [refreshHot] using this
  · intro h
    unfold refreshHot
    rw [h]

theorem driveAlert_eq_self_iff (s : State) : driveAlert s = s ↔ alertCondition s = s.ev.alert := by
  constructor
  · intro h
    have := congrArg (fun x : State => x.ev.alert) h
    simpa [driveAlert] using this
  · intro h
    unfold driveAlert
    rw [h]

/-! ### Requests -/

/-- A request that stands at the front is served: its row takes it, computes the reply, and the step ends. -/
theorem serveCode_of_serves {code : BitVec 16} {n : Nat} {p : UpPort} {req : Frame} {s : State}
    (body : UpPort → Frame → State → State × Reply) (h : Serves code n p req s) :
    serveCode code n body s = .next (settle (respond p req (body p req (takeRequest p s)))) := by
  unfold serveCode serveIf
  have hl : ¬ req.words < 1 + n := Nat.not_lt.2 h.length
  simp [h.next, h.code, hl]

/-- A reading request reports, and nothing else. -/
theorem serveRead_of_serves {code : BitVec 16} {n : Nat} {p : UpPort} {req : Frame} {s : State}
    (report : UpPort → Frame → State → Reply) (h : Serves code n p req s) :
    serveRead code n report s =
      .next (settle (respond p req (takeRequest p s, report p req (takeRequest p s)))) :=
  serveCode_of_serves _ h

/-- Without a notice to release, the response is what a serving offers. -/
theorem respond_of_not_releasable (p : UpPort) (req : Frame) (s : State) (r : Reply) (h : releasable p s = false) :
    respond p req (s, r) = answered p req r.result r.data s := by
  simp [respond, h, answered]

theorem nextPort_pushRequest (p : UpPort) (f : Frame) (s : State) (h : s.mgmt.requests = tab fun _ => []) :
    nextPort (pushRequest p f s) = some p := by
  cases p <;> simp [nextPort, pushRequest, h, upd, tab, upIdx]

/-- A READY endpoint with empty queues serves the request that is put in one. -/
theorem nextRequest_withRequest (s : State) (p : UpPort) (tag : Tag) (src : Addr) (code : BitVec 16) (args : List Word)
    (hr : ready s = true) (hq : s.mgmt.requests = tab fun _ => []) :
    nextRequest (s.withRequest p tag src code args) = some (p, requestFrame tag src (switchAddr s) code args) := by
  have h1 : ready (pushRequest p (requestFrame tag src (switchAddr s) code args) s) = true := by
    simpa [ready, pushRequest] using hr
  unfold State.withRequest nextRequest
  rw [if_pos h1, nextPort_pushRequest p _ s hq]
  cases p <;> simp [pushRequest, hq, upd, tab, upIdx]

@[simp] theorem wordsBytes_length (ws : List Word) : (wordsBytes ws).length = 4 * ws.length := by
  induction ws with
  | nil => rfl
  | cons w ws ih => simp [wordsBytes, wordBytes, ih]; omega

theorem requestFrame_words (tag : Tag) (src switch : Addr) (code : BitVec 16) (args : List Word) :
    (requestFrame tag src switch code args).words = 1 + args.length := by
  simp [Frame.words, requestFrame, halfBytes]; omega

/-- The two bytes of a half word, put together again. -/
theorem halfBytes_join (h : BitVec 16) : h.extractLsb' 8 8 ++ h.extractLsb' 0 8 = h := by
  refine BitVec.eq_of_getLsbD_eq fun i hi => ?_
  rw [BitVec.getLsbD_append, BitVec.getLsbD_extractLsb', BitVec.getLsbD_extractLsb']
  by_cases h8 : i < 8
  · simp [h8]
  · have : i - 8 < 8 := by omega
    have e : 8 + (i - 8) = i := by omega
    simp [h8, this, e]

theorem requestFrame_code (tag : Tag) (src switch : Addr) (code : BitVec 16) (args : List Word) :
    requestCode (requestFrame tag src switch code args) = code := by
  unfold requestCode
  rw [requestFrame_words, if_neg (by omega)]
  simpa [requestFrame, halfBytes, byteAt] using halfBytes_join code

/-- A request put at a READY endpoint with empty queues is the one that is served. -/
theorem serves_withRequest (s : State) (p : UpPort) (tag : Tag) (src : Addr) (code : BitVec 16) (args : List Word)
    (hr : ready s = true) (hq : s.mgmt.requests = tab fun _ => []) (n : Nat) (hn : n ≤ args.length) :
    Serves code n p (requestFrame tag src (switchAddr s) code args) (s.withRequest p tag src code args) where
  next := nextRequest_withRequest s p tag src code args hr hq
  code := requestFrame_code tag src (switchAddr s) code args
  length := by rw [requestFrame_words]; omega

/-! ### A waiting request leaves the part at rest -/

theorem drivePins_pushRequest (p : UpPort) (f : Frame) (s : State) :
    drivePins (pushRequest p f s) = pushRequest p f (drivePins s) := rfl

/-- A request that joins its queue leaves nothing to do for the step it joins in. -/
theorem atRest_pushRequest (p : UpPort) (f : Frame) (s : State) (h : AtRest s) : AtRest (pushRequest p f s) where
  hot := (refreshHot_eq_self_iff _).2 ((refreshHot_eq_self_iff s).1 h.hot)
  blocks := h.blocks
  asked := h.asked
  notices := h.notices
  alert := (driveAlert_eq_self_iff _).2 ((driveAlert_eq_self_iff s).1 h.alert)
  pins := by rw [drivePins_pushRequest, h.pins]

end Sys2Proof.Machine
end

