-- ==== Sys2Proof/Laws/Ops.lean ====
section
/-!
SUPPORT. Laws/Ops.lean: for the shared operations, what each can do, said once: setting a latch, a charge and its fall,
leaving power, the walk of the spin-up queue, one admission, and the attempt as a run of admissions.
-/
namespace Sys2Proof.Machine

/-! ### Latches -/

theorem offerNotice_keeps (p : UpPort) (n : Notice) (e : EventBlock) :
    (offerNotice p n e).bayLatches = e.bayLatches ∧ (offerNotice p n e).enclLatches = e.enclLatches ∧
      (offerNotice p n e).fanSets = e.fanSets ∧ (offerNotice p n e).subscribed = e.subscribed ∧
      (offerNotice p n e).alert = e.alert := by
  unfold offerNotice
  repeat' split
  all_goals simp

theorem announce_keeps (n : Notice) (e : EventBlock) :
    (announce n e).bayLatches = e.bayLatches ∧ (announce n e).enclLatches = e.enclLatches ∧
      (announce n e).fanSets = e.fanSets ∧ (announce n e).subscribed = e.subscribed ∧ (announce n e).alert = e.alert := by
  obtain ⟨a1, a2, a3, a4, a5⟩ := offerNotice_keeps .u0 n e
  obtain ⟨b1, b2, b3, b4, b5⟩ := offerNotice_keeps .u1 n (offerNotice .u0 n e)
  exact ⟨b1.trans a1, b2.trans a2, b3.trans a3, b4.trans a4, b5.trans a5⟩

/-- The latches after one is set: that one SET, every other as it was. -/
theorem latchBay_latches (b : Bay) (k : BayEvent) (s : State) :
    (latchBay b k s).ev.bayLatches = upd s.ev.bayLatches b (put · k.idx true) := by
  unfold latchBay
  split
  · next h =>
    refine tab_ext fun c => ?_
    rw [getElem_upd]
    split
    · next hc =>
      subst hc
      refine tab_ext fun j => ?_
      rw [getElem_put]
      split
      · next hj => rw [hj]; exact h
      · rfl
    · rfl
  · exact (announce_keeps _ _).1

theorem latchBay_sets (b : Bay) (k : BayEvent) (s : State) : ((latchBay b k s).ev.bayLatches[b])[k.idx] = true := by
  rw [latchBay_latches, getElem_upd_same, getElem_put_same]

@[simp] theorem latchBay_alert (b : Bay) (k : BayEvent) (s : State) : (latchBay b k s).ev.alert = s.ev.alert := by
  unfold latchBay
  split
  · rfl
  · exact (announce_keeps _ _).2.2.2.2

@[simp] theorem latchEncl_bayLatches (k : EnclEvent) (n : Nat) (s : State) :
    (latchEncl k n s).ev.bayLatches = s.ev.bayLatches := by
  unfold latchEncl
  split
  · rfl
  · exact (announce_keeps _ _).1

/-! ### Charges (R45, R46, R49) -/

@[simp] theorem stepDown_charge (s : State) : (stepDown s).power.charge = s.power.charge := by
  unfold stepDown
  split
  · rfl
  · simp only; split <;> simp

@[simp] theorem stepDown_queue (s : State) : (stepDown s).power.queue = s.power.queue := by
  unfold stepDown
  split
  · rfl
  · simp only; split <;> simp

@[simp] theorem setCharge_charge (b : Bay) (v : Nat) (s : State) :
    (setCharge b v s).power.charge = put s.power.charge b v := by
  unfold setCharge; simp only; split <;> simp

@[simp] theorem setCharge_queue (b : Bay) (v : Nat) (s : State) : (setCharge b v s).power.queue = s.power.queue := by
  unfold setCharge; simp only; split <;> simp

/-- A charge that does not fall changes no ceiling and asks for nothing. -/
theorem setCharge_of_rise (b : Bay) (v : Nat) (s : State) (h : s.power.charge[b] ≤ v) :
    setCharge b v s = { s with power := { s.power with charge := put s.power.charge b v } } := by
  unfold setCharge
  rw [if_neg (Nat.not_lt.2 h)]

/-- What one changed entry does to the sum of a list. -/
theorem sum_set (l : List Nat) (i : Nat) (h : i < l.length) (x : Nat) : (l.set i x).sum + l[i] = l.sum + x := by
  induction l generalizing i with
  | nil => simp at h
  | cons a l ih =>
    cases i with
    | zero => simp; omega
    | succ i =>
      have := ih i (by simpa using h)
      simp only [List.set_cons_succ, List.sum_cons, List.getElem_cons_succ]
      omega

/-- The committed draw after a charge is set (R45). -/
theorem committed_setCharge (b : Bay) (v : Nat) (s : State) :
    committed (setCharge b v s) + s.power.charge[b] = committed s + v := by
  have h := sum_set s.power.charge.toList b.val (by simp) v
  have e : (put s.power.charge b v).toList = s.power.charge.toList.set b.val v := by simp [put, Vector.toList_set]
  unfold committed
  rw [setCharge_charge, e]
  simpa using h

/-! ### Leaving power (R22) -/

@[simp] theorem setFilter_charge' (b : Bay) (x : OcFilter) (s : State) :
    (setFilter b x s).power.charge = s.power.charge := rfl

/-- The bay records after a bay leaves power: its own loses what power gave it, every other is as it was. -/
theorem leavePower_bays (b : Bay) (s : State) : (leavePower b s).bays = upd s.bays b unpowerRecord := by
  unfold leavePower
  simp only
  repeat' split
  all_goals simp

theorem leavePower_charge (b : Bay) (s : State) : (leavePower b s).power.charge = put s.power.charge b 0 := by
  unfold leavePower
  simp only
  repeat' split
  all_goals simp [setFilter]

/-- Leaving power leaves the state of the bay to the transition that causes it. -/
theorem leavePower_state (b c : Bay) (s : State) : (leavePower b s).bays[c].state = s.bays[c].state := by
  rw [leavePower_bays, getElem_upd]
  split
  · next h => rw [h]; rfl
  · rfl

theorem faultBay_bays (b : Bay) (cause : FaultCause) (s : State) :
    (faultBay b cause s).bays =
      upd s.bays b (fun r => { unpowerRecord r with state := .faulted, fault := some cause }) := by
  unfold faultBay
  rw [modBay_bays, leavePower_bays]
  refine tab_ext fun c => ?_
  simp only [getElem_upd]
  split <;> simp

/-! ### Admission (R57, R58) -/

/-- What the walk finds: the first entry with an open zone, which fits the budget; the entries before it are blocked. -/
theorem walk_eq_some {s : State} {q : List QueueEntry} {b : Bay} (h : walk s q = some b) :
    ∃ before e after, q = before ++ e :: after ∧ e.bay = b ∧
      (∀ x ∈ before, s.power.blocked[s.bays[x.bay].cfgZone] = true) ∧ s.power.blocked[s.bays[b].cfgZone] = false ∧
      committed s + (startClass b s).startDraw ≤ s.power.live := by
  induction q with
  | nil => simp [walk] at h
  | cons x rest ih =>
    unfold walk at h
    split at h
    · next hb =>
      obtain ⟨before, e, after, rfl, he, hbefore, ho, hf⟩ := ih h
      refine ⟨x :: before, e, after, rfl, he, ?_, ho, hf⟩
      intro y hy
      rcases List.mem_cons.1 hy with rfl | hy
      · exact hb
      · exact hbefore y hy
    · next hb =>
      split at h
      · next hf =>
        have e : x.bay = b := by simpa using h
        subst e
        exact ⟨[], x, rest, rfl, rfl, by simp, by simpa using hb, hf⟩
      · simp at h

/-- A walk past blocked entries goes on with the rest of the queue. -/
theorem walk_append (s : State) (before rest : List QueueEntry)
    (h : ∀ x ∈ before, s.power.blocked[s.bays[x.bay].cfgZone] = true) : walk s (before ++ rest) = walk s rest := by
  induction before with
  | nil => rfl
  | cons x before ih =>
    rw [List.cons_append, walk, if_pos (h x (by simp))]
    exact ih fun y hy => h y (by simp [hy])

theorem walk_mem {s : State} {q : List QueueEntry} {b : Bay} (h : walk s q = some b) : b ∈ q.map QueueEntry.bay := by
  obtain ⟨before, e, after, rfl, rfl, _⟩ := walk_eq_some h
  simp

@[simp] theorem admitBay_queue (b : Bay) (s : State) : (admitBay b s).power.queue = dropEntry b s.power.queue := by
  unfold admitBay; simp only; split <;> simp [setFilter]

theorem admitBay_bays (b : Bay) (s : State) :
    (admitBay b s).bays = upd s.bays b (fun r => { r with
      state := .starting, chargedClass := some r.cfgClass, activeZone := some r.cfgZone
      startTimer := some (s.now + 100 * (startClass b s).startWindow) }) := by
  unfold admitBay; simp only; split <;> simp

theorem admitBay_charge (b : Bay) (s : State) :
    (admitBay b s).power.charge = put s.power.charge b (startClass b s).startDraw := by
  unfold admitBay; simp only; split <;> simp [setFilter, startClass, modBay]

/-- What holds before an attempt and is kept by every admission the walk may make holds after it. -/
theorem attempt_induction (P : State → Prop)
    (step : ∀ s b, mayAdmit s = true → walk s s.power.queue = some b → P s → P (admitBay b s)) (s : State) (h : P s) :
    P (attempt s) := by
  have loop : ∀ n s, P s → P (attemptLoop n s) := by
    intro n
    induction n with
    | zero => exact fun s h => h
    | succ n ih =>
      intro s h
      unfold attemptLoop
      split
      · next hm =>
        split
        · exact h
        · next b hw => exact ih _ (step s b hm hw h)
      · exact h
  exact loop _ s h

theorem attempt_of_not_mayAdmit (s : State) (h : mayAdmit s = false) : attempt s = s := by
  unfold attempt attemptLoop
  simp [h]

/-- A running stagger timer keeps every attempt from admitting (R57). -/
theorem attempt_of_stagger (s : State) (h : s.power.stagger.isSome = true) : attempt s = s := by
  refine attempt_of_not_mayAdmit s ?_
  unfold mayAdmit
  cases hs : s.power.stagger <;> simp_all

/-! ### Runs -/

/-- A property that every step keeps holds wherever a run from a state that has it arrives. -/
theorem run_keeps (Inv : State → Prop) (keep : ∀ s t, Inv s → step s = .next t → Inv t) (k : Nat) (s t : State)
    (h : Inv s) (hr : Sys2Proof.core.run k s = .next t) : Inv t := by
  induction k generalizing s with
  | zero =>
    have e : s = t := Host.Outcome.next.inj hr
    exact e ▸ h
  | succ k ih =>
    simp only [Host.Core.run] at hr
    split at hr
    · next u hu => exact ih u (keep s u h hu) hr
    · cases hr
    · cases hr

end Sys2Proof.Machine
end

