-- ==== Sys2Proof/WellFormed.lean ====
section
/-!
DEFINITION. WellFormed.lean: which terms of Instr name a step of the table. Bays, ports, modules and patterns are in
range by their types; what is left is that a command whose row names a kind of frame carries a frame of that kind. A
command that is not well formed still has a meaning: the frame is classified as what it is (R70).
-/
namespace Sys2Proof

/-- The frame kind code stands in byte 0 of a frame (section 12.1). -/
def firstByteIs (code : Byte) (bytes : List Byte) : Bool := bytes.head? == some code

/-- The command carries a frame of the kind its row names: HELLO (0x03) or MGMT_REQ (0x04), section 12.5. -/
def Instr.wellFormed : Instr → Bool
  | .driveHello _ bytes => firstByteIs 0x03 bytes
  | .controllerHello _ bytes => firstByteIs 0x03 bytes
  | .managementIntake _ bytes => firstByteIs 0x04 bytes
  | _ => true

end Sys2Proof
end

