-- ==== Sys2Proof/Laws/PerInstr.lean ====
section
/-!
SUPPORT. Laws/PerInstr.lean: facts of every command as a term of the syntax, one lemma per constructor of Instr.

NamedKind: where the row of a command names a kind of frame (DRIVE_HELLO and CONTROLLER_HELLO a HELLO, MANAGEMENT_INTAKE a
MGMT_REQ), a well-formed command whose bytes pass the tests of R69 carries a frame of that kind.
-/
namespace Sys2Proof.Laws
open Sys2Proof.Machine

/-- The bytes a command carries and the kind its row names for them. -/
def namedFrame : Instr → Option (List Byte × FrameKind)
  | .driveHello _ bytes => some (bytes, .hello)
  | .controllerHello _ bytes => some (bytes, .hello)
  | .managementIntake _ bytes => some (bytes, .mgmtReq)
  | _ => none

/-- A well-formed command carries a frame of the kind its row names. -/
def NamedKind.Statement (i : Instr) : Prop :=
  ∀ (bytes : List Byte) (kind : FrameKind) (f : Frame), namedFrame i = some (bytes, kind) → i.wellFormed = true →
    parseFrame bytes = some f → f.kind = kind

/-- The kind of a frame that is read is the one its first byte names. -/
theorem parseFrame_kind {bytes : List Byte} {f : Frame} (h : parseFrame bytes = some f) :
    kindOf (byteAt bytes 0) = some f.kind := by
  unfold parseFrame at h
  simp only at h
  split at h
  · cases h
  · split at h
    · cases h
    · split at h
      · cases h
      · split at h
        · cases h
        · next k hk =>
          cases h
          exact hk

theorem byteAt_of_firstByteIs {code : Byte} {bytes : List Byte} (h : firstByteIs code bytes = true) :
    byteAt bytes 0 = code := by
  cases bytes with
  | nil => simp [firstByteIs] at h
  | cons x xs =>
    have e : x = code := by simpa [firstByteIs] using h
    simpa [byteAt] using e

/-- The lemma behind every row that names a kind. -/
theorem kind_of_firstByte {code : Byte} {kind : FrameKind} {bytes : List Byte} {f : Frame} (hc : kindOf code = some kind)
    (h : firstByteIs code bytes = true) (hf : parseFrame bytes = some f) : f.kind = kind := by
  have hk := parseFrame_kind hf
  rw [byteAt_of_firstByteIs h, hc] at hk
  exact (Option.some.inj hk).symm

/-- A row that names no kind says nothing of its bytes. -/
theorem statement_of_none {i : Instr} (h : namedFrame i = none) : NamedKind.Statement i := by
  intro bytes kind f hn
  rw [h] at hn
  cases hn

theorem NamedKind.powerOnReset (pins : PowerOnPins) : NamedKind.Statement (.powerOnReset pins) :=
  statement_of_none rfl
theorem NamedKind.presenceAsserted (b : Bay) : NamedKind.Statement (.presenceAsserted b) := statement_of_none rfl
theorem NamedKind.presenceLost (b : Bay) : NamedKind.Statement (.presenceLost b) := statement_of_none rfl
theorem NamedKind.seatingExpired (b : Bay) : NamedKind.Statement (.seatingExpired b) := statement_of_none rfl
theorem NamedKind.scanGroupExpiry : NamedKind.Statement .scanGroupExpiry := statement_of_none rfl
theorem NamedKind.startWindowExpiry (b : Bay) : NamedKind.Statement (.startWindowExpiry b) := statement_of_none rfl
theorem NamedKind.cycleTimerExpiry (b : Bay) : NamedKind.Statement (.cycleTimerExpiry b) := statement_of_none rfl
theorem NamedKind.staggerExpiry : NamedKind.Statement .staggerExpiry := statement_of_none rfl
theorem NamedKind.ocConditionAsserted (b : Bay) : NamedKind.Statement (.ocConditionAsserted b) :=
  statement_of_none rfl
theorem NamedKind.ocConditionLapsed (b : Bay) : NamedKind.Statement (.ocConditionLapsed b) := statement_of_none rfl
theorem NamedKind.ocFilterExpiry (b : Bay) : NamedKind.Statement (.ocFilterExpiry b) := statement_of_none rfl
theorem NamedKind.protectionTrip (b : Bay) (cause : TripCause) : NamedKind.Statement (.protectionTrip b cause) :=
  statement_of_none rfl
theorem NamedKind.frameArrival (p : Port) (bytes : List Byte) : NamedKind.Statement (.frameArrival p bytes) :=
  statement_of_none rfl
theorem NamedKind.driveHello (b : Bay) (bytes : List Byte) : NamedKind.Statement (.driveHello b bytes) := by
  intro bytes' kind f hn hw hf
  cases hn
  exact kind_of_firstByte (code := 0x03) rfl hw hf
theorem NamedKind.controllerHello (p : UpPort) (bytes : List Byte) : NamedKind.Statement (.controllerHello p bytes) := by
  intro bytes' kind f hn hw hf
  cases hn
  exact kind_of_firstByte (code := 0x03) rfl hw hf
theorem NamedKind.managementIntake (p : UpPort) (bytes : List Byte) : NamedKind.Statement (.managementIntake p bytes) := by
  intro bytes' kind f hn hw hf
  cases hn
  exact kind_of_firstByte (code := 0x04) rfl hw hf
theorem NamedKind.transmissionStart (p : Port) : NamedKind.Statement (.transmissionStart p) := statement_of_none rfl
theorem NamedKind.transmissionComplete (p : Port) : NamedKind.Statement (.transmissionComplete p) :=
  statement_of_none rfl
theorem NamedKind.forwardTimeout (p : Port) : NamedKind.Statement (.forwardTimeout p) := statement_of_none rfl
theorem NamedKind.linkUp (p : UpPort) : NamedKind.Statement (.linkUp p) := statement_of_none rfl
theorem NamedKind.linkDown (p : UpPort) : NamedKind.Statement (.linkDown p) := statement_of_none rfl
theorem NamedKind.updatePeriod (channels : Vector (Option Int) 4) : NamedKind.Statement (.updatePeriod channels) :=
  statement_of_none rfl
theorem NamedKind.tachPulse (m : FanModule) (r : Rotor) : NamedKind.Statement (.tachPulse m r) :=
  statement_of_none rfl
theorem NamedKind.overrideEnd (m : FanModule) : NamedKind.Statement (.overrideEnd m) := statement_of_none rfl
theorem NamedKind.locateEnd (b : Bay) : NamedKind.Statement (.locateEnd b) := statement_of_none rfl
theorem NamedKind.activityWindowEnd (b : Bay) : NamedKind.Statement (.activityWindowEnd b) := statement_of_none rfl
theorem NamedKind.patternTurn (p : PatternNo) : NamedKind.Statement (.patternTurn p) := statement_of_none rfl
theorem NamedKind.unknownRequest : NamedKind.Statement .unknownRequest := statement_of_none rfl
theorem NamedKind.readIdent : NamedKind.Statement .readIdent := statement_of_none rfl
theorem NamedKind.readBay : NamedKind.Statement .readBay := statement_of_none rfl
theorem NamedKind.readBays : NamedKind.Statement .readBays := statement_of_none rfl
theorem NamedKind.powerOn : NamedKind.Statement .powerOn := statement_of_none rfl
theorem NamedKind.powerOff : NamedKind.Statement .powerOff := statement_of_none rfl
theorem NamedKind.powerCycle : NamedKind.Statement .powerCycle := statement_of_none rfl
theorem NamedKind.clearFault : NamedKind.Statement .clearFault := statement_of_none rfl
theorem NamedKind.setBayPolicy : NamedKind.Statement .setBayPolicy := statement_of_none rfl
theorem NamedKind.setBayLines : NamedKind.Statement .setBayLines := statement_of_none rfl
theorem NamedKind.setSeating : NamedKind.Statement .setSeating := statement_of_none rfl
theorem NamedKind.lineTestEnter : NamedKind.Statement .lineTestEnter := statement_of_none rfl
theorem NamedKind.lineSample : NamedKind.Statement .lineSample := statement_of_none rfl
theorem NamedKind.linePreload : NamedKind.Statement .linePreload := statement_of_none rfl
theorem NamedKind.lineTestExit : NamedKind.Statement .lineTestExit := statement_of_none rfl
theorem NamedKind.setCeiling : NamedKind.Statement .setCeiling := statement_of_none rfl
theorem NamedKind.setStagger : NamedKind.Statement .setStagger := statement_of_none rfl
theorem NamedKind.loadClass : NamedKind.Statement .loadClass := statement_of_none rfl
theorem NamedKind.setOcFilter : NamedKind.Statement .setOcFilter := statement_of_none rfl
theorem NamedKind.readPower : NamedKind.Statement .readPower := statement_of_none rfl
theorem NamedKind.setForwardTimeout : NamedKind.Statement .setForwardTimeout := statement_of_none rfl
theorem NamedKind.readCounters : NamedKind.Statement .readCounters := statement_of_none rfl
theorem NamedKind.loadRoute : NamedKind.Statement .loadRoute := statement_of_none rfl
theorem NamedKind.dropRoute : NamedKind.Statement .dropRoute := statement_of_none rfl
theorem NamedKind.readRoutes : NamedKind.Statement .readRoutes := statement_of_none rfl
theorem NamedKind.loadSnoopRule : NamedKind.Statement .loadSnoopRule := statement_of_none rfl
theorem NamedKind.setThresholds : NamedKind.Statement .setThresholds := statement_of_none rfl
theorem NamedKind.setSensor : NamedKind.Statement .setSensor := statement_of_none rfl
theorem NamedKind.readThermal : NamedKind.Statement .readThermal := statement_of_none rfl
theorem NamedKind.loadCurve : NamedKind.Statement .loadCurve := statement_of_none rfl
theorem NamedKind.setZone : NamedKind.Statement .setZone := statement_of_none rfl
theorem NamedKind.setFanMap : NamedKind.Statement .setFanMap := statement_of_none rfl
theorem NamedKind.setFanOverride : NamedKind.Statement .setFanOverride := statement_of_none rfl
theorem NamedKind.setFanTiming : NamedKind.Statement .setFanTiming := statement_of_none rfl
theorem NamedKind.readCooling : NamedKind.Statement .readCooling := statement_of_none rfl
theorem NamedKind.setLight : NamedKind.Statement .setLight := statement_of_none rfl
theorem NamedKind.loadPattern : NamedKind.Statement .loadPattern := statement_of_none rfl
theorem NamedKind.setLightMap : NamedKind.Statement .setLightMap := statement_of_none rfl
theorem NamedKind.setNightDim : NamedKind.Statement .setNightDim := statement_of_none rfl
theorem NamedKind.readEvents : NamedKind.Statement .readEvents := statement_of_none rfl
theorem NamedKind.subscribe : NamedKind.Statement .subscribe := statement_of_none rfl
theorem NamedKind.warmRestart : NamedKind.Statement .warmRestart := statement_of_none rfl

end Sys2Proof.Laws
end

