-- ==== Sys2Proof/Tests/Slice0.lean ====
section
/-!
SUPPORT. Tests/Slice0.lean: the model's own tests. First the checks of WellFormed and the worked figures of the manual;
then, for each statement of Certificates/Slice0/Obligations.lean, a state that meets its hypotheses, clause by clause: they
are read from one state, `full`, that has a bay in every situation, and from small changes of it.
-/
set_option Elab.async false

namespace Sys2Proof.Tests
open Sys2Proof.Machine

/-! ### WellFormed: each check refuses an ill-formed command -/

theorem test_driveHello_ill_formed : (Instr.driveHello 0 [0x01, 0x00]).wellFormed = false := by decide
theorem test_controllerHello_ill_formed : (Instr.controllerHello .u0 [0x04]).wellFormed = false := by decide
theorem test_managementIntake_ill_formed : (Instr.managementIntake .u1 []).wellFormed = false := by decide
theorem test_hello_well_formed : (Instr.driveHello 0 [0x03]).wellFormed = true := by decide

/-! ### Worked figures of the manual -/

/-- The check value of a CRC-32 with polynomial 0x04C11DB7, initial value and final inversion all ones, no reflection, over
the nine digits (R69 names the parameters; the value is the one published for them, CRC-32/BZIP2). -/
theorem test_crc_check_value : crc32 [0x31, 0x32, 0x33, 0x34, 0x35, 0x36, 0x37, 0x38, 0x39] = 0xFC891918 := by
  decide +kernel

/-- Section 12.6: the request of the example, read back from its bytes. -/
theorem test_example_request_reads :
    parseFrame (frameBytes (requestFrame 0x0042 0x100001 0xFA0003 0x0112 [4, 0])) =
      some ⟨.mgmtReq, 0x0042, 0xFA0003, 0x100001, 0, [0x01, 0x12, 0, 0, 0, 0, 0, 4, 0, 0, 0, 0]⟩ := by decide +kernel

/-- Section 12.6: the response of the example: OK_CLAMPED, no data, 20 bytes. -/
theorem test_example_response :
    responseFrame 0xFA0003 (requestFrame 0x0042 0x100001 0xFA0003 0x0112 [4, 0]) ⟨.okClamped, []⟩ =
      ⟨.mgmtRsp, 0x0042, 0x100001, 0xFA0003, 0, [0x01, 0x12, 0x01, 0x00]⟩ := by decide +kernel

theorem test_example_response_length :
    (frameBytes ⟨.mgmtRsp, 0x0042, 0x100001, 0xFA0003, 0, [0x01, 0x12, 0x01, 0x00]⟩).length = 20 := by decide +kernel

/-- Section 7.3's example: a sum of 550 with one of four rotors stalled gives 734. -/
theorem test_compensation_example : compensate 550 4 1 = 734 := by decide

/-- The outputs of the same example: 500, 600, 700, 734 at a slew up of 100. -/
theorem test_slew_example :
    let z := ZoneUnit.default
    (slewOutput z 734 500, slewOutput z 734 600, slewOutput z 734 700) = (600, 700, 734) := by decide

/-- R148 and R149: a pattern of 25 and 25 units of 10 ms is lit for 250 ms and dark for 250 ms. -/
theorem test_pattern_output :
    [0, 249, 250, 499, 500].map (fun n => patternOutput n (Pattern.default 0 4)) = [.lit, .lit, .dark, .dark, .lit] := by
  decide

/-- R53: two weak zones take the limit of 2 to its least value of 1. -/
theorem test_effective_limit :
    effectiveLimit { State.reset with cool := { State.reset.cool with zones := tab fun z =>
      { ZoneUnit.default with state := if z.val < 2 then .degraded else .ok } } } = 1 := by decide +kernel

/-! ### A state with a bay in every situation -/

/-- The bay records of `full`: one bay in each situation the witnesses need. -/
def fullBay (b : Bay) : BayRecord :=
  let r := BayRecord.reset b .released
  let powered := { r with chargedClass := some 1, activeZone := some (defaultZone b) }
  let online := { powered with state := .online, driveAddr := some (0x300000 + BitVec.ofNat 24 b.val),
                               declClass := some 1, profile := some 0, identity := some 7 }
  match b.val with
  | 1 => { r with state := .seating }
  | 2 => { r with state := .seating }
  | 3 => { r with state := .off }
  | 4 => { r with state := .queued }
  | 5 => { r with state := .queued }
  | 6 => { powered with state := .starting, retriesLeft := 1, startTimer := some 9000 }
  | 7 => online
  | 8 => { r with state := .cycling, cycleTimer := some 2000 }
  | 9 => { r with state := .faulted, fault := some .noHello }
  | 10 => { r with state := .test, prior := some .off }
  | 11 => { r with state := .test, prior := some .empty }
  | 12 => { r with state := .off, hold := some .u1 }
  | 13 => { powered with state := .starting, startTimer := some 8000 }
  | 14 => { r with state := .test, prior := some (.faulted .overtemp) }
  | 15 => { online with ocTrip := true }
  | _ => r

/-- Whether a drive is seated in a bay of `full`. -/
def fullSeat (b : Bay) : Bool := b ≠ 0 && b ≠ 11

/-- A frame of a kind between two addresses. -/
def frame (kind : FrameKind) (src dest : Addr) (payload : List Byte) : Frame := ⟨kind, 7, dest, src, 0, payload⟩

/-- A frame that waits in a queue of `full`. -/
def someHeld : Held := ⟨frame .data 0x100001 0x300007 [], .arrived (.up .u0)⟩

/-- `full` before its lines are driven. -/
def fullRaw : State :=
  let s := State.reset
  { s with
    now := 1000
    bays := tab fullBay
    line := { s.line with
      bays := tab fun b =>
        { s.line.bays[b] with
          prsIn := if fullSeat b then .low else .released, presence := if fullSeat b then .present else .absent
          inGroup := b = 2, debounce := if b = 1 then some 1500 else none }
      groupTimer := some 1500 }
    power := { s.power with
      live := 1800, queue := [⟨5, .priority⟩, ⟨4, .normal⟩], stagger := some 4000
      charge := tab fun b => if b = 6 ∨ b = 13 then 300 else if b = 7 ∨ b = 15 then 100 else 0
      ocFilter := tab fun b => if b = 6 then .timing 1010 else .clear }
    fwd := { s.fwd with
      up := tab fun p => if p = 0 then ⟨true, [someHeld], [someHeld], 2⟩ else ⟨true, [], [], 0⟩
      bayQueue := tab fun b => if b = 7 then List.replicate 8 someHeld else []
      transmitting := tab fun p => if p = 17 then some someHeld else none
      waiting := tab fun p =>
        if p = 17 then some ⟨frame .data 0x100002 0x300007 [], .bay 7, 990, 1010, 0, false⟩ else none }
    route := { s.route with
      learned := tab fun p => if p = 7 then some ⟨0x300007, none⟩ else if p = 15 then some ⟨0x30000F, none⟩
        else if p = 16 then some ⟨0x100001, none⟩ else none
      statics := tab fun i => if i = 0 then some ⟨0x200000, .up .u1⟩ else if i = 1 then some ⟨0x200001, .bay 3⟩
        else none }
    light := { s.light with
      bays := tab fun b => if b = 7 then ⟨.until 5000, false, true, false, some 1060⟩
        else if b = 3 then ⟨.forever, false, false, false, none⟩ else s.light.bays[b] }
    cool := { s.cool with
      modules := tab fun m => if m = 0 then { s.cool.modules[m] with override := some ⟨1000, 9000⟩ }
        else s.cool.modules[m] }
    pending := [.tachPulse 0 .a, .readIdent] }

/-- A state at rest with a bay in every situation, and two commands that wait. -/
def full : State := drivePins (driveAlert fullRaw)

/-! ### Decidable forms of the predicates -/

/-- The decidable form of AtRest, but for the pins. -/
def restCheck (s : State) : Bool :=
  decide (tab (zoneHot s) = s.therm.hot ∧ blocksNow s = s.power.blocked ∧ s.power.attemptAsked = false ∧
    (releasable .u0 s = false ∧ releasable .u1 s = false) ∧ alertCondition s = s.ev.alert)

theorem atRest_of_check (s : State) (pins : drivePins s = s) (h : restCheck s = true) : AtRest s := by
  obtain ⟨hot, blocks, asked, notices, alert⟩ := of_decide_eq_true h
  exact {
    hot := (refreshHot_eq_self_iff s).2 hot
    blocks := blocks
    asked := asked
    notices := fun p => by cases p; exacts [notices.1, notices.2]
    alert := (driveAlert_eq_self_iff s).2 alert
    pins := pins }

theorem greenShown_congr {s t : State} (b : Bay) (hb : t.bays[b].state = s.bays[b].state) (hg : t.light = s.light) :
    greenShown b t = greenShown b s := by unfold greenShown; rw [hb, hg]

theorem amberShown_congr {s t : State} (b : Bay) (hb : t.bays[b].state = s.bays[b].state)
    (hg : t.light.bays = s.light.bays) : amberShown b t = amberShown b s := by unfold amberShown; rw [hb, hg]

/-- The pins of a state stand in another that agrees with it in what the pins show. -/
theorem pins_carry {s t : State} (hs : drivePins s = s) (hl : t.line.bays = s.line.bays) (hg : t.light = s.light)
    (hn : t.now = s.now) (hb : ∀ b : Bay, t.bays[b].state = s.bays[b].state) : drivePins t = t := by
  have he : ∀ b, enabled b t = enabled b s := fun b => by unfold enabled; rw [hb]
  have hga : ∀ b, greenShown b t = greenShown b s := fun b => greenShown_congr b (hb b) hg
  have hla : ∀ b, amberShown b t = amberShown b s := fun b => amberShown_congr b (hb b) (by rw [hg])
  have h1 : (drivePins t).line.bays = (drivePins s).line.bays := by
    simp [drivePins, laValue, lbValue, lightValue, hl, hg, hn, he, hga, hla]
  have h2 : (drivePins t).light = (drivePins s).light := by simp [drivePins, hg, hn]
  have e : drivePins t =
      { t with line := { t.line with bays := (drivePins t).line.bays }, light := (drivePins t).light } := rfl
  rw [e, h1, h2, hs, ← hl, ← hg]

/-- `full` and a state made from it have the same pins. -/
theorem pins_carry_of_eq {s t : State} (hs : drivePins s = s) (hl : t.line.bays = s.line.bays) (hg : t.light = s.light)
    (hn : t.now = s.now) (hb : t.bays = s.bays) : drivePins t = t := pins_carry hs hl hg hn fun b => by rw [hb]

/-- The decidable form of BayRecord.Consistent, each kind of field with the states that name it. -/
def recordCheck (r : BayRecord) : Bool :=
  [r.chargedClass.isSome, r.activeZone.isSome].all (· == powered r.state) &&
    [r.driveAddr.isSome, r.declClass.isSome, r.profile.isSome, r.identity.isSome].all (· == decide (r.state = .online)) &&
    [(r.fault.isSome, BayState.faulted), (r.prior.isSome, .test), (r.startTimer.isSome, .starting),
      (r.cycleTimer.isSome, .cycling)].all (fun x => x.1 == decide (r.state = x.2)) &&
    decide (r.hold.isSome = true → r.state = .off) && [r.ocTrip, r.otTrip].all (fun x => !x || powered r.state)

theorem consistent_of_check (r : BayRecord) (h : recordCheck r = true) : r.Consistent := by
  simp only [recordCheck, List.all_cons, List.all_nil, Bool.and_true, Bool.and_eq_true, beq_iff_eq, Bool.or_eq_true,
    Bool.not_eq_true', decide_eq_true_eq] at h
  constructor <;> first | tauto | (intro e; simp_all)

/-- The predicates that read a state through its bays and its spin-up queue alone carry over. -/
theorem baysConsistent_congr {s t : State} (hb : t.bays = s.bays) (hq : t.power.queue = s.power.queue)
    (h : BaysConsistent s) : BaysConsistent t where
  record b := by rw [hb]; exact h.record b
  queue := ⟨fun b => by rw [hb, hq]; exact h.queue.member b, by rw [hq]; exact h.queue.once, by rw [hq]; exact h.queue.order⟩

/-- A statement over the ports is one over their numbers. -/
theorem forall_ports {P : Port → Prop} (hb : ∀ b : Bay, P (.bay b)) (h0 : P (.up .u0)) (h1 : P (.up .u1)) (p : Port) :
    P p := by
  cases p with
  | bay b => exact hb b
  | up u => cases u <;> assumption

theorem forall_upPorts {P : UpPort → Prop} (h0 : P .u0) (h1 : P .u1) (p : UpPort) : P p := by cases p <;> assumption

theorem drivePins_bays (s : State) : (drivePins s).bays = s.bays := rfl
theorem drivePins_lights (s : State) : (drivePins s).light.bays = s.light.bays := rfl

/-- Driving the pins twice drives them once. -/
theorem drivePins_drivePins (s : State) : drivePins (drivePins s) = drivePins s := by
  have hb := drivePins_bays s
  have hu := drivePins_lights s
  have he : ∀ b, enabled b (drivePins s) = enabled b s := fun b => by unfold enabled; rw [hb]
  have hl : ∀ b, laValue b (drivePins s) = laValue b s := by
    intro b
    have hg : greenShown b (drivePins s) = greenShown b s := by unfold greenShown; rw [hb, hu]
    unfold laValue
    rw [hg]
    simp [-Fin.getElem_fin, lightValue, drivePins, patternOutput]
  have hm : ∀ b, lbValue b (drivePins s) = lbValue b s := by
    intro b
    unfold lbValue
    rw [amberShown_congr b (by rw [hb]) hu]
    simp [-Fin.getElem_fin, lightValue, drivePins, patternOutput]
  have h1 : (drivePins (drivePins s)).line.bays = (drivePins s).line.bays := by
    refine tab_ext fun b => ?_
    change (tab _)[b] = (tab _)[b]
    rw [getElem_tab, getElem_tab]
    simp only [he, hl, hm]
    simp [-Fin.getElem_fin, drivePins]
  have h2 : (drivePins (drivePins s)).light.patterns = (drivePins s).light.patterns := by
    refine tab_ext fun b => ?_
    change (tab _)[b] = (tab _)[b]
    rw [getElem_tab, getElem_tab]
    simp [-Fin.getElem_fin, drivePins, patternOutput]
  have e (t : State) : drivePins t =
    { t with
      line := { t.line with bays := (drivePins t).line.bays }
      light := { t.light with patterns := (drivePins t).light.patterns } } := rfl
  rw [e (drivePins s), h1, h2]

/-! ### `full` is sound, so every invariant has a state that a step leaves -/

theorem witness_full_atRest : AtRest full := atRest_of_check _ (drivePins_drivePins _) (by decide +kernel)

theorem witness_full_bays : BaysConsistent full where
  record := by
    have h : ∀ b : Bay, recordCheck full.bays[b] = true := by decide +kernel
    exact fun b => consistent_of_check _ (h b)
  queue := ⟨by decide +kernel, by decide +kernel, by decide +kernel⟩

theorem witness_full_budget : BudgetKept full :=
  ⟨by decide +kernel, by decide +kernel, fun _ h => by cases h⟩

/-- The budget rests on the bays and on the power block alone. -/
theorem budgetKept_congr {s t : State} (hb : s.bays = t.bays) (hp : s.power = t.power) (h : BudgetKept t) : BudgetKept s := by
  obtain ⟨h1, h2, h3⟩ := h
  constructor <;> simp only [committed, hb, hp] at * <;> assumption

theorem witness_full_lines : LinesConsistent full := by constructor <;> decide +kernel

/-- The addresses of `full`, learned then static. -/
def fullLearned (p : Fin 18) : Option Addr := (full.route.learned[p]).map Learned.addr

theorem portIdx_injective (p q : Port) (h : portIdx p = portIdx q) : p = q := by
  rcases p with ⟨a, ha⟩ | (_ | _) <;> rcases q with ⟨b, hb⟩ | (_ | _) <;> simp [portIdx, Fin.ext_iff] at h ⊢ <;> omega

theorem full_learned_distinct : ∀ i j : Fin 18, fullLearned i ≠ none → fullLearned i = fullLearned j → i = j := by
  decide +kernel

theorem full_statics_distinct :
    ∀ i j : Fin 30, staticAddr full i ≠ none → staticAddr full i = staticAddr full j → i = j := by decide +kernel

theorem full_apart : ∀ (i : Fin 18) (j : Fin 30), fullLearned i ≠ none → fullLearned i ≠ staticAddr full j := by
  decide +kernel

theorem full_not_switch : (∀ i : Fin 18, fullLearned i ≠ some (switchAddr full)) ∧
    ∀ j : Fin 30, staticAddr full j ≠ some (switchAddr full) := by decide +kernel

theorem witness_full_routes : RoutesDistinct full where
  learned p q a hp hq := portIdx_injective p q (full_learned_distinct _ _
    (by change learnedAddr full p ≠ none; rw [hp]; simp) (by change learnedAddr full p = learnedAddr full q; rw [hp, hq]))
  statics i j a hi hj := full_statics_distinct i j (by rw [hi]; simp) (by rw [hi, hj])
  apart p i a hp hi := full_apart (portIdx p) i (by change learnedAddr full p ≠ none; rw [hp]; simp)
    (by change learnedAddr full p = _; rw [hp, hi])
  notSwitch p := full_not_switch.1 (portIdx p)
  staticNotSwitch := full_not_switch.2

/-- RoutesDistinct reads a state through its route table and its address strap alone. -/
theorem routesDistinct_congr {s t : State} (hr : t.route = s.route) (ha : t.addrStrap = s.addrStrap)
    (h : RoutesDistinct s) : RoutesDistinct t := by
  have hl : ∀ p, learnedAddr t p = learnedAddr s p := fun p => by unfold learnedAddr; rw [hr]
  have hs : ∀ i, staticAddr t i = staticAddr s i := fun i => by unfold staticAddr; rw [hr]
  have hw : switchAddr t = switchAddr s := by unfold switchAddr; rw [ha]
  constructor <;> simp only [hl, hs, hw]
  exacts [h.learned, h.statics, h.apart, h.notSwitch, h.staticNotSwitch]

theorem witness_full_slots : SlotsFollowBays full := by unfold SlotsFollowBays; decide +kernel

theorem witness_full_ports : PortsConsistent full where
  down p h := by
    have hu : ∀ p : UpPort, full.fwd.up[upIdx p].linkUp = true := forall_upPorts (by decide +kernel) (by decide +kernel)
    rw [hu p] at h
    cases h
  disabled := by
    have h : ∀ b : Bay, enabled b full = false → full.fwd.bayQueue[b] = [] ∧
        full.fwd.transmitting[portIdx (.bay b)] = none ∧ full.fwd.waiting[portIdx (.bay b)] = none := by decide +kernel
    exact fun b hb => ⟨(h b hb).1, (h b hb).2.1, (h b hb).2.2⟩
  targets := by
    have h : ∀ i : Fin 18, ∀ w ∈ full.fwd.waiting[i], targetOpen full w.target = true := by decide +kernel
    exact fun p w hw => h (portIdx p) w hw

theorem witness_full_waiters : WaitersBlocked full := by
  have h : ∀ i : Fin 18, ∀ w ∈ full.fwd.waiting[i], queueRoom w.target full = false := by decide +kernel
  exact fun p w hw => h (portIdx p) w hw

theorem witness_full_bounded : QueuesBounded full where
  bay := by decide +kernel
  normal := forall_upPorts (by decide +kernel) (by decide +kernel)
  priority := forall_upPorts (by decide +kernel) (by decide +kernel)
  requests := forall_upPorts (by decide +kernel) (by decide +kernel)
  notices := forall_upPorts (by decide +kernel) (by decide +kernel)
  counters := by
    have h : ∀ (i : Fin 18) (k : Fin 7), (full.fwd.counters[i])[k] ≤ Config.counterMax := by decide +kernel
    exact fun p k => h (portIdx p) k.idx

theorem witness_full_pwr : ∀ b : Bay, full.line.bays[b].pwrPin = pinLevel full.line.bays[b].record.pwrPol true ↔
    full.bays[b].state = .starting ∨ full.bays[b].state = .online := by decide +kernel

theorem witness_full_cooling : CoolingConsistent full where
  minDuty := by decide +kernel
  output := by decide +kernel
  outputRange := by
    have h : ∀ z : Zone, ∀ d ∈ full.cool.zones[z].output, full.cool.zones[z].minDuty ≤ d ∧ d ≤ 1000 := by decide +kernel
    exact fun z d hd => h z d hd
  duty := by decide +kernel
  override := by
    have h : ∀ m : FanModule, ∀ o ∈ full.cool.modules[m].override, o.duty = full.cool.modules[m].duty := by decide +kernel
    exact fun m o ho => h m o ho
  moduleState := by decide +kernel
  zoneState := by decide +kernel

theorem witness_full_thermal : ThermalConsistent full where
  online := by decide +kernel
  valid := by
    have h : ∀ b : Bay, ∀ x ∈ full.therm.records[b].reading, -20 ≤ x ∧ x ≤ 120 := by decide +kernel
    exact fun b x hx => h b x hx
  streak := by decide +kernel
  sensor := by
    have h : ∀ n : SensorNo, ∀ x ∈ full.therm.sensors[n].reading, -20 ≤ x ∧ x ≤ 120 := by decide +kernel
    exact fun n x hx => h n x hx
  thresholds := by decide +kernel

theorem witness_full_settings : SettingsInRange full := by constructor <;> decide +kernel

theorem witness_full_events : EventsConsistent full where
  fan := by intro x; cases x <;> decide +kernel
  unsubscribed := forall_upPorts (by decide +kernel) (by decide +kernel)

/-- A state that agrees with `full` in what the pins show is at rest when its check passes. -/
theorem atRest_like_full {t : State} (h : restCheck t = true) (hl : t.line.bays = full.line.bays := by rfl)
    (hg : t.light = full.light := by rfl) (hn : t.now = full.now := by rfl) (hb : t.bays = full.bays := by rfl) : AtRest t :=
  atRest_of_check t (pins_carry_of_eq witness_full_atRest.pins hl hg hn hb) h

/-- The step of `full` takes its front command, and the command it takes changes something. -/
theorem witness_full_steps : full.pending = .tachPulse 0 .a :: [.readIdent] ∧ (∃ t, step full = .next t) ∧
    ∃ t, exec (.tachPulse 0 .a) full = .next t := ⟨rfl, ⟨_, rfl⟩, ⟨_, rfl⟩⟩

/-! ### Small changes of `full` -/

/-- `full` with its power admission unit changed. -/
def withPower (f : PowerBlock → PowerBlock) : State := { full with power := f full.power }

/-- `full` with one bay record changed. -/
def withRecord (b : Bay) (f : BayRecord → BayRecord) : State := { full with bays := upd full.bays b f }

/-- `full` with a debounce setting of 0. -/
def fastSeating : State := { full with line := { full.line with debounceSetting := 0 } }

/-- `full` with the bay that is SEATING on its own under MANUAL. -/
def manualSeating : State := withRecord 1 fun r => { r with policy := .manual }

/-- `full` with the bay of the scan group under MANUAL. -/
def manualGroup : State := withRecord 2 fun r => { r with policy := .manual }

/-- `full` with its stagger timer stopped. -/
def unstaggered : State := withPower fun p => { p with stagger := none }

/-- `full` with room for more STARTING bays. -/
def roomy : State := withPower fun p => { p with limit := 8 }

/-- `roomy` with a ceiling that lets no queued bay start. -/
def tight : State := withPower fun p => { p with limit := 8, live := 900 }

/-- `roomy` with the zone of the queued bays hot and blocked. -/
def blocked : State :=
  { full with
    power := { full.power with limit := 8, blocked := tab fun z => z = 1 }
    therm := { full.therm with records := upd full.therm.records 7 fun r => { r with reading := some 60 }
                               hot := tab fun z => z = 1 } }

theorem witness_fastSeating_atRest : AtRest fastSeating := atRest_like_full (by decide +kernel)
theorem witness_manualSeating_atRest : AtRest manualSeating := atRest_of_check _ (pins_carry witness_full_atRest.pins rfl rfl rfl (by decide +kernel)) (by decide +kernel)
theorem witness_roomy_atRest : AtRest roomy := atRest_like_full (by decide +kernel)
theorem witness_tight_atRest : AtRest tight := atRest_like_full (by decide +kernel)
theorem witness_blocked_atRest : AtRest blocked := atRest_like_full (by decide +kernel)

theorem recordChange_bays (b : Bay) (f : BayRecord → BayRecord) (h : recordCheck (f full.bays[b]) = true)
    (hs : (f full.bays[b]).state = full.bays[b].state) : BaysConsistent (withRecord b f) where
  record c := by
    unfold withRecord
    rw [show ({ full with bays := upd full.bays b f } : State).bays = upd full.bays b f from rfl, getElem_upd]
    split
    · exact consistent_of_check _ h
    · exact witness_full_bays.record c
  queue := by
    have hs' : ∀ c : Bay, (upd full.bays b f)[c].state = full.bays[c].state := by
      intro c
      rw [getElem_upd]
      split
      · next hc => rw [hc, hs]
      · rfl
    exact ⟨fun c => (witness_full_bays.queue.member c).trans (by rw [← hs' c]; rfl),
      witness_full_bays.queue.once, witness_full_bays.queue.order⟩

theorem witness_manualSeating_bays : BaysConsistent manualSeating :=
  recordChange_bays _ _ (by decide +kernel) (by decide +kernel)
theorem witness_manualGroup_bays : BaysConsistent manualGroup :=
  recordChange_bays _ _ (by decide +kernel) (by decide +kernel)
theorem witness_manualGroup_lines : LinesConsistent manualGroup := by constructor <;> decide +kernel

/-! ### Witnesses: presence, seating, the timers of the bays -/

theorem witness_insertion : full.bays[(0 : Bay)].state = .empty ∧ full.line.bays[(0 : Bay)].presence = .absent ∧
    0 < full.line.debounceSetting := by decide +kernel
theorem witness_insertion_at_once : fastSeating.bays[(0 : Bay)].state = .empty ∧
    fastSeating.line.bays[(0 : Bay)].presence = .absent ∧ fastSeating.line.debounceSetting = 0 := by decide +kernel
theorem witness_insertion_in_test : full.bays[(11 : Bay)].state = .test ∧
    full.line.bays[(11 : Bay)].presence = .absent := by decide +kernel
theorem witness_loss_in_seating : full.bays[(1 : Bay)].state = .seating ∧
    full.line.bays[(1 : Bay)].presence = .present := by decide +kernel
theorem witness_loss_in_group : full.bays[(2 : Bay)].state = .seating ∧ full.line.bays[(2 : Bay)].inGroup = true := by
  decide +kernel
theorem witness_loss_in_test : full.bays[(10 : Bay)].state = .test ∧
    full.line.bays[(10 : Bay)].presence = .present := by decide +kernel
/-- Removal: a bay with power, a QUEUED one, and one without either. -/
theorem witness_removal : full.line.bays[(7 : Bay)].presence = .present ∧ powered full.bays[(7 : Bay)].state = true ∧
    full.bays[(4 : Bay)].state = .queued ∧ full.line.bays[(4 : Bay)].presence = .present ∧
    full.bays[(3 : Bay)].state = .off ∧ full.line.bays[(3 : Bay)].presence = .present := by decide +kernel
theorem witness_seating_auto : full.bays[(1 : Bay)].state = .seating ∧ full.line.bays[(1 : Bay)].debounce = some 1500 ∧
    full.bays[(1 : Bay)].policy = .auto := by decide +kernel
theorem witness_seating_manual : manualSeating.bays[(1 : Bay)].state = .seating ∧
    manualSeating.line.bays[(1 : Bay)].debounce = some 1500 ∧ manualSeating.bays[(1 : Bay)].policy = .manual := by
  decide +kernel
theorem witness_scan_group : full.line.groupTimer = some 1500 ∧ full.line.bays[(2 : Bay)].inGroup = true ∧
    full.bays[(2 : Bay)].policy = .auto ∧ full.line.bays[(3 : Bay)].inGroup = false ∧
    manualGroup.line.groupTimer = some 1500 ∧ manualGroup.line.bays[(2 : Bay)].inGroup = true ∧
    manualGroup.bays[(2 : Bay)].policy = .manual := by decide +kernel
theorem witness_start_window : full.bays[(13 : Bay)].state = .starting ∧ full.bays[(13 : Bay)].startTimer = some 8000 ∧
    full.bays[(13 : Bay)].retriesLeft = 0 ∧ full.bays[(6 : Bay)].state = .starting ∧
    full.bays[(6 : Bay)].startTimer = some 9000 ∧ 0 < full.bays[(6 : Bay)].retriesLeft ∧
    full.power.stagger.isSome = true := by decide +kernel
theorem witness_start_window_unstaggered : BaysConsistent unstaggered ∧ unstaggered.bays[(6 : Bay)].state = .starting ∧
    unstaggered.bays[(6 : Bay)].startTimer = some 9000 ∧ 0 < unstaggered.bays[(6 : Bay)].retriesLeft ∧
    unstaggered.power.stagger = none := ⟨baysConsistent_congr (s := full) rfl rfl witness_full_bays, by decide +kernel⟩
theorem witness_cycle_expiry : full.bays[(8 : Bay)].state = .cycling ∧ full.bays[(8 : Bay)].cycleTimer = some 2000 := by
  decide +kernel

/-! ### Witnesses: admission and overcurrent -/

theorem witness_admission : BaysConsistent roomy ∧ BudgetKept roomy ∧ roomy.power.stagger = some 4000 ∧
    0 < roomy.power.staggerSetting ∧ startingCount roomy < effectiveLimit roomy ∧
    roomy.power.queue = [] ++ ⟨5, .priority⟩ :: [⟨4, .normal⟩] ∧
    roomy.power.blocked[roomy.bays[(5 : Bay)].cfgZone] = false ∧
    committed roomy + roomy.power.classes[roomy.bays[(5 : Bay)].cfgClass].startDraw ≤ roomy.power.live :=
  ⟨baysConsistent_congr (s := full) rfl rfl witness_full_bays, ⟨by decide +kernel, by decide +kernel, fun _ h => by cases h⟩,
    by decide +kernel⟩
theorem witness_no_place : full.power.stagger = some 4000 ∧ effectiveLimit full ≤ startingCount full := by decide +kernel
theorem witness_all_blocked : blocked.power.stagger = some 4000 ∧
    ∀ y ∈ blocked.power.queue, blocked.power.blocked[blocked.bays[y.bay].cfgZone] = true := by decide +kernel
theorem witness_no_budget : tight.power.stagger = some 4000 ∧
    tight.power.queue = [] ++ ⟨5, .priority⟩ :: [⟨4, .normal⟩] ∧
    tight.power.blocked[tight.bays[(5 : Bay)].cfgZone] = false ∧
    tight.power.live < committed tight + tight.power.classes[tight.bays[(5 : Bay)].cfgClass].startDraw := by
  decide +kernel
theorem witness_overcurrent_input : powered full.bays[(7 : Bay)].state = true ∧ full.power.ocFilter[(7 : Bay)] = .clear ∧
    powered full.bays[(0 : Bay)].state = false ∧ full.power.ocFilter[(6 : Bay)] ≠ .clear := by decide +kernel
theorem witness_overcurrent_persists : powered full.bays[(6 : Bay)].state = true ∧
    full.power.ocFilter[(6 : Bay)] = .timing 1010 := by decide +kernel
theorem witness_trips : tripPending .overcurrent full.bays[(15 : Bay)] = true ∧
    tripPending .overtemp full.bays[(15 : Bay)] = false := by decide +kernel

/-! ### Witnesses: frames -/

/-- A DATA frame from the controller at U0 to an address. -/
def toward (dest : Addr) : Frame := frame .data 0x100001 dest []

theorem witness_intake : heldBack (.up .u1) full = true ∧ enabled 0 full = false ∧ heldBack (.up .u0) full = false ∧
    parseFrame [] = none ∧ heldBack (.bay 15) full = false ∧ enabled 15 full = true := by decide +kernel

theorem routed_of_parse (dest : Addr) (h : parseFrame (frameBytes (toward dest)) = some (toward dest)) :
    RoutedArrival (.up .u0) (frameBytes (toward dest)) (toward dest) full :=
  ⟨witness_intake.2.2.1, nofun, h, by simp [toward, frame], by simp [toward, frame]⟩

theorem witness_routed_bay : RoutedArrival (.up .u0) (frameBytes (toward 0x30000F)) (toward 0x30000F) full ∧
    lookup 0x30000F full = some (.bay 15) ∧ full.bays[(15 : Bay)].state = .online ∧
    (full.fwd.bayQueue[(15 : Bay)]).length < 8 := ⟨routed_of_parse _ (by decide +kernel), by decide +kernel⟩
theorem witness_routed_up : RoutedArrival (.up .u0) (frameBytes (toward 0x200000)) (toward 0x200000) full ∧
    lookup 0x200000 full = some (.up .u1) ∧ full.fwd.up[upIdx .u1].linkUp = true ∧
    full.fwd.up[upIdx .u1].normal.length < 32 := ⟨routed_of_parse _ (by decide +kernel), by decide +kernel⟩
theorem witness_routed_back : RoutedArrival (.up .u0) (frameBytes (toward 0x100001)) (toward 0x100001) full ∧
    lookup 0x100001 full = some (.up .u0) := ⟨routed_of_parse _ (by decide +kernel), by decide +kernel⟩
theorem witness_routed_waits : RoutedArrival (.up .u0) (frameBytes (toward 0x300007)) (toward 0x300007) full ∧
    lookup 0x300007 full = some (.bay 7) ∧ pathRefusal (.up .u0) (.bay 7) full = none ∧
    queueRoom (.bay 7) full = false := ⟨routed_of_parse _ (by decide +kernel), by decide +kernel⟩
theorem witness_refused_unknown : RoutedArrival (.up .u0) (frameBytes (toward 0x400000)) (toward 0x400000) full ∧
    lookup 0x400000 full = none ∧ (toward 0x400000).kind ≠ .status ∧ full.fwd.up[upIdx .u0].priority.length < 16 :=
  ⟨routed_of_parse _ (by decide +kernel), by decide +kernel⟩
theorem witness_refused_bay : RoutedArrival (.up .u0) (frameBytes (toward 0x200001)) (toward 0x200001) full ∧
    lookup 0x200001 full = some (.bay 3) ∧ full.bays[(3 : Bay)].state ≠ .online :=
  ⟨routed_of_parse _ (by decide +kernel), by decide +kernel⟩

/-- `full` with U1 DOWN and nothing at it. -/
def oneLink : State :=
  { full with fwd := { full.fwd with
      up := upd full.fwd.up 1 (fun u => { u with linkUp := false })
      waiting := tab fun _ => none, transmitting := tab fun _ => none } }

/-- `full` with sixteen frames in the priority queue of U0. -/
def crowded : State :=
  { full with
    fwd := { full.fwd with up := upd full.fwd.up 0 (fun u => { u with priority := List.replicate 16 someHeld, arbiter := 4 })
                           waiting := tab fun p => if p = 16 then some ⟨toward 0x300007, .bay 7, 990, 1010, 0, false⟩ else none } }

theorem witness_oneLink_atRest : AtRest oneLink := atRest_like_full (by decide +kernel)
theorem witness_crowded_atRest : AtRest crowded := atRest_like_full (by decide +kernel)

/-- A STATUS frame without a route. -/
def lostStatus : Frame := frame .status 0x100001 0x400000 [1, 1, 0, 0, 0, 0, 0, 0]

theorem witness_refused_path : RoutedArrival (.up .u0) (frameBytes (toward 0x200000)) (toward 0x200000) oneLink ∧
    lookup 0x200000 oneLink = some (.up .u1) ∧ oneLink.fwd.up[upIdx .u1].linkUp = false :=
  ⟨⟨by decide +kernel, nofun, by decide +kernel, by decide, by simp [toward, frame]⟩, by decide +kernel⟩
theorem witness_refused_status : RoutedArrival (.up .u0) (frameBytes lostStatus) lostStatus full ∧
    lookup lostStatus.dest full = none ∧ lostStatus.kind = .status :=
  ⟨⟨witness_intake.2.2.1, nofun, by decide +kernel, by decide, by simp [lostStatus, frame]⟩,
    by decide +kernel⟩

/-- `crowded` with the wait slot of U0 free. -/
def crowdedOpen : State := { crowded with fwd := { crowded.fwd with waiting := tab fun _ => none } }

theorem witness_refused_dropped : AtRest crowdedOpen ∧
    RoutedArrival (.up .u0) (frameBytes (toward 0x400000)) (toward 0x400000) crowdedOpen ∧
    lookup 0x400000 crowdedOpen = none ∧ 16 ≤ crowdedOpen.fwd.up[upIdx .u0].priority.length :=
  ⟨atRest_like_full (by decide +kernel),
    ⟨by decide +kernel, nofun, by decide +kernel, by decide, by simp [toward, frame]⟩, by decide +kernel⟩

/-- A rule that reads byte 0 of every DATA frame of profile 0 as a signed temperature. -/
def anyRule : SnoopRule := ⟨true, 0, .data, 0, 0, 0, 0, .signedC, .temperature⟩

/-- `full` with that rule, and a streak of 1 on bay 15. -/
def snooping : State :=
  { full with therm := { full.therm with rules := put full.therm.rules 0 anyRule
                                         records := upd full.therm.records 15 fun r => { r with streak := 1 } } }

/-- A DATA frame of bay 15 that carries 70 °C. -/
def hotFrame : Frame := frame .data 0x30000F 0x100001 [70, 0, 0, 0]

theorem witness_reading : BaysConsistent snooping ∧ RoutedArrival (.bay 15) (frameBytes hotFrame) hotFrame snooping ∧
    lookup hotFrame.dest snooping = some (.up .u0) ∧ snooping.fwd.up[upIdx .u0].linkUp = true ∧
    snooping.fwd.up[upIdx .u0].normal.length < 32 ∧ snooping.bays[(15 : Bay)].state = .online ∧
    snooping.bays[(15 : Bay)].profile = some 0 ∧ actingRule snooping.therm.rules 0 hotFrame = some anyRule ∧
    decodeTemp anyRule.encoding (byteAt hotFrame.payload anyRule.byte) = some 70 ∧ snooping.therm.warn ≤ 70 ∧
    snooping.therm.records[(15 : Bay)].reading = none ∧ snooping.therm.shutdown ≤ 70 ∧
    snooping.therm.records[(15 : Bay)].streak + 1 = snooping.therm.otFilter ∧ snooping.bays[(15 : Bay)].otProt = true :=
  ⟨baysConsistent_congr (s := full) rfl rfl witness_full_bays,
    ⟨by decide +kernel, by decide +kernel, by decide +kernel, by decide, by simp [hotFrame, frame]⟩, by decide +kernel⟩

theorem witness_reading_budget : BudgetKept snooping := budgetKept_congr (t := full) rfl rfl witness_full_budget

/-- A drive's HELLO: role DRIVE, class 1, profile 0. -/
def helloOf (src : Addr) : Frame := ⟨.hello, 0, 0, src, 0x1100, [0, 0, 0, 0, 0, 0, 0, 9]⟩

theorem witness_hello_accepted : full.bays[(13 : Bay)].state = .starting ∧ heldBack (.bay 13) full = false ∧
    parseFrame (frameBytes (helloOf 0x30000D)) = some (helloOf 0x30000D) ∧
    screenDriveHello (helloOf 0x30000D) = some ⟨0x30000D, 1, 0, 9⟩ ∧
    addressTaken (.bay 13) 0x30000D full = false ∧ (0x30000D : Addr) ≠ switchAddr full ∧
    committed full - full.power.charge[(13 : Bay)] + full.power.classes[(1 : ClassNo)].runDraw ≤ full.power.live := by
  decide +kernel
theorem witness_hello_address_free : ∀ i : Fin 18, fullLearned i ≠ some 0x30000D := by decide +kernel
theorem witness_hello_conflict : parseFrame (frameBytes (helloOf 0x300007)) = some (helloOf 0x300007) ∧
    screenDriveHello (helloOf 0x300007) = some ⟨0x300007, 1, 0, 9⟩ ∧ addressTaken (.bay 13) 0x300007 full = true := by
  decide +kernel

/-- `full` with a ceiling below the draw of bay 13's class. -/
def starved : State := withPower fun p => { p with live := 500 }

theorem witness_hello_overbudget : BaysConsistent starved ∧ starved.bays[(13 : Bay)].state = .starting ∧
    heldBack (.bay 13) starved = false ∧ addressTaken (.bay 13) 0x30000D starved = false ∧
    starved.power.live < committed starved - starved.power.charge[(13 : Bay)] +
      starved.power.classes[(1 : ClassNo)].runDraw :=
  ⟨baysConsistent_congr (s := full) rfl rfl witness_full_bays, by decide +kernel⟩

/-- A controller's HELLO. -/
def controllerOf (src : Addr) : Frame := ⟨.hello, 0, 0, src, 0x2000, [0, 0, 0, 0, 0, 0, 0, 9]⟩

theorem witness_controller_hello : heldBack (.up .u0) full = false ∧
    parseFrame (frameBytes (controllerOf 0x100005)) = some (controllerOf 0x100005) ∧
    screenControllerHello (controllerOf 0x100005) = some 0x100005 ∧ learnedAddr full (.up .u0) = some 0x100001 ∧
    (∀ i : Fin 18, fullLearned i ≠ some 0x100005) ∧ (∀ i : Fin 30, staticAddr full i ≠ some 0x100005) ∧
    (0x100005 : Addr) ≠ switchAddr full ∧ learnedAddr full (.bay 7) = some 0x300007 := by decide +kernel
theorem witness_controller_hello_again :
    parseFrame (frameBytes (controllerOf 0x100001)) = some (controllerOf 0x100001) ∧
    screenControllerHello (controllerOf 0x100001) = some 0x100001 := by decide +kernel
theorem witness_controller_hello_taken :
    parseFrame (frameBytes (controllerOf 0x300007)) = some (controllerOf 0x300007) ∧
    screenControllerHello (controllerOf 0x300007) = some 0x300007 := by decide +kernel

/-- A READ_IDENT request for the switch. -/
def identRequest : Frame := requestFrame 5 0x100001 0xFA0000 0x0101 []

/-- `full` with four requests waiting at U0. -/
def busy : State :=
  { full with mgmt := { full.mgmt with requests := tab fun p => if p = 0 then List.replicate 4 identRequest else [] } }

theorem witness_busy_atRest : AtRest busy := atRest_like_full (by decide +kernel)
theorem witness_intake_request : parseFrame (frameBytes identRequest) = some identRequest ∧ identRequest.kind = .mgmtReq ∧
    identRequest.dest = switchAddr full ∧ (full.mgmt.requests[upIdx .u0]).length < 4 ∧
    4 ≤ (busy.mgmt.requests[upIdx .u0]).length ∧ busy.fwd.up[upIdx .u0].priority.length < 16 ∧
    heldBack (.up .u0) busy = false ∧ identRequest.dest = switchAddr busy := by decide +kernel
theorem witness_arbiter : full.fwd.transmitting[portIdx (.up .u0)] = none ∧ full.fwd.up[upIdx .u0].linkUp = true ∧
    full.fwd.up[upIdx .u0].priority = someHeld :: [] ∧ full.fwd.up[upIdx .u0].arbiter < 4 ∧
    someHeld.frame.kind ≠ .notice ∧ crowded.fwd.transmitting[portIdx (.up .u0)] = none ∧
    crowded.fwd.up[upIdx .u0].normal = someHeld :: [] ∧ 4 ≤ crowded.fwd.up[upIdx .u0].arbiter ∧
    crowded.fwd.up[upIdx .u0].linkUp = true := by decide +kernel
theorem witness_bay_transmission : full.fwd.transmitting[portIdx (.bay 7)] = none ∧ enabled 7 full = true ∧
    full.fwd.bayQueue[(7 : Bay)] = someHeld :: List.replicate 7 someHeld := by decide +kernel
theorem witness_timeout : full.fwd.waiting[portIdx (.up .u1)] =
      some ⟨frame .data 0x100002 0x300007 [], .bay 7, 990, 1010, 0, false⟩ ∧ full.fwd.up[upIdx .u1].linkUp = true ∧
    full.fwd.up[upIdx .u1].priority.length < 16 ∧
    crowded.fwd.waiting[portIdx (.up .u0)] = some ⟨toward 0x300007, .bay 7, 990, 1010, 0, false⟩ ∧
    16 ≤ crowded.fwd.up[upIdx .u0].priority.length ∧ crowded.fwd.up[upIdx .u0].linkUp = true := by decide +kernel

/-- `full` with a STATUS frame in the wait slot of U1. -/
def statusWaits : State :=
  let w : Waiting := ⟨frame .status 0x100002 0x300007 [], .bay 7, 990, 1010, 0, false⟩
  { full with fwd := { full.fwd with waiting := tab fun p => if p = 17 then some w else none } }

theorem witness_timeout_status : AtRest statusWaits ∧ statusWaits.fwd.up[upIdx .u1].linkUp = true ∧
    (statusWaits.fwd.waiting[portIdx (.up .u1)]).map (fun w => w.frame.kind) = some .status :=
  ⟨atRest_like_full (by decide +kernel), by decide +kernel⟩

/-- `full` with the response a pending restart waits on in transmission on U1. -/
def restarting : State :=
  { full with
    fwd := { full.fwd with transmitting := tab fun p => if p = 17 then some ⟨identRequest, .restart⟩ else none }
    mgmt := { full.mgmt with restart := some ⟨.u1, .transmitting⟩ } }

theorem witness_completion : full.fwd.transmitting[portIdx (.up .u1)] = some someHeld ∧ someHeld.origin ≠ .restart := by
  decide +kernel
theorem witness_restart : AtRest restarting ∧
    restarting.fwd.transmitting[portIdx (.up .u1)] = some ⟨identRequest, .restart⟩ ∧
    restarting.mgmt.restart.isSome = true := ⟨atRest_like_full (by decide +kernel), by decide +kernel⟩
theorem witness_links : full.fwd.up[upIdx .u0].linkUp = true ∧ oneLink.fwd.up[upIdx .u1].linkUp = false ∧
    restartOn .u0 full = false := by decide +kernel
theorem witness_frame_bytes : (toward 0x30000F).payload.length % 4 = 0 ∧ (toward 0x30000F).payload.length ≤ 1020 ∧
    parseFrame (frameBytes (toward 0x30000F)) = some (toward 0x30000F) := by decide +kernel

/-! ### Witnesses: the update period, fans and lights -/

/-- Fan modules for each judgement of a window: STALLED rotors, a GOOD window, a LOW one, a run about to turn. -/
def fans : State :=
  { full with cool := { full.cool with modules := tab fun m =>
      let x := full.cool.modules[m]
      if m = 1 then { x with lowWindow := true }
      else if m = 2 then { x with rotorA := ⟨60, 0, true, 0⟩, rotorB := ⟨60, 0, false, 1⟩, state := .degraded }
      else if m = 3 then { x with rotorA := ⟨60, 0, true, 2⟩, rotorB := ⟨0, 0, false, 2⟩, state := .degraded }
      else if m = 4 then { x with rotorA := ⟨0, 0, true, 1⟩, state := .degraded, zone := 1 }
      else if m = 5 then { x with zone := 1 }
      else x } }

/-- The state of the manual's worked figure of section 7.3, "one computation in zone 1": bays 4 and 5 ONLINE with fresh
readings, bay 6 with a stale one, bay 7 STARTING, rotor B of module 2 STALLED, output 500. -/
def zoneOne : State :=
  let s := State.reset
  let inZoneOne (r : BayRecord) (st : BayState) : BayRecord := { r with state := st, activeZone := some 1 }
  let turning : RotorUnit := ⟨40, 0, false, 0⟩
  { s with
    bays := tab fun b => if b.val = 4 ∨ b.val = 5 ∨ b.val = 6 then inZoneOne s.bays[b] .online
      else if b.val = 7 then inZoneOne s.bays[b] .starting else s.bays[b]
    therm := { s.therm with
      records := tab fun b => { s.therm.records[b] with
        reading := [none, none, none, none, some 41, some 38, some 60].getD b.val none, age := if b = 6 then 10 else 0 }
      sensors := upd s.therm.sensors 1 fun x => { x with offset := 2 } }
    cool := { s.cool with
      zones := upd s.cool.zones 1 fun z => { z with output := some 500 }
      modules := tab fun m => { s.cool.modules[m] with
        rotorA := turning, rotorB := if m = 2 then ⟨0, 0, true, 0⟩ else turning } } }

/-- Section 7.3's worked figure: base 500, sum 550, target 734, output 600, and modules 2 and 3 take it. -/
theorem test_worked_zone_one : (match exec (.updatePeriod (tab fun n => if n = 1 then some 30 else none)) zoneOne with
    | .next t => [t.cool.zones[1].base, t.cool.zones[1].sum, t.cool.zones[1].target, t.cool.zones[1].output.getD 0,
        t.cool.modules[2].duty, t.cool.modules[3].duty]
    | _ => []) = [500, 550, 734, 600, 600, 600] := by decide +kernel

theorem witness_fans_bays : BaysConsistent fans := baysConsistent_congr (s := full) rfl rfl witness_full_bays
/-- A window of no pulses is below the stall rpm, and one of 60 pulses is above it. -/
theorem witness_windows : 0 * 30000 / fans.cool.periodLength < fans.cool.stallRpm ∧
    ¬60 * 30000 / fans.cool.periodLength < fans.cool.stallRpm ∧
    fans.cool.modules[(1 : FanModule)].lowWindow = true ∧ fans.cool.modules[(0 : FanModule)].lowWindow = false ∧
    fans.cool.modules[(2 : FanModule)].rotorA.stalled = true ∧ fans.cool.modules[(2 : FanModule)].rotorB.run = 1 ∧
    fans.cool.stallFilter ≤ fans.cool.modules[(3 : FanModule)].rotorA.run + 1 ∧
    fans.cool.stallFilter ≤ fans.cool.modules[(3 : FanModule)].rotorB.run + 1 := by decide +kernel
theorem witness_empty_zone : ∀ m : FanModule, fans.cool.modules[m].zone ≠ 2 := by decide +kernel
theorem witness_full_zone : full.cool.modules[(0 : FanModule)].zone = 0 ∧
    full.cool.modules[(0 : FanModule)].override ≠ none ∧ full.cool.modules[(1 : FanModule)].override = none := by
  decide +kernel
theorem witness_override_end : full.cool.modules[(0 : FanModule)].override = some ⟨1000, 9000⟩ := by decide +kernel
theorem witness_light_timers : (full.light.bays[(7 : Bay)]).locate = .until 5000 ∧
    (full.light.bays[(3 : Bay)]).locate = .forever ∧ (full.light.bays[(7 : Bay)]).window = some 1060 := by decide +kernel
theorem witness_pattern_turn : 0 < full.light.patterns[(2 : PatternNo)].onTime ∧
    0 < full.light.patterns[(2 : PatternNo)].offTime ∧ full.light.patterns[(2 : PatternNo)].clock ≤ full.now := by
  decide +kernel
/-- The power-on curve meets the hypotheses on a curve, with a temperature for each case. -/
theorem witness_curve : ascending ZoneUnit.default.curve = true ∧ nondecreasing ZoneUnit.default.curve = true ∧
    ZoneUnit.default.curve = [] ++ ⟨25, 200⟩ :: ⟨35, 350⟩ :: [⟨45, 600⟩, ⟨55, 1000⟩] ∧ (25 : Int) ≤ 34 ∧ (34 : Int) < 35 := by
  decide

/-! ### Witnesses: requests -/

/-- A request with this code and these arguments. -/
def req (code : BitVec 16) (args : List Word) : Frame := requestFrame 5 0x100001 (switchAddr full) code args

/-- `full` with that request waiting at U0. -/
def asked (code : BitVec 16) (args : List Word) : State := full.withRequest .u0 5 0x100001 code args

/-- Every request that is put to `full` is the next one, and the part is at rest with it. -/
theorem witness_asked (code : BitVec 16) (n : Nat) (args : List Word) (h : n ≤ args.length) :
    Serves code n .u0 (req code args) (asked code args) ∧ AtRest (asked code args) ∧ BaysConsistent (asked code args) ∧
      (asked code args).pending = full.pending :=
  ⟨serves_withRequest full .u0 5 0x100001 code args (by decide +kernel) (by decide +kernel) n h,
    atRest_pushRequest _ _ _ witness_full_atRest, baysConsistent_congr (s := full) rfl rfl witness_full_bays, rfl⟩

/-! ### Witnesses: frames of bay ports, flushes, the places that open -/

/-- The state that a command answers. -/
def after (c : Instr) (s : State) : State :=
  match exec c s with
  | .next t => t
  | _ => s

/-- Bay 7 leaves power in each way that the flush is stated for, and no other bay does. -/
def flushes (b : Bay) (c : Instr) (s : State) : Bool :=
  enabled b s && !enabled b (after c s) && allBays.all fun d => d = b || !enabled d s || enabled d (after c s)

theorem witness_flush_commands : flushes 7 (.presenceLost 7) full = true ∧
    flushes 15 (.protectionTrip 15 .overcurrent) full = true ∧
    flushes 7 .powerOff (asked 0x0111 [7, 0]) = true ∧ flushes 7 .powerCycle (asked 0x0112 [7, 5]) = true ∧
    flushes 7 .setBayLines (asked 0x0120 [0x80, 1, 0, 0, 0, 0, 0]) = true ∧
    flushes 13 (.driveHello 13 (frameBytes (helloOf 0x300007))) full = true := by decide +kernel
theorem witness_flush_overtemp : flushes 15 (.protectionTrip 15 .overtemp)
    (withRecord 15 fun r => { r with otTrip := true }) = true := by decide +kernel
theorem witness_asked_bounded (code : BitVec 16) (args : List Word) : QueuesBounded (asked code args) where
  bay := witness_full_bounded.bay
  normal := witness_full_bounded.normal
  priority := witness_full_bounded.priority
  requests := by
    have h0 : (full.mgmt.requests[(0 : Fin 2)]).length < Config.requestQueueSize := by decide +kernel
    have h1 : (full.mgmt.requests[(1 : Fin 2)]).length ≤ Config.requestQueueSize := by decide +kernel
    refine forall_upPorts ?_ ?_
    · simpa [asked, State.withRequest, pushRequest, upd, tab, upIdx] using h0
    · simpa [asked, State.withRequest, pushRequest, upd, tab, upIdx] using h1
  notices := witness_full_bounded.notices
  counters := witness_full_bounded.counters
/-- The flush of bay 7 of `full` answers the eight frames of its queue through U0, and the one that waits through U1. -/
theorem witness_flush_answers : (answeredAt (.bay 7) (.up .u0) full).length = 8 ∧ statusPlaces (.up .u0) full = 15 ∧
    (answeredAt (.bay 7) (.up .u1) full).length = 1 ∧ heldAt (.bay 7) full = 8 := by decide +kernel

/-- A frame that waits at port `p` of `full` for the queue of U0, with the other ports' slots empty. -/
def waitsFor (p : Fin 18) : State :=
  let w : Waiting := ⟨frame .data 0x30000F 0x100001 [], .up .u0, 990, 1010, 0, false⟩
  { full with fwd := { full.fwd with waiting := tab fun i => if i = p then some w else none } }

theorem witness_link_waits : AtRest (waitsFor 15) ∧ restartOn .u0 (waitsFor 15) = false ∧
    (answeredAt (.up .u0) (.bay 15) (waitsFor 15)).length = 1 ∧ (full.fwd.bayQueue[(15 : Bay)]).length < 8 ∧
    (answeredAt (.up .u0) (.bay 7) (waitsFor 7)).length = 1 ∧ (full.fwd.bayQueue[(7 : Bay)]).length = 8 ∧
    (answeredAt (.up .u0) (.up .u1) (waitsFor 17)).length = 1 := ⟨atRest_like_full (by decide +kernel), by decide +kernel⟩
theorem witness_link_bounded : QueuesBounded (waitsFor 15) :=
  ⟨witness_full_bounded.bay, witness_full_bounded.normal, witness_full_bounded.priority, witness_full_bounded.requests,
    witness_full_bounded.notices, witness_full_bounded.counters⟩

/-- A bay whose slot is occupied is paused: its HELLO is held back. -/
theorem witness_paused : AtRest (waitsFor 15) ∧ enabled 15 (waitsFor 15) = true ∧
    (waitsFor 15).fwd.waiting[portIdx (.bay 15)] = some ⟨frame .data 0x30000F 0x100001 [], .up .u0, 990, 1010, 0, false⟩ ∧
    heldBack (.up .u1) full = true := ⟨atRest_like_full (by decide +kernel), by decide +kernel⟩

/-- Bay 8 STARTING with a retry left and room for its admission, a frame in its wait slot, and its HELLO held back. -/
def helloHeld : State :=
  let s := State.reset
  { s with
    bays := upd s.bays 8 fun r => { r with state := .starting, chargedClass := some 1, activeZone := some 2
                                           retriesLeft := 1, startTimer := some 8500 }
    power := { s.power with charge := put s.power.charge 8 300 }
    fwd := { s.fwd with waiting := put s.fwd.waiting 8 (some ⟨frame .data 0x300008 0x100001 [], .up .u0, 8490, 8510, 0, true⟩) } }

/-- R196: the expiry is taken first, so the waiting frame and the HELLO are lost, each counted, although the bay is admitted
again in the same step (R35). -/
theorem test_hello_lost : (match exec (.startWindowExpiry 8) helloHeld with
    | .next t => decide (t.bays[8].state = .starting ∧ t.fwd.waiting[8] = none ∧
        t.fwd.counters[8] = put helloHeld.fwd.counters[8] CounterKind.discarded.idx 2)
    | _ => false) = true := by decide +kernel
theorem witness_hello_lost : QueuesBounded helloHeld ∧ helloHeld.bays[8].state = .starting ∧
    helloHeld.bays[8].startTimer.isSome = true ∧ heldAt (.bay 8) helloHeld = 2 :=
  ⟨⟨by decide +kernel, forall_upPorts (by decide +kernel) (by decide +kernel),
      forall_upPorts (by decide +kernel) (by decide +kernel), forall_upPorts (by decide +kernel) (by decide +kernel),
      forall_upPorts (by decide +kernel) (by decide +kernel), witness_full_bounded.counters⟩, by decide +kernel⟩

/-- A frame of bay `b` to an address arrives at a port that takes it in. -/
def bayFrame (b : Bay) (kind : FrameKind) (dest : Addr) (s : State) : Bool :=
  let f := frame kind 0x300000 dest []
  enabled b s && !heldBack (.bay b) s && decide (parseFrame (frameBytes f) = some f)

theorem witness_bay_refused : bayFrame 15 .mgmtReq (switchAddr full) full = true ∧
    bayFrame 15 .data 0x400000 full = true ∧ lookup 0x400000 full = none ∧ (full.fwd.bayQueue[(15 : Bay)]).length = 0 ∧
    bayFrame 15 .status 0x400000 full = true ∧ bayFrame 7 .data 0x400000 full = true ∧
    (full.fwd.bayQueue[(7 : Bay)]).length = 8 ∧ bayFrame 15 .data 0x300007 full = true ∧
    lookup 0x300007 full = some (.bay 7) ∧ bayFrame 7 .data 0x300007 full = true ∧
    bayFrame 15 .data 0x200000 oneLink = true ∧ lookup 0x200000 oneLink = some (.up .u1) := by decide +kernel
theorem witness_bay_joins : bayFrame 13 .data 0x100001 full = true ∧ lookup 0x100001 full = some (.up .u0) ∧
    full.fwd.up[upIdx .u0].normal.length < 32 ∧ full.bays[(13 : Bay)].state = .starting ∧
    full.bays[(15 : Bay)].profile = some 0 ∧
    actingRule full.therm.rules 0 (frame .data 0x300000 0x100001 []) = none := by decide +kernel

/-- `full` with 32 frames in the normal queue of U0. -/
def jammed : State :=
  { full with fwd := { full.fwd with up := upd full.fwd.up 0 fun u => { u with normal := List.replicate 32 someHeld } } }

theorem witness_bay_waits : AtRest jammed ∧ bayFrame 15 .data 0x100001 jammed = true ∧
    lookup 0x100001 jammed = some (.up .u0) ∧ jammed.fwd.up[upIdx .u0].normal.length = 32 ∧
    jammed.fwd.up[upIdx .u0].linkUp = true := ⟨atRest_like_full (by decide +kernel), by decide +kernel⟩
/-- A wait of a bay port whose own queue has room, and of one whose queue is full; the STATUS frame is one word of change. -/
theorem witness_bay_timeout : AtRest (waitsFor 7) ∧ (waitsFor 15).fwd.waiting[portIdx (.bay 15)] =
      some ⟨frame .data 0x30000F 0x100001 [], .up .u0, 990, 1010, 0, false⟩ ∧
    (waitsFor 7).fwd.waiting[portIdx (.bay 7)] =
      some ⟨frame .data 0x30000F 0x100001 [], .up .u0, 990, 1010, 0, false⟩ := ⟨atRest_like_full (by decide +kernel), by decide +kernel⟩

/-- `full` with a STATUS frame in the wait slot of bay 15. -/
def statusWaitsAtBay : State :=
  let w : Waiting := ⟨lostStatus, .up .u0, 990, 1010, 0, false⟩
  { full with fwd := { full.fwd with waiting := tab fun p => if p = 15 then some w else none } }

theorem witness_bay_timeout_status : AtRest statusWaitsAtBay ∧ lostStatus.kind = .status ∧
    statusWaitsAtBay.fwd.waiting[portIdx (.bay 15)] = some ⟨lostStatus, .up .u0, 990, 1010, 0, false⟩ :=
  ⟨atRest_like_full (by decide +kernel), by decide +kernel⟩

/-- A NOTICE as it stands in a priority queue, its overflow item not yet completed. -/
def someNotice : Held := ⟨noticeFrame 0xFA0000 0x100001 (.enclosure .ceilingReached 600), .built⟩

/-- `full` with a full priority queue at U0 whose front is `h`, with these notices and this response waiting for a place. -/
def placeWanted (h : Held) (notices : List Notice) (held : Option HeldResponse) : State :=
  { full with
    fwd := { full.fwd with up := upd full.fwd.up 0 fun u => { u with priority := h :: List.replicate 15 someHeld } }
    ev := { full.ev with subscribed := tab fun p => p = 0, overflow := tab fun p => p = 0
                         notices := tab fun p => if p = 0 then notices else [] }
    mgmt := { full.mgmt with held := held } }

/-- What the statement of TRANSMISSION_START asks of the queues of U0. -/
def startsPriority (s : State) : Bool :=
  decide (s.fwd.transmitting[portIdx (.up .u0)] = none) && s.fwd.up[upIdx .u0].linkUp &&
    decide (s.fwd.up[upIdx .u0].priority.length = 16) && decide (s.fwd.up[upIdx .u0].arbiter < 4)

theorem witness_held_place : AtRest (placeWanted someHeld [.enclosure .fanFailed 1] (some ⟨.u0, someHeld⟩)) ∧
    startsPriority (placeWanted someHeld [.enclosure .fanFailed 1] (some ⟨.u0, someHeld⟩)) = true :=
  ⟨atRest_like_full (by decide +kernel), by decide +kernel⟩
theorem witness_notice_place : AtRest (placeWanted someNotice [.enclosure .fanFailed 1] none) ∧
    startsPriority (placeWanted someNotice [.enclosure .fanFailed 1] none) = true ∧ someNotice.frame.kind = .notice ∧
    (placeWanted someNotice [.enclosure .fanFailed 1] none).route.learned[portIdx (.up .u0)] = some ⟨0x100001, none⟩ ∧
    (placeWanted someNotice [.enclosure .fanFailed 1] none).ev.overflow[upIdx .u0] = true :=
  ⟨atRest_like_full (by decide +kernel), by decide +kernel⟩
theorem witness_free_place : AtRest (placeWanted someHeld [] none) ∧ startsPriority (placeWanted someHeld [] none) = true ∧
    holdsFor .u0 (placeWanted someHeld [] none) = false := ⟨atRest_like_full (by decide +kernel), by decide +kernel⟩

theorem firstWaiter_of_only (q p : Port) (w : Waiting) (s : State) (h : s.fwd.waiting[portIdx p] = some w)
    (ht : w.target = q) (only : ∀ i : Fin 18, i ≠ portIdx p → s.fwd.waiting[i] = none) : FirstWaiter q p w s := by
  refine ⟨h, ht, fun p' w' hp hw _ => ?_⟩
  rw [only _ fun e => hp (portIdx_injective _ _ e)] at hw
  cases hw

theorem witness_egress_place : FirstWaiter (.bay 7) (.up .u1) ⟨frame .data 0x100002 0x300007 [], .bay 7, 990, 1010, 0, false⟩ full :=
  firstWaiter_of_only _ _ _ _ (by decide +kernel) rfl (by decide +kernel)

/-- `full` with the priority queue of U0 empty, and a frame of bay 15 that waits for its normal queue. -/
def normalFirst : State :=
  { waitsFor 15 with fwd := { (waitsFor 15).fwd with up := upd full.fwd.up 0 fun u => { u with priority := [] } } }

theorem witness_normal_place : AtRest normalFirst ∧
    FirstWaiter (.up .u0) (.bay 15) ⟨frame .data 0x30000F 0x100001 [], .up .u0, 990, 1010, 0, false⟩ normalFirst ∧
    normalFirst.fwd.up[upIdx .u0].priority = [] ∧ normalFirst.fwd.up[upIdx .u0].normal = [someHeld] ∧
    normalFirst.fwd.transmitting[portIdx (.up .u0)] = none ∧ normalFirst.fwd.up[upIdx .u0].linkUp = true :=
  ⟨atRest_like_full (by decide +kernel), firstWaiter_of_only _ _ _ _ (by decide +kernel) rfl (by decide +kernel),
    by decide +kernel⟩
theorem witness_no_waiter : ∀ i : Fin 18, ∀ w ∈ full.fwd.waiting[i], w.target ≠ .up .u0 := by decide +kernel

/-! ### Witnesses: HELLOs -/

/-- HELLOs that the screen of R27 turns away: payload length, role, class, profile. -/
def badHellos : List Frame :=
  [⟨.hello, 0, 0, 0x30000F, 0x1100, [0, 0, 0, 0]⟩, { helloOf 0x30000F with carried := 0x2100 },
    { helloOf 0x30000F with carried := 0x1800 }, { helloOf 0x30000F with carried := 0x1180 }]

theorem witness_hello_screened : enabled 15 full = true ∧ heldBack (.bay 15) full = false ∧
    (∀ f ∈ badHellos, parseFrame (frameBytes f) = some f) ∧
    badHellos.map (fun f => (f.words, helloRole f, helloClass f, helloProfile f)) =
      [(1, 1, 1, 0), (2, 2, 1, 0), (2, 1, 8, 0), (2, 1, 1, 8)] := by decide +kernel
/-- HELLOs of ONLINE bays: a refresh, a move, a move to a static address, and a move to an address that is taken. -/
theorem witness_hello_online : full.bays[(7 : Bay)].state = .online ∧ heldBack (.bay 7) full = false ∧
    full.bays[(7 : Bay)].driveAddr = some 0x300007 ∧
    ([0x300007, 0x300009, 0x200001, 0x30000F].all fun a => parseFrame (frameBytes (helloOf a)) = some (helloOf a) ∧
      screenDriveHello (helloOf a) = some ⟨a, 1, 0, 9⟩) = true ∧
    committed full - full.power.charge[(7 : Bay)] + full.power.classes[(1 : ClassNo)].runDraw ≤ full.power.live ∧
    (∀ i : Fin 18, fullLearned i ≠ some 0x300009 ∧ fullLearned i ≠ some 0x200001) ∧
    full.route.statics[(1 : Fin 30)] = some ⟨0x200001, .bay 3⟩ ∧ (∀ i : Fin 30, staticAddr full i ≠ some 0x300009) ∧
    learnedAddr full (.bay 15) = some 0x30000F ∧ switchAddr full = 0xFA0000 := by decide +kernel
theorem witness_hello_unfit : starved.bays[(7 : Bay)].state = .online ∧ heldBack (.bay 7) starved = false ∧
    starved.bays[(7 : Bay)].driveAddr = some 0x300007 ∧ ¬committed starved - starved.power.charge[(7 : Bay)] +
      starved.power.classes[(1 : ClassNo)].runDraw ≤ starved.power.live := by decide +kernel
theorem witness_starved_routes : RoutesDistinct starved := routesDistinct_congr (s := full) rfl rfl witness_full_routes
theorem witness_controller_screened : (∀ f ∈ badHellos.take 1 ++ [helloOf 0x100005],
      parseFrame (frameBytes f) = some f ∧ f.kind = .hello ∧ (f.words ≠ 2 ∨ helloRole f ≠ 2)) ∧
    parseFrame (frameBytes (controllerOf 0x200001)) = some (controllerOf 0x200001) ∧
    screenControllerHello (controllerOf 0x200001) = some 0x200001 := by decide +kernel

/-- `busy` with a full priority queue at U0. -/
def overrun : State :=
  { busy with fwd := { full.fwd with up := upd full.fwd.up 0 fun u => { u with priority := List.replicate 16 someHeld } } }

theorem witness_intake_dropped : AtRest overrun ∧ heldBack (.up .u0) overrun = false ∧
    (overrun.mgmt.requests[upIdx .u0]).length = 4 ∧ overrun.fwd.up[upIdx .u0].priority.length = 16 ∧
    identRequest.dest = switchAddr overrun := ⟨atRest_like_full (by decide +kernel), by decide +kernel⟩

/-! ### Witnesses: captures that fail, fault hints -/

/-- `full` with one snoop rule. -/
def ruled (r : SnoopRule) : State := { full with therm := { full.therm with rules := put full.therm.rules 0 r } }

/-- A DATA frame of bay 15 whose payload begins with a byte. -/
def byteFrame (v : Byte) : Frame := frame .data 0x30000F 0x100001 [v, 0, 0, 0]

/-- The frame of bay 15 with that byte arrives, and the rule acts on it. -/
def acted (r : SnoopRule) (v : Byte) : Bool :=
  decide (parseFrame (frameBytes (byteFrame v)) = some (byteFrame v)) && !heldBack (.bay 15) (ruled r) &&
    decide (lookup (byteFrame v).dest (ruled r) = some (.up .u0)) &&
    decide (actingRule (ruled r).therm.rules 0 (byteFrame v) = some r)

/-- 121 and -21 °C are the invalid temperatures next to the valid range. -/
theorem witness_invalid_reading : acted anyRule 0x79 = true ∧ decodeTemp anyRule.encoding 0x79 = some 121 ∧
    acted anyRule 0xEB = true ∧ decodeTemp anyRule.encoding 0xEB = some (-21) := by decide +kernel
theorem witness_fault_hint : let r := { anyRule with encoding := .nonzero, action := .faultHint }
    acted r 0 = true ∧ acted r 1 = true := by decide +kernel
theorem witness_ruled_bays (r : SnoopRule) : BaysConsistent (ruled r) :=
  baysConsistent_congr (s := full) rfl rfl witness_full_bays

theorem witness_ruled_budget (r : SnoopRule) : BudgetKept (ruled r) := budgetKept_congr (t := full) rfl rfl witness_full_budget

/-- `normalFirst` with one snoop rule, where a frame of bay 15 that carries a byte waits for the queue of U0. -/
def waited (r : SnoopRule) (v : Byte) : State :=
  { normalFirst with
    fwd := { normalFirst.fwd with waiting := tab fun i => if i = 15 then some ⟨byteFrame v, .up .u0, 990, 1010, 0, false⟩ else none }
    therm := (ruled r).therm }

theorem witness_waited (r : SnoopRule) (v : Byte) : BaysConsistent (waited r v) ∧
    FirstWaiter (.up .u0) (.bay 15) ⟨byteFrame v, .up .u0, 990, 1010, 0, false⟩ (waited r v) :=
  ⟨baysConsistent_congr (s := full) rfl rfl witness_full_bays,
    firstWaiter_of_only _ _ _ _ (by simp [waited, tab, portIdx]) rfl fun i hi => by
      have : i ≠ 15 := fun e => hi (by rw [e]; decide)
      simp [waited, tab, this]⟩

theorem witness_waited_budget (r : SnoopRule) (v : Byte) : BudgetKept (waited r v) :=
  budgetKept_congr (t := full) rfl rfl witness_full_budget

/-- The waiting frame takes the place that a transmission of U0 opens, and the rule acts on it. -/
def actedLate (r : SnoopRule) (v : Byte) : Bool :=
  decide ((waited r v).fwd.up[upIdx .u0].normal = [someHeld]) && (waited r v).fwd.up[upIdx .u0].priority.isEmpty &&
    (waited r v).fwd.up[upIdx .u0].linkUp && (waited r v).fwd.transmitting[portIdx (.up .u0)].isNone &&
    decide ((waited r v).bays[(15 : Bay)].state = .online) && decide ((waited r v).bays[(15 : Bay)].profile = some 0) &&
    decide (actingRule (waited r v).therm.rules 0 (byteFrame v) = some r)

/-- A valid reading, an invalid one and a fault hint that waited. -/
theorem witness_waited_readings : actedLate anyRule 70 = true ∧ actedLate anyRule 0x79 = true ∧
    actedLate { anyRule with encoding := .nonzero, action := .faultHint } 1 = true := by decide +kernel

/-! ### Witnesses: requests, one by one -/

/-- A request too short for its code, one of an unknown code, and one without a code. -/
theorem witness_short : nextRequest (asked 0x0112 [4]) = some (.u0, req 0x0112 [4]) ∧ (req 0x0112 [4]).words < 1 + 2 ∧
    nextRequest (asked 0x0999 []) = some (.u0, req 0x0999 []) ∧ (∀ x ∈ requestRows, x.2.1 ≠ 0x0999) ∧
    (⟨.mgmtReq, 0, 0, 0, 0, []⟩ : Frame).words = 0 := by decide +kernel
theorem witness_read_bay : (arg (req 0x0102 [15]) 0).toNat = 15 ∧ 16 ≤ (arg (req 0x0102 [16]) 0).toNat := by decide +kernel
/-- A bay of `full` for every state that a power request is turned away in. -/
theorem witness_turned_away : full.bays[(6 : Bay)].state = .starting ∧ full.bays[(7 : Bay)].state = .online ∧
    full.bays[(9 : Bay)].state = .faulted ∧ full.bays[(0 : Bay)].state = .empty ∧ full.bays[(1 : Bay)].state = .seating ∧
    full.bays[(8 : Bay)].state = .cycling ∧ full.bays[(10 : Bay)].state = .test ∧ full.bays[(3 : Bay)].state = .off ∧
    full.bays[(4 : Bay)].state = .queued ∧ full.bays[(12 : Bay)].hold = some (otherUp .u0) ∧
    16 ≤ (arg (req 0x0110 [16]) 0).toNat ∧ (arg (req 0x0110 [12]) 0).toNat = 12 := by decide +kernel
theorem witness_power_on : full.bays[(3 : Bay)].hold ≠ some (otherUp .u0) ∧ ⟨4, .normal⟩ ∈ full.power.queue ∧
    ⟨5, .priority⟩ ∈ full.power.queue ∧ (arg (req 0x0110 [3]) 0).toNat = 3 := by decide +kernel
theorem witness_power_off : (arg (req 0x0111 [3, 1]) 0).toNat = 3 ∧ arg (req 0x0111 [3, 1]) 1 ≠ 0 ∧
    arg (req 0x0111 [3, 0]) 1 = 0 ∧ full.bays[(3 : Bay)].hold = none ∧ powered full.bays[(7 : Bay)].state = true := by
  decide +kernel
theorem witness_clear_fault : full.bays[(9 : Bay)].state = .faulted ∧ full.bays[(14 : Bay)].prior =
    some (.faulted .overtemp) ∧ full.bays[(14 : Bay)].state ≠ .faulted ∧ full.bays[(14 : Bay)].state ≠ .empty := by
  decide +kernel
theorem witness_policy : let f := req 0x0114 [16, 1, 2, 3, 9, 0, 1]
    twoValued (arg f 1) = some true ∧ twoValued (arg f 5) = some false ∧ twoValued (arg f 6) = some true ∧
    emptySet (arg f 0) = false ∧ (arg f 2).toNat = 2 ∧ (arg f 3).toNat = 3 ∧ inSet (arg f 0) 4 = true ∧
    8 ≤ (arg (req 0x0114 [16, 1, 8, 3, 9, 0, 1]) 2).toNat := by decide +kernel
theorem witness_stagger : (arg (req 0x0131 [0, 8]) 1).toNat = 8 ∧
    max 1 (full.power.limit - weakZones full) < max 1 (8 - weakZones full) := by decide +kernel
theorem witness_class : (arg (req 0x0132 [7, 2000, 5, 5]) 0).toNat = 7 := by decide +kernel
theorem witness_oc_filter : emptySet (arg (req 0x0133 [0x8000, 50]) 0) = false ∧
    (arg (req 0x0133 [0x8000, 50]) 1).toNat ∈ [1, 5, 10, 50] := by decide +kernel
/-- SET_BAY_LINES: one bay that takes the record, and one with power that refuses a new polarity of PWR. -/
theorem witness_lines : let f := req 0x0120 [0x88, 0, 1, 0, 0, 0, 1]
    let lr := (⟨.low, .activeLow, .activeHigh, .full, .activeHigh, .reduced⟩ : LineRecord)
    lineRecordArg f = some lr ∧ emptySet (arg f 0) = false ∧
    (∀ b : Bay, inSet (arg f 0) b = true → (b = 3 ∨ b = 7)) ∧
    powered full.bays[(7 : Bay)].state = true ∧ full.line.bays[(7 : Bay)].record.pwrPol ≠ lr.pwrPol ∧
    presenceOf lr.prsActive full.line.bays[(3 : Bay)].prsIn = full.line.bays[(3 : Bay)].presence := by decide +kernel
theorem witness_preload : emptySet (arg (req 0x0124 [0x400, 1, 0]) 0) = false ∧
    twoValued (arg (req 0x0124 [0x400, 1, 0]) 1) = some true ∧ twoValued (arg (req 0x0124 [0x400, 1, 0]) 2) = some false := by
  decide +kernel
theorem witness_test_enter : emptySet (arg (req 0x0122 [0xFFFF]) 0) = false := by decide +kernel
/-- LINE_TEST_EXIT: TEST bays with each prior state, with and without a drive. -/
theorem witness_test_exit : emptySet (arg (req 0x0125 [0xFFFF]) 0) = false ∧ inSet (arg (req 0x0125 [0xFFFF]) 0) 15 = true ∧
    full.bays[(10 : Bay)].prior = some .off ∧ full.line.bays[(10 : Bay)].presence = .present ∧
    full.bays[(14 : Bay)].prior = some (.faulted .overtemp) ∧ full.line.bays[(14 : Bay)].presence = .present ∧
    full.bays[(11 : Bay)].prior = some .empty ∧ full.line.bays[(11 : Bay)].presence = .absent := by decide +kernel

/-- `full` with a drive in the TEST bay that was EMPTY, and none in the one that was OFF. -/
def swapped : State :=
  let lines : Vector LineUnit 16 := upd full.line.bays 11 fun u => { u with presence := .present }
  { full with line := { full.line with bays := upd lines 10 fun u => { u with presence := .absent } } }

theorem witness_test_exit_swapped : BaysConsistent (swapped.withRequest .u0 5 0x100001 0x0125 [0xFFFF]) ∧
    Serves 0x0125 1 .u0 (requestFrame 5 0x100001 (switchAddr swapped) 0x0125 [0xFFFF])
      (swapped.withRequest .u0 5 0x100001 0x0125 [0xFFFF]) ∧
    swapped.bays[(11 : Bay)].prior = some .empty ∧ swapped.line.bays[(11 : Bay)].presence = .present ∧
    0 < swapped.line.debounceSetting ∧ swapped.bays[(10 : Bay)].prior = some .off ∧
    swapped.line.bays[(10 : Bay)].presence = .absent :=
  ⟨baysConsistent_congr (s := full) rfl rfl witness_full_bays,
    serves_withRequest swapped .u0 5 0x100001 0x0125 [0xFFFF] (by decide +kernel) (by decide +kernel) 1 (by decide),
    by decide +kernel⟩

/-- The set in word 0 is empty. -/
def emptyFirst (w : Nat → Nat) : Bool := w 0 % 65536 == 0

/-- Word `k` is above `n`. -/
def above (n k : Nat) (w : Nat → Nat) : Bool := n < w k

/-- Requests that are answered BAD_REQUEST, each with the clause that it meets at the first value outside the list. -/
def badRequests : List (BitVec 16 × List Word × ((Nat → Nat) → Bool)) :=
  [(0x0114, [0x10000, 0, 0, 0, 0, 0, 0], emptyFirst), (0x0114, [1, 2, 0, 0, 0, 0, 0], above 1 1),
    (0x0114, [1, 0, 0, 0, 0, 2, 0], above 1 5), (0x0114, [1, 0, 0, 0, 0, 0, 2], above 1 6),
    (0x0120, [0, 0, 0, 0, 0, 0, 0], emptyFirst), (0x0120, [1, 2, 0, 0, 0, 0, 0], above 1 1),
    (0x0120, [1, 0, 0, 0, 0, 0, 2], above 1 6), (0x0122, [0], emptyFirst), (0x0125, [0], emptyFirst),
    (0x0124, [0, 0, 0], emptyFirst), (0x0124, [1, 2, 0], above 1 1), (0x0124, [1, 0, 2], above 1 2),
    (0x0133, [0, 1], emptyFirst), (0x0133, [1, 2], fun w => w 1 ∉ [1, 5, 10, 50]), (0x0141, [2], above 1 0),
    (0x0160, [0, 2, 0, 1, 0, 0, 0, 0, 0, 0], above 1 1), (0x0160, [0, 0, 0, 3, 0, 0, 0, 0, 0, 0], above 2 3),
    (0x0160, [0, 0, 0, 1, 0, 0, 0, 0, 3, 0], above 2 8), (0x0160, [0, 0, 0, 1, 0, 0, 0, 0, 0, 2], above 1 9),
    (0x0162, [0, 0, 0, 2], above 1 3), (0x0180, [0, 0, 0, 0, 0, 0], emptyFirst), (0x0180, [1, 3, 0, 0, 0, 0], above 2 1),
    (0x0180, [1, 0, 3, 0, 0, 0], above 2 2), (0x0180, [1, 0, 0, 3, 0, 0], above 2 3),
    (0x0180, [1, 0, 0, 0, 1, 0], fun w => w 4 ≠ 0 ∧ w 4 ≠ 2), (0x0183, [2], above 1 0), (0x0191, [2], above 1 0),
    (0x0190, [0x2000000], fun w => 1 < w 0 / 16777216)]

/-- Requests that are answered OUT_OF_RANGE: the first identifier outside each numbering. -/
def rangeRequests : List (BitVec 16 × List Word × ((Nat → Nat) → Bool)) :=
  [(0x0132, [8, 0, 0, 0], above 7 0), (0x0160, [8, 0, 0, 1, 0, 0, 0, 0, 0, 0], above 7 0),
    (0x0160, [0, 0, 8, 1, 0, 0, 0, 0, 0, 0], above 7 2), (0x0162, [4, 0, 0, 0], above 3 0),
    (0x0162, [0, 4, 0, 0], above 3 1), (0x0170, [4, 1, 0, 0], above 3 0), (0x0171, [4, 0, 0, 0, 0, 0], above 3 0),
    (0x0172, [0, 0, 0, 0, 0, 0, 0, 4], above 3 7), (0x0173, [8, 0, 0], above 7 0), (0x0181, [8, 0, 0], above 7 0),
    (0x0182, [0, 0, 0, 0, 0, 0, 0, 8, 20], above 7 7), (0x0190, [16], fun w => w 0 / 16777216 = 0 ∧ 16 ≤ w 0 % 256)]

/-- The result byte of the response that the row of a request's code gives it. -/
def resultOf (code : BitVec 16) (args : List Word) : Option Byte :=
  (requestRows.find? fun x => x.2.1 == code).bind fun x =>
    ((after x.1 (asked code args)).fwd.up[upIdx .u0].priority.getLast?).map fun h => byteAt h.frame.payload 2

/-- Each request meets its clause, and its row answers it with the code of section 12.5: BAD_REQUEST 0x0C, OUT_OF_RANGE
0x07. -/
theorem test_bad_requests : (badRequests.all fun x => x.2.2 (fun k => (arg (req x.1 x.2.1) k).toNat) &&
    resultOf x.1 x.2.1 == some 0x0C) = true := by decide +kernel
theorem test_range_requests : (rangeRequests.all fun x => x.2.2 (fun k => (arg (req x.1 x.2.1) k).toNat) &&
    resultOf x.1 x.2.1 == some 0x07) = true := by decide +kernel

/-- `full` with an EMPTY bay whose connector drives the level that is not active now. -/
def contrary : State :=
  { full with line := { full.line with bays := upd full.line.bays 0 fun u => { u with prsIn := .high } } }

/-- The request of a new active level of PRS for every bay, put to a state. -/
def flipAll : List Word := [0xFFFF, 1, 0, 0, 0, 0, 0]

/-- The judgement of a bay of `contrary` under that record. -/
def flipped (b : Bay) : Presence := presenceOf .high contrary.line.bays[b].prsIn

/-- Every kind of bay sees an edge: EMPTY, SEATING alone and in the group, TEST, OFF, QUEUED and with power; bay 11 sees none. -/
theorem witness_line_edges : lineRecordArg (req 0x0120 flipAll) = some ⟨.high, .activeHigh, .activeHigh, .full, .activeHigh, .full⟩ ∧
    (∀ b ∈ [(0 : Bay), 1, 2, 3, 4, 7, 10], flipped b ≠ contrary.line.bays[b].presence) ∧
    flipped 11 = contrary.line.bays[(11 : Bay)].presence ∧ emptySet (arg (req 0x0120 flipAll) 0) = false := by
  decide +kernel

/-- `contrary` with bay 0 under this policy and, when `fast`, a debounce setting of 0. -/
def contraryOf (fast : Bool) (policy : Policy) : State :=
  { contrary with
    line := { contrary.line with debounceSetting := if fast then 0 else 5 }
    bays := upd full.bays 0 fun r => { r with policy := policy } }

/-- That state with the request waiting. -/
def flipping (fast : Bool) (policy : Policy) : State :=
  (contraryOf fast policy).withRequest .u0 5 0x100001 0x0120 flipAll

theorem witness_flipping_lines (fast : Bool) (policy : Policy) : LinesConsistent (flipping fast policy) := by
  cases fast <;> cases policy <;> constructor <;> decide +kernel
theorem witness_flipping_bays (fast : Bool) (policy : Policy) : BaysConsistent (flipping fast policy) :=
  baysConsistent_congr (s := withRecord 0 fun r => { r with policy := policy }) rfl rfl
    (recordChange_bays 0 _ (by cases policy <;> decide +kernel) rfl)
theorem witness_flipping_serves (fast : Bool) (policy : Policy) : Serves 0x0120 7 .u0
    (requestFrame 5 0x100001 (switchAddr (contraryOf fast policy)) 0x0120 flipAll) (flipping fast policy) :=
  serves_withRequest _ .u0 5 0x100001 0x0120 flipAll (by cases fast <;> cases policy <;> decide +kernel)
    (by cases fast <;> cases policy <;> decide +kernel) 7 (by decide)

/-- `swapped` with a debounce setting of 0. -/
def swappedFast : State := { swapped with line := { swapped.line with debounceSetting := 0 } }

theorem witness_test_exit_at_once : Serves 0x0125 1 .u0 (requestFrame 5 0x100001 (switchAddr swappedFast) 0x0125 [0xFFFF])
      (swappedFast.withRequest .u0 5 0x100001 0x0125 [0xFFFF]) ∧ swappedFast.line.debounceSetting = 0 ∧
    swappedFast.bays[(11 : Bay)].prior = some .empty ∧ swappedFast.line.bays[(11 : Bay)].presence = .present ∧
    swappedFast.bays[(11 : Bay)].policy = .auto :=
  ⟨serves_withRequest swappedFast .u0 5 0x100001 0x0125 [0xFFFF] (by decide +kernel) (by decide +kernel) 1 (by decide),
    by decide +kernel⟩

/-- SET_CEILING: a value below the draw, one between the draw and the live ceiling, and one above it. -/
theorem witness_ceiling : min 4000 (max 100 (arg (req 0x0130 [700]) 0).toNat) < committed full ∧
    committed full ≤ min 4000 (max 100 (arg (req 0x0130 [1000]) 0).toNat) ∧
    min 4000 (max 100 (arg (req 0x0130 [1000]) 0).toNat) ≤ full.power.live ∧
    full.power.live < min 4000 (max 100 (arg (req 0x0130 [9000]) 0).toNat) := by decide +kernel
theorem witness_counters : twoValued (arg (req 0x0141 [1]) 0) = some true ∧ twoValued (arg (req 0x0141 [0]) 0) = some false := by
  decide +kernel
theorem witness_routes : (arg (req 0x0150 [0x200005, 17]) 1).toNat = (portIdx (.up .u1)).val ∧
    addrArg (arg (req 0x0150 [0x200000, 17]) 0) = 0x200000 ∧ staticAddr full 0 = some 0x200000 ∧
    addrArg (arg (req 0x0150 [0x200005, 17]) 0) = 0x200005 ∧ (0x200005 : Addr) ≠ switchAddr full ∧
    (∀ i : Fin 18, fullLearned i ≠ some 0x200005) ∧ (∀ i : Fin 30, staticAddr full i ≠ some 0x200005) ∧
    full.route.statics[(2 : Fin 30)] = none ∧ (∀ j : Fin 30, j < 2 → (full.route.statics[j]).isSome = true) ∧
    18 ≤ (arg (req 0x0150 [0x200005, 18]) 1).toNat := by decide +kernel

/-- A state with other static routes. -/
def withStatics (v : Vector (Option Static) 30) (s : State) : State := { s with route := { s.route with statics := v } }

theorem atRest_withStatics (v : Vector (Option Static) 30) (s : State) (h : AtRest s) : AtRest (withStatics v s) where
  hot := (refreshHot_eq_self_iff _).2 ((refreshHot_eq_self_iff s).1 h.hot)
  blocks := h.blocks
  asked := h.asked
  notices := h.notices
  alert := (driveAlert_eq_self_iff _).2 ((driveAlert_eq_self_iff s).1 h.alert)
  pins := pins_carry_of_eq h.pins rfl rfl rfl rfl
theorem withStatics_switch (v : Vector (Option Static) 30) (s : State) :
    switchAddr (withStatics v s) = switchAddr s := rfl
theorem withStatics_learned (v : Vector (Option Static) 30) (s : State) (p : Port) :
    learnedAddr (withStatics v s) p = learnedAddr s p := rfl

/-- A static route to U1 for each slot. -/
def packedSlot (i : Fin 30) : Static := ⟨0x200000 + BitVec.ofNat 24 i.val, .up .u1⟩

/-- `full` with every static slot taken. -/
def packed : State := withStatics (tab fun i => some (packedSlot i)) full

theorem witness_table_full : (∀ i : Fin 30, (packed.route.statics[i]).isSome = true) ∧
    (∀ i : Fin 30, staticAddr packed i ≠ some 0x210000) ∧ (∀ i : Fin 18, fullLearned i ≠ some 0x210000) := by
  decide +kernel
theorem witness_packed_atRest : AtRest packed := atRest_withStatics _ _ witness_full_atRest
theorem packed_learned (p : Port) : learnedAddr packed p = fullLearned (portIdx p) := withStatics_learned _ _ p
theorem packed_switch : switchAddr packed = switchAddr full := withStatics_switch _ _
theorem packed_statics_not_switch : ∀ i : Fin 30, staticAddr packed i ≠ some (switchAddr packed) := by decide +kernel
theorem witness_packed_routes : RoutesDistinct packed where
  learned p q a hp hq := by
    rw [packed_learned] at hp hq
    exact portIdx_injective p q (full_learned_distinct _ _ (by rw [hp]; simp) (hp.trans hq.symm))
  statics i j a hi hj := by
    have h : ∀ i j : Fin 30, staticAddr packed i = staticAddr packed j → i = j := by decide +kernel
    exact h i j (hi.trans hj.symm)
  apart p i a hp hi := by
    have h : ∀ (i : Fin 18) (j : Fin 30), fullLearned i ≠ staticAddr packed j := by decide +kernel
    rw [packed_learned] at hp
    exact h (portIdx p) i (hp.trans hi.symm)
  notSwitch p := by
    rw [packed_learned, packed_switch]
    exact full_not_switch.1 (portIdx p)
  staticNotSwitch := packed_statics_not_switch

theorem witness_snoop_rule : let f := req 0x0160 [7, 1, 3, 1, 300, 0xFF, 0x10, 5, 1, 0]
    (arg f 0).toNat = 7 ∧ twoValued (arg f 1) = some true ∧ (arg f 2).toNat = 3 ∧ snoopKindArg (arg f 3) = some .data ∧
    encodingArg (arg f 8) = some .offset64C ∧ actionArg (arg f 9) = some .temperature := by decide +kernel
theorem witness_snoop_rule_unsuited : let f := req 0x0160 [7, 1, 3, 2, 300, 0xFF, 0x10, 5, 2, 0]
    encodingArg (arg f 8) = some .nonzero ∧ actionArg (arg f 9) = some .temperature := by decide +kernel
theorem witness_sensor : (arg (req 0x0162 [3, 2, 0xFFFFFFF0, 0]) 0).toNat = 3 ∧
    (arg (req 0x0162 [3, 2, 0xFFFFFFF0, 0]) 1).toNat = 2 ∧ (arg (req 0x0162 [3, 2, 0xFFFFFFF0, 0]) 2).toInt = -16 ∧
    twoValued (arg (req 0x0162 [3, 2, 0xFFFFFFF0, 0]) 3) = some false := by decide +kernel
theorem witness_thresholds : min 110 (max 30 (arg (req 0x0161 [20, 200, 2, 10]) 0).toInt) = 30 ∧
    min 110 (max 30 (arg (req 0x0161 [20, 200, 2, 10]) 1).toInt) = 110 ∧
    min 110 (max 30 (arg (req 0x0161 [60, 60, 2, 10]) 0).toInt) = min 110 (max 30 (arg (req 0x0161 [60, 60, 2, 10]) 1).toInt) := by
  decide +kernel
/-- LOAD_CURVE: a good curve, one whose duties fall, and one whose payload is short. -/
theorem witness_load_curve : (arg (req 0x0170 [2, 2, 20, 100, 30, 900]) 0).toNat = 2 ∧
    (arg (req 0x0170 [2, 2, 20, 100, 30, 900]) 1).toNat = 2 ∧ 3 + 2 * 2 ≤ (req 0x0170 [2, 2, 20, 100, 30, 900]).words ∧
    (arg (req 0x0170 [2, 2, 20, 100, 30, 900]) 4).toNat = 30 ∧ (arg (req 0x0170 [2, 2, 20, 100, 30, 50]) 5).toNat = 50 ∧
    (req 0x0170 [2, 2, 20]).words < 3 + 2 * 2 := by decide +kernel
theorem witness_set_zone : (arg (req 0x0171 [3, 300, 400, 50, 10, 10]) 0).toNat = 3 := by decide +kernel
/-- SET_FAN_MAP: a map of `full`'s modules; bay 6 of `full` is STARTING, no bay of the state after reset is. -/
theorem witness_fan_map : (∀ m : FanModule,
      (arg (req 0x0172 [1, 0, 0, 0, 0, 0, 0, 0]) m.val).toNat = ((tab fun m => if m = 0 then 1 else 0 : Vector Zone 8)[m]).val) ∧
    full.bays[(6 : Bay)].state = .starting ∧ (∀ b : Bay, State.reset.bays[b].state ≠ .starting) ∧
    full.cool.modules[(0 : FanModule)].zone ≠ 1 ∧ full.cool.modules[(0 : FanModule)].override = some ⟨1000, 9000⟩ := by
  decide +kernel

/-- `full` without its STARTING bays. -/
def settled : State :=
  let off (b : Bay) : BayRecord := { BayRecord.reset b .released with state := .off }
  let charge : Vector Nat 16 := tab fun b => if b = 7 ∨ b = 15 then 100 else 0
  drivePins { full with bays := tab fun b => if b = 6 ∨ b = 13 then off b else full.bays[b],
                        power := { full.power with charge := charge, ocFilter := tab fun _ => .clear } }

theorem witness_settled_atRest : AtRest settled := atRest_of_check _ (drivePins_drivePins _) (by decide +kernel)
theorem witness_settled_bays : BaysConsistent settled where
  record := by
    have h : ∀ b : Bay, recordCheck settled.bays[b] = true := by decide +kernel
    exact fun b => consistent_of_check _ (h b)
  queue := ⟨by decide +kernel, by decide +kernel, by decide +kernel⟩
theorem witness_settled_starts : ∀ b : Bay, settled.bays[b].state ≠ .starting := by decide +kernel

theorem witness_fan_override : (arg (req 0x0173 [0, 100, 0]) 2).toNat = 0 ∧
    full.cool.modules[(0 : FanModule)].override ≠ none ∧ full.cool.modules[(1 : FanModule)].override = none ∧
    (arg (req 0x0173 [1, 100, 700]) 2).toNat ≠ 0 ∧ (arg (req 0x0173 [1, 100, 700]) 0).toNat = 1 := by decide +kernel
theorem witness_asked_cooling (args : List Word) : CoolingConsistent (asked 0x0173 args) :=
  ⟨witness_full_cooling.minDuty, witness_full_cooling.output, witness_full_cooling.outputRange, witness_full_cooling.duty,
    witness_full_cooling.override, witness_full_cooling.moduleState, witness_full_cooling.zoneState⟩
theorem witness_set_light : let f := req 0x0180 [0x88, 1, 2, 0, 2, 4000]
    lightActionsArg f = some ⟨.set, .clear, .leave, .clear⟩ ∧ emptySet (arg f 0) = false := by decide +kernel
theorem witness_light_settings : (arg (req 0x0181 [7, 5, 300]) 0).toNat = 7 ∧
    (∀ c : Fin 8, (arg (req 0x0182 [0, 1, 2, 3, 4, 5, 6, 7, 10]) c.val).toNat = ((tab fun c => c : Vector PatternNo 8)[c]).val) ∧
    twoValued (arg (req 0x0183 [1]) 0) = some true := by decide +kernel
theorem witness_read_events : arg (req 0x0190 [15]) 0 = wNat 15 ∧ arg (req 0x0190 [0x01000000]) 0 = 0x01000000 := by
  decide +kernel

/-- `full` with a subscription at U0. -/
def subscriber : State := { full with ev := { full.ev with subscribed := tab fun p => p = 0 } }

theorem witness_subscribe : twoValued (arg (req 0x0191 [1]) 0) = some true ∧ full.ev.subscribed[upIdx .u0] = false ∧
    twoValued (arg (req 0x0191 [0]) 0) = some false ∧ AtRest subscriber ∧ subscriber.ev.subscribed[upIdx .u0] = true :=
  ⟨by decide +kernel, by decide +kernel, by decide +kernel, atRest_like_full (by decide +kernel), by decide +kernel⟩
theorem witness_warm_restart : full.fwd.up[upIdx .u0].priority.length < 16 ∧
    16 ≤ crowded.fwd.up[upIdx .u0].priority.length := by decide +kernel

/-- `subscriber` with sixteen notices waiting. -/
def overflowing : State :=
  let many := List.replicate 16 (Notice.enclosure .ceilingReached 5)
  { subscriber with ev := { subscriber.ev with notices := tab fun p => if p = 0 then many else [] } }

theorem witness_latches : (full.ev.bayLatches[(3 : Bay)])[BayEvent.online.idx] = false ∧
    ((latchBay 3 .online full).ev.bayLatches[(3 : Bay)])[BayEvent.online.idx] = true ∧
    subscriber.ev.subscribed[upIdx .u0] = true ∧ (subscriber.ev.notices[upIdx .u0]).length < 16 ∧
    16 ≤ (overflowing.ev.notices[upIdx .u0]).length ∧ (overflowing.ev.bayLatches[(3 : Bay)])[BayEvent.online.idx] = false := by
  decide +kernel
theorem witness_enclosure_latches : (full.ev.enclLatches[EnclEvent.fanFailed.idx]) = false ∧
    ((latchFan .failed 2 full).ev.enclLatches[EnclEvent.fanFailed.idx]) = true := by decide +kernel

end Sys2Proof.Tests
end

namespace Sys2Proof.Machine

/-! ### What the invariants see -/

/-- What the line interface holds for the seating of one bay. -/
structure SeatView where
  active : Level
  prsIn : PrsDrive
  presence : Presence
  debounce : Option Nat
  inGroup : Bool

/-- The seating part of a line unit. -/
def LineUnit.seat (u : LineUnit) : SeatView := ⟨u.record.prsActive, u.prsIn, u.presence, u.debounce, u.inGroup⟩

/-- The six settings of a zone (R125). -/
structure ZoneSettings where
  curve : List Breakpoint
  minDuty : Nat
  staleFloor : Nat
  boost : Nat
  slewUp : Nat
  slewDown : Nat

/-- The settings of a zone's unit. -/
def ZoneUnit.settings (u : ZoneUnit) : ZoneSettings :=
  ⟨u.curve, u.minDuty, u.staleFloor, u.boost, u.slewUp, u.slewDown⟩

/-- Every setting that only a request changes. -/
structure Settings where
  debounce : Nat
  retries : Bay → Nat
  classes : Vector ClassRecord 8
  stagger : Nat
  limit : Nat
  ocFilter : Vector Nat 16
  timeout : Nat
  rules : Vector SnoopRule 8
  warn : Int
  shutdown : Int
  otFilter : Nat
  staleLimit : Nat
  offsets : SensorNo → Int
  zones : Zone → ZoneSettings
  period : Nat
  stallRpm : Nat
  stallFilter : Nat
  patterns : PatternNo → Nat × Nat
  hold : Nat

/-- The settings of a state. -/
def settings (s : State) : Settings where
  debounce := s.line.debounceSetting
  retries := fun b => s.bays[b].retriesSetting
  classes := s.power.classes
  stagger := s.power.staggerSetting
  limit := s.power.limit
  ocFilter := s.power.ocSetting
  timeout := s.fwd.timeout
  rules := s.therm.rules
  warn := s.therm.warn
  shutdown := s.therm.shutdown
  otFilter := s.therm.otFilter
  staleLimit := s.therm.staleLimit
  offsets := fun n => s.therm.sensors[n].offset
  zones := fun z => s.cool.zones[z].settings
  period := s.cool.period
  stallRpm := s.cool.stallRpm
  stallFilter := s.cool.stallFilter
  patterns := fun p => (s.light.patterns[p].onTime, s.light.patterns[p].offTime)
  hold := s.light.hold

/-- What seating, admission and the budget turn on: a state seen without its frames, lights, fans, readings and events. -/
structure View where
  seats : Bay → SeatView
  groupTimer : Option Nat
  states : Bay → BayState
  retriesLeft : Bay → Nat
  queue : List QueueEntry
  charge : Vector Nat 16
  live : Nat
  pendingCeiling : Option Nat

/-- The view of a state. -/
def view (s : State) : View where
  seats := fun b => s.line.bays[b].seat
  groupTimer := s.line.groupTimer
  states := fun b => s.bays[b].state
  retriesLeft := fun b => s.bays[b].retriesLeft
  queue := s.power.queue
  charge := s.power.charge
  live := s.power.live
  pendingCeiling := s.power.pendingCeiling

/-- A change that neither the view nor the settings see. -/
def Quiet (s t : State) : Prop := view t = view s ∧ settings t = settings s

theorem Quiet.refl (s : State) : Quiet s s := ⟨rfl, rfl⟩

theorem Quiet.trans {s t u : State} (h : Quiet s t) (k : Quiet t u) : Quiet s u :=
  ⟨k.1.trans h.1, k.2.trans h.2⟩

/-- A run of quiet changes over a list is quiet. -/
theorem Quiet.foldl {α : Type} (f : State → α → State) (h : ∀ s x, Quiet s (f s x)) (l : List α) (s : State) :
    Quiet s (l.foldl f s) := by
  induction l generalizing s with
  | nil => exact .refl s
  | cons x l ih => exact (h s x).trans (ih _)

/-- One changed entry that a reading of the entries does not see. -/
theorem upd_unseen {α β : Type} {n : Nat} (v : Vector α n) (i : Fin n) (f : α → α) (g : α → β) (h : g (f v[i]) = g v[i]) :
    (fun j : Fin n => g (upd v i f)[j]) = fun j => g v[j] := by
  funext j
  rw [getElem_upd]
  split
  · next e => rw [e]; exact h
  · rfl

/-- Where lines and power stay, the view turns on the states and the retries left. -/
theorem view_congr {s t : State} (line : t.line = s.line) (power : t.power = s.power)
    (h : ∀ b : Bay, t.bays[b].state = s.bays[b].state ∧ t.bays[b].retriesLeft = s.bays[b].retriesLeft) :
    view t = view s := by
  have states : (fun b : Bay => t.bays[b].state) = fun b => s.bays[b].state := funext fun b => (h b).1
  have retries : (fun b : Bay => t.bays[b].retriesLeft) = fun b => s.bays[b].retriesLeft := funext fun b => (h b).2
  simp only [view, line, power, states, retries]

/-! ### Quiet operations -/

theorem quiet_modBay (b : Bay) (f : BayRecord → BayRecord) (s : State)
    (h : ∀ r, (f r).state = r.state ∧ (f r).retriesSetting = r.retriesSetting ∧ (f r).retriesLeft = r.retriesLeft) :
    Quiet s (modBay b f s) := by
  have hs := upd_unseen s.bays b f BayRecord.state (h _).1
  have hr := upd_unseen s.bays b f BayRecord.retriesSetting (h _).2.1
  have hl := upd_unseen s.bays b f BayRecord.retriesLeft (h _).2.2
  exact ⟨by simp only [view, modBay_bays, modBay_line, modBay_power, hs, hl],
    by simp only [settings, modBay_bays, hr]; rfl⟩

theorem quiet_modLine (b : Bay) (f : LineUnit → LineUnit) (s : State) (h : ∀ u, (f u).seat = u.seat) :
    Quiet s (modLine b f s) := by
  have hs := upd_unseen s.line.bays b f LineUnit.seat (h _)
  exact ⟨by simp only [view, modLine_lines, hs]; rfl, rfl⟩

theorem quiet_modTherm (b : Bay) (f : ThermalRecord → ThermalRecord) (s : State) : Quiet s (modTherm b f s) := ⟨rfl, rfl⟩
theorem quiet_modLight (b : Bay) (f : LightUnit → LightUnit) (s : State) : Quiet s (modLight b f s) := ⟨rfl, rfl⟩
theorem quiet_modUp (p : UpPort) (f : UpUnit → UpUnit) (s : State) : Quiet s (modUp p f s) := ⟨rfl, rfl⟩
theorem quiet_advance (t : Nat) (s : State) : Quiet s (advance t s) := ⟨rfl, rfl⟩
theorem quiet_ask (s : State) : Quiet s (ask s) := ⟨rfl, rfl⟩
theorem quiet_count (p : Port) (k : CounterKind) (n : Nat) (s : State) : Quiet s (count p k n s) := ⟨rfl, rfl⟩

theorem quiet_ev (s : State) (e : EventBlock) : Quiet s { s with ev := e } := ⟨rfl, rfl⟩
theorem quiet_mgmt (s : State) (m : MgmtBlock) : Quiet s { s with mgmt := m } := ⟨rfl, rfl⟩
theorem quiet_route (s : State) (r : RouteBlock) : Quiet s { s with route := r } := ⟨rfl, rfl⟩

theorem quiet_latchBay (b : Bay) (k : BayEvent) (s : State) : Quiet s (latchBay b k s) := by
  unfold latchBay; split
  · exact .refl s
  · exact ⟨rfl, rfl⟩

theorem quiet_latchEncl (k : EnclEvent) (n : Nat) (s : State) : Quiet s (latchEncl k n s) := by
  unfold latchEncl; split
  · exact .refl s
  · exact ⟨rfl, rfl⟩

theorem quiet_latchFan (x : FanState) (m : FanModule) (s : State) : Quiet s (latchFan x m s) :=
  (quiet_ev s _).trans (quiet_latchEncl _ _ _)

theorem quiet_sendStatus (c : StatusCode) (p : Port) (f : Frame) (s : State) : Quiet s (sendStatus c p f s) := by
  unfold sendStatus
  split
  · exact .refl s
  · cases p <;> simp only <;> split <;> exact ⟨rfl, rfl⟩

theorem quiet_refuseFrame (c : StatusCode) (p : Port) (f : Frame) (s : State) : Quiet s (refuseFrame c p f s) :=
  (quiet_count p .discarded 1 s).trans (quiet_sendStatus c p f _)

theorem quiet_capture (b : Bay) (x : Int) (s : State) : Quiet s (capture b x s) := by
  have warned : Quiet s (if warnsAt s.therm.warn x s.therm.records[b].reading then latchBay b .tempWarn s else s) := by
    split
    · exact quiet_latchBay b .tempWarn s
    · exact .refl s
  have trip : ∀ u : State, Quiet u (modBay b (fun r => { r with otTrip := true }) u) :=
    fun u => quiet_modBay b _ u fun _ => ⟨rfl, rfl, rfl⟩
  unfold capture
  simp only
  generalize (if warnsAt s.therm.warn x s.therm.records[b].reading then latchBay b .tempWarn s else s) = u at warned ⊢
  split
  · split
    · exact ((warned.trans (quiet_modTherm b _ _)).trans (quiet_latchBay b .overtemp _)).trans (trip _)
    · exact (warned.trans (quiet_modTherm b _ _)).trans (quiet_latchBay b .overtemp _)
  · exact warned.trans (quiet_modTherm b _ _)

theorem quiet_applyRule (b : Bay) (r : SnoopRule) (v : Byte) (s : State) : Quiet s (applyRule b r v s) := by
  unfold applyRule
  split
  · split
    · split
      · exact quiet_capture b _ s
      · exact quiet_modTherm b _ s
    · exact .refl s
  · split
    · exact .refl s
    · exact (quiet_modLight b _ s).trans (quiet_latchBay b .predictedFault _)

theorem quiet_snoop (b : Bay) (f : Frame) (s : State) : Quiet s (snoop b f s) := by
  unfold snoop
  simp only
  split
  · split
    · exact .refl s
    · split
      · exact .refl s
      · exact quiet_applyRule b _ _ s
  · exact .refl s

theorem quiet_place (p q : Port) (f : Frame) (s : State) : Quiet s (place p q f s) := by
  cases q with
  | bay b => exact ⟨rfl, rfl⟩
  | up u =>
    cases p with
    | bay a => exact Quiet.trans ⟨rfl, rfl⟩ (quiet_snoop a f _)
    | up v => exact ⟨rfl, rfl⟩

theorem quiet_fillPlace (q : Port) (s : State) : Quiet s (fillPlace q s) := by
  unfold fillPlace
  split
  · exact .refl s
  · exact Quiet.trans ⟨rfl, rfl⟩ (quiet_place _ q _ _)

theorem quiet_abandon (p : Port) (s : State) : Quiet s (abandon p s) := by
  unfold abandon; split
  · exact .refl s
  · exact ⟨rfl, rfl⟩

theorem quiet_endWait (c : StatusCode) (x : Port × Waiting) (s : State) : Quiet s (endWait c x s) :=
  Quiet.trans ⟨rfl, rfl⟩ (quiet_refuseFrame c x.1 x.2.frame (clearSlot x.1 s))

theorem quiet_dropOwnWait (p : Port) (s : State) : Quiet s (dropOwnWait p s) := by
  unfold dropOwnWait; split
  · exact .refl s
  · exact ⟨rfl, rfl⟩

theorem quiet_bayGone (h : Held) (s : State) : Quiet s (bayGone h s) := by
  unfold bayGone; split
  · exact quiet_sendStatus _ _ _ s
  · exact .refl s

theorem quiet_flush (b : Bay) (s : State) : Quiet s (flush b s) := by
  have queue : Quiet s (flushQueue b s) :=
    Quiet.trans (t := count (.bay b) .discarded (s.fwd.bayQueue[b]).length
      { s with fwd := { s.fwd with bayQueue := put s.fwd.bayQueue b [] } }) ⟨rfl, rfl⟩
      (Quiet.foldl _ (fun u h => quiet_bayGone h u) _ _)
  have waiters (u : State) : Quiet u (flushWaiters b u) := Quiet.foldl _ (fun u x => quiet_endWait .bayGone x u) _ u
  exact ((queue.trans (quiet_abandon _ _)).trans (waiters _)).trans (quiet_dropOwnWait _ _)

theorem quiet_releaseLoop (n : Nat) (p : UpPort) (s : State) : Quiet s (releaseLoop n p s) := by
  induction n generalizing s with
  | zero => exact .refl s
  | succ n ih =>
    unfold releaseLoop
    split
    · split
      · exact Quiet.trans ⟨rfl, rfl⟩ (ih _)
      · exact .refl s
    · exact .refl s

theorem quiet_release (p : UpPort) (s : State) : Quiet s (release p s) := quiet_releaseLoop _ p s

theorem quiet_driveAlert (s : State) : Quiet s (driveAlert s) := ⟨rfl, rfl⟩
theorem quiet_refreshHot (s : State) : Quiet s (refreshHot s) := ⟨rfl, rfl⟩

theorem quiet_refreshBlocks (s : State) : Quiet s (refreshBlocks s) := by
  unfold refreshBlocks; simp only; split <;> exact ⟨rfl, rfl⟩

theorem quiet_drivePins (s : State) : Quiet s (drivePins s) := by
  constructor
  · simp only [view, drivePins, getElem_tab, LineUnit.seat]
  · simp only [settings, drivePins, getElem_tab]

theorem quiet_offerResponse (p : UpPort) (h : Held) (s : State) : Quiet s (offerResponse p h s) := by
  unfold offerResponse; split <;> exact ⟨rfl, rfl⟩

theorem quiet_respond (p : UpPort) (req : Frame) (x : State × Reply) : Quiet x.1 (respond p req x) := by
  unfold respond
  simp only
  split
  · exact (quiet_release p x.1).trans (quiet_offerResponse p _ _)
  · exact quiet_offerResponse p _ x.1

theorem quiet_takeRequest (p : UpPort) (s : State) : Quiet s (takeRequest p s) := ⟨rfl, rfl⟩

theorem quiet_learn (p : Port) (a : Addr) (s : State) : Quiet s (learn p a s) := by
  unfold learn; split
  · exact quiet_route s _
  · exact (quiet_route s _).trans (quiet_latchEncl _ _ _)

theorem quiet_holdNext (p : Port) (s : State) : Quiet s (holdNext p s) := by cases p <;> exact ⟨rfl, rfl⟩

end Sys2Proof.Machine

namespace Sys2Proof.Machine

/-! ### Changes of the view -/

/-- The committed draw of a view (R45). -/
abbrev View.committed (v : View) : Nat := v.charge.toList.sum

/-- A bay is seen in another state, its line unit with another seating part. -/
def View.reseat (v : View) (b : Bay) (u : SeatView) (x : BayState) : View :=
  { v with seats := Function.update v.seats b u, states := Function.update v.states b x }

/-- A bay is seen in another state. -/
def View.move (v : View) (b : Bay) (x : BayState) : View := { v with states := Function.update v.states b x }

/-- A group without members has no timer (R12). -/
def View.cancelGroup (v : View) : View :=
  { v with groupTimer := if ∃ b, (v.seats b).inGroup = true then v.groupTimer else none }

/-- The queue of a view is replaced. -/
def View.withQueue (v : View) (q : List QueueEntry) : View := { v with queue := q }

/-- The retries left of a bay are replaced. -/
def View.withRetries (v : View) (b : Bay) (n : Nat) : View :=
  { v with retriesLeft := Function.update v.retriesLeft b n }

/-- The step-down of R49. -/
def View.stepDown (v : View) : View :=
  match v.pendingCeiling with
  | none => v
  | some p =>
    if max p v.committed = p then { v with live := max p v.committed, pendingCeiling := none }
    else { v with live := max p v.committed }

/-- A charge is set; a fall steps the ceiling down (R45, R46). -/
def View.setCharge (v : View) (b : Bay) (x : Nat) : View :=
  if x < v.charge[b] then View.stepDown { v with charge := put v.charge b x } else { v with charge := put v.charge b x }

/-- SET_CEILING's two cases (R48). -/
def View.setCeiling (v : View) (x : Nat) : View :=
  if v.committed ≤ x then { v with live := x, pendingCeiling := none }
  else { v with live := v.committed, pendingCeiling := some x }

/-- What holds of one bay between two commands: its presence is the one its pin gives, it agrees with the bay's state,
and the seating timers run for a SEATING bay alone (R2, R8, R9, R12). -/
structure SeatOk (u : SeatView) (x : BayState) : Prop where
  judged : u.presence = presenceOf u.active u.prsIn
  empty : x = .empty → u.presence = .absent
  seated : x ≠ .empty → x ≠ .test → u.presence = .present
  group : u.inGroup = true → x = .seating ∧ u.debounce = none
  debounce : u.debounce.isSome = true → x = .seating
  seating : x = .seating → u.inGroup = true ∨ u.debounce.isSome = true

/-- The single changes that commands are made of, as the view sees them, under the settings `σ`. Each carries what the
invariants ask of it, read off the place where the command makes it. -/
inductive Effect (σ : Settings) : View → View → Prop
  /-- A bay moves to another state, and its line unit with it. It is no longer queued, or has left the queue; it keeps power,
  has none, or has lost its charge. -/
  | reseat (v : View) (b : Bay) (u : SeatView) (x : BayState)
      (seat : SeatOk (v.seats b) (v.states b) → SeatOk u x)
      (group : u.inGroup = (v.seats b).inGroup ∨ u.inGroup = false ∧
        (v.groupTimer = none ∨ v.states b ≠ .seating ∨ (v.seats b).debounce.isSome = true))
      (queue : x = .queued ∨ v.states b ≠ .queued ∨ b ∉ v.queue.map QueueEntry.bay)
      (charge : powered x = true ∨ powered (v.states b) = false ∨ v.charge[b] = 0) : Effect σ v (v.reseat b u x)
  /-- A SEATING bay loses presence (R8, R9, R12). -/
  | unseat (v : View) (b : Bay) (u : SeatView) (state : v.states b = .seating) (seat : SeatOk u .empty) :
      Effect σ v (v.reseat b u .empty).cancelGroup
  /-- A QUEUED bay joins the queue, or moves in it (R51). -/
  | join (v : View) (b : Bay) (c : QueueClass) (state : v.states b = .queued) :
      Effect σ v (v.withQueue (joinClass ⟨b, c⟩ (dropEntry b v.queue)))
  /-- An entry leaves the queue (R52). -/
  | leave (v : View) (b : Bay) : Effect σ v (v.withQueue (dropEntry b v.queue))
  /-- A charge is set that the budget allows (R45). -/
  | charge (v : View) (b : Bay) (x : Nat) (owner : x = 0 ∨ powered (v.states b) = true)
      (fits : x ≤ v.charge[b] ∨ v.committed - v.charge[b] + x ≤ v.live) : Effect σ v (v.setCharge b x)
  /-- A bay's retries are renewed or fall (R24, R26). -/
  | retries (v : View) (b : Bay) (n : Nat) (bound : n = σ.retries b ∨ n ≤ v.retriesLeft b) :
      Effect σ v (v.withRetries b n)
  /-- A bay of the queue is admitted (R25, R57). -/
  | admission (v : View) (b : Bay) (x : Nat) (waits : b ∈ v.queue.map QueueEntry.bay) (fits : v.committed + x ≤ v.live) :
      Effect σ v (((v.withQueue (dropEntry b v.queue)).move b .starting).setCharge b x)
  /-- SET_CEILING (R48). -/
  | ceiling (v : View) (x : Nat) (low : 100 ≤ x) (high : x ≤ 4000) : Effect σ v (v.setCeiling x)

/-- Any number of single changes. -/
abbrev Effects (σ : Settings) : View → View → Prop := Relation.ReflTransGen (Effect σ)

/-! ### The view after each operation -/

theorem view_modBay (b : Bay) (f : BayRecord → BayRecord) (s : State) :
    view (modBay b f s) = ((view s).move b (f s.bays[b]).state).withRetries b (f s.bays[b]).retriesLeft := by
  have reads {α : Type} (g : BayRecord → α) : (fun c : Bay => g (upd s.bays b f)[c]) =
      Function.update (fun c : Bay => g s.bays[c]) b (g (f s.bays[b])) := by
    funext c
    rw [getElem_upd, Function.update_apply]
    split <;> rfl
  simp only [view, View.move, View.withRetries, modBay_bays, modBay_line, modBay_power, reads BayRecord.state,
    reads BayRecord.retriesLeft]

/-- Setting the state and nothing else that the view sees. -/
theorem view_modBay_state (b : Bay) (f : BayRecord → BayRecord) (x : BayState) (s : State)
    (h : ∀ r, (f r).state = x ∧ (f r).retriesLeft = r.retriesLeft) : view (modBay b f s) = (view s).move b x := by
  rw [view_modBay, (h _).1, (h _).2]
  exact congrArg (fun r => { (view s).move b x with retriesLeft := r }) (Function.update_eq_self b (view s).retriesLeft)

@[simp] theorem view_setState (b : Bay) (x : BayState) (s : State) : view (setState b x s) = (view s).move b x :=
  view_modBay_state b _ x s fun _ => ⟨rfl, rfl⟩

theorem view_modLine (b : Bay) (f : LineUnit → LineUnit) (s : State) :
    view (modLine b f s) = { view s with seats := Function.update (view s).seats b (f s.line.bays[b]).seat } := by
  have seats : (fun c : Bay => (upd s.line.bays b f)[c].seat) =
      Function.update (fun c : Bay => s.line.bays[c].seat) b (f s.line.bays[b]).seat := by
    funext c
    rw [getElem_upd, Function.update_apply]
    split <;> rfl
  simp only [view, modLine_lines, modLine_groupTimer, modLine_bays, modLine_power, seats]

@[simp] theorem view_setCharge (b : Bay) (x : Nat) (s : State) : view (setCharge b x s) = (view s).setCharge b x := by
  unfold setCharge View.setCharge
  by_cases h : x < s.power.charge[b]
  · rw [if_pos h, if_pos (show x < (view s).charge[b] from h), (quiet_ask _).1]
    unfold stepDown View.stepDown
    cases hp : s.power.pendingCeiling with
    | none => simp only [view, hp]
    | some p =>
      simp only [view, hp, View.committed, committed]
      split
      · exact (quiet_latchEncl _ _ _).1.trans rfl
      · rfl
  · rw [if_neg h, if_neg (show ¬ x < (view s).charge[b] from h)]
    rfl

@[simp] theorem view_joinQueue (b : Bay) (c : QueueClass) (s : State) :
    view (joinQueue b c s) = (view s).withQueue (joinClass ⟨b, c⟩ (dropEntry b s.power.queue)) := rfl

@[simp] theorem view_leaveQueue (b : Bay) (s : State) :
    view (leaveQueue b s) = (view s).withQueue (dropEntry b s.power.queue) := rfl

/-- Leaving power is a fall of the charge, and what else it does is quiet. -/
theorem quiet_leavePower (b : Bay) (s : State) : Quiet (setCharge b 0 (modBay b unpowerRecord s)) (leavePower b s) := by
  unfold leavePower
  simp only
  generalize setCharge b 0 (modBay b unpowerRecord s) = u
  have flushed : Quiet u (flush b (setFilter b .clear u)) := Quiet.trans ⟨rfl, rfl⟩ (quiet_flush b _)
  generalize flush b (setFilter b .clear u) = w at flushed ⊢
  refine flushed.trans ?_
  repeat' split
  all_goals exact ⟨rfl, rfl⟩

theorem quiet_unpower (b : Bay) (s : State) : Quiet s (modBay b unpowerRecord s) :=
  quiet_modBay b unpowerRecord s fun _ => ⟨rfl, rfl, rfl⟩

@[simp] theorem view_leavePower (b : Bay) (s : State) : view (leavePower b s) = (view s).setCharge b 0 := by
  rw [(quiet_leavePower b s).1, view_setCharge, (quiet_unpower b s).1]

@[simp] theorem settings_modBay (b : Bay) (f : BayRecord → BayRecord) (s : State)
    (h : ∀ r, (f r).retriesSetting = r.retriesSetting) : settings (modBay b f s) = settings s := by
  have hr := upd_unseen s.bays b f BayRecord.retriesSetting (h _)
  simp only [settings, modBay_bays, hr]; rfl

@[simp] theorem settings_setState (b : Bay) (x : BayState) (s : State) : settings (setState b x s) = settings s :=
  settings_modBay b _ s fun _ => rfl

@[simp] theorem settings_setCharge (b : Bay) (x : Nat) (s : State) : settings (setCharge b x s) = settings s := by
  have latched (k n) (u : State) : settings (latchEncl k n u) = settings u := (quiet_latchEncl k n u).2
  unfold setCharge stepDown
  simp only
  repeat' split
  all_goals first | rfl | exact (quiet_ask _).2.trans ((latched _ _ _).trans rfl)

@[simp] theorem settings_leavePower (b : Bay) (s : State) : settings (leavePower b s) = settings s := by
  rw [(quiet_leavePower b s).2, settings_setCharge, (quiet_unpower b s).2]

/-! ### Commands as effects -/

/-- From `s` to `t` the settings stay, and the view changes by single effects. -/
def Runs (s t : State) : Prop := Effects (settings s) (view s) (view t) ∧ settings t = settings s

theorem Runs.trans {s t u : State} (h : Runs s t) (k : Runs t u) : Runs s u :=
  ⟨h.1.trans (h.2 ▸ k.1), k.2.trans h.2⟩

theorem Quiet.runs {s t : State} (h : Quiet s t) : Runs s t := ⟨h.1 ▸ .refl, h.2⟩

theorem Runs.refl (s : State) : Runs s s := (Quiet.refl s).runs

/-- A single effect is a run. -/
theorem Effect.runs {s t : State} {v : View} (h : Effect (settings s) (view s) v) (hv : view t = v)
    (hs : settings t = settings s) : Runs s t := ⟨hv ▸ .single h, hs⟩

/-- A quiet change after a run. -/
theorem Runs.quiet {s t u : State} (h : Runs s t) (k : Quiet t u) : Runs s u := h.trans k.runs

/-- A run that a quiet change is put before. -/
theorem Quiet.then {s t u : State} (h : Quiet s t) (k : Runs t u) : Runs s u := h.runs.trans k

/-- A run of runs over a list is a run. -/
theorem Runs.foldl {α : Type} (f : State → α → State) (h : ∀ s x, Runs s (f s x)) (l : List α) (s : State) :
    Runs s (l.foldl f s) := by
  induction l generalizing s with
  | nil => exact .refl s
  | cons x l ih => exact (h s x).trans (ih _)

end Sys2Proof.Machine

namespace Sys2Proof.Machine

/-! ### Single effects of the shared operations -/

@[simp] theorem View.stepDown_keeps (v : View) : v.stepDown.seats = v.seats ∧ v.stepDown.groupTimer = v.groupTimer ∧
    v.stepDown.states = v.states ∧ v.stepDown.retriesLeft = v.retriesLeft ∧ v.stepDown.queue = v.queue ∧
    v.stepDown.charge = v.charge := by
  unfold View.stepDown
  repeat' split
  all_goals simp

@[simp] theorem View.setCharge_keeps (v : View) (b : Bay) (x : Nat) : (v.setCharge b x).seats = v.seats ∧
    (v.setCharge b x).groupTimer = v.groupTimer ∧ (v.setCharge b x).states = v.states ∧
    (v.setCharge b x).retriesLeft = v.retriesLeft ∧ (v.setCharge b x).queue = v.queue ∧
    (v.setCharge b x).charge = put v.charge b x := by
  unfold View.setCharge
  split <;> simp

theorem View.setCharge_move (v : View) (b : Bay) (x : Nat) (seats : Bay → SeatView) :
    View.setCharge { v with seats := seats } b x = { v.setCharge b x with seats := seats } := by
  obtain ⟨_, _, _, _, _, charge, _, pending⟩ := v
  by_cases h : x < charge[b]
  · cases pending with
    | none => simp only [View.setCharge, View.stepDown, if_pos h]
    | some p =>
      by_cases hp : max p (put charge b x).toList.sum = p
      · simp only [View.setCharge, View.stepDown, View.committed, if_pos h, if_pos hp]
      · simp only [View.setCharge, View.stepDown, View.committed, if_pos h, if_neg hp]
  · simp only [View.setCharge, if_neg h]

theorem View.reseat_self (v : View) (b : Bay) (x : BayState) : v.reseat b (v.seats b) x = v.move b x := by
  simp [View.reseat, View.move]

/-- The states of a seated drive that is not being seated: moves between them are no matter of the line interface. -/
def settled : BayState → Bool
  | .empty => false
  | .seating => false
  | .test => false
  | _ => true

theorem SeatOk.settled {u : SeatView} {x y : BayState} (h : SeatOk u x) (hx : settled x = true)
    (hy : Machine.settled y = true) : SeatOk u y := by
  have present : u.presence = .present := h.seated (by rintro rfl; cases hx) (by rintro rfl; cases hx)
  have notSeating : x ≠ .seating := by rintro rfl; cases hx
  exact
    { judged := h.judged
      empty := by rintro rfl; cases hy
      seated := fun _ _ => present
      group := fun g => absurd (h.group g).1 notSeating
      debounce := fun d => absurd (h.debounce d) notSeating
      seating := by rintro rfl; cases hy }

/-- A move between two settled states. -/
theorem Effect.move {σ : Settings} (v : View) (b : Bay) (x : BayState) (hv : settled (v.states b) = true)
    (hx : settled x = true) (queue : x = .queued ∨ v.states b ≠ .queued ∨ b ∉ v.queue.map QueueEntry.bay)
    (charge : powered x = true ∨ powered (v.states b) = false ∨ v.charge[b] = 0) : Effect σ v (v.move b x) :=
  View.reseat_self v b x ▸
    .reseat v b (v.seats b) x (fun h => h.settled hv hx) (.inl rfl) queue charge

theorem leavePower_runs (b : Bay) (s : State) : Runs s (leavePower b s) :=
  (Effect.charge (view s) b 0 (.inl rfl) (.inl (Nat.zero_le _))).runs (view_leavePower b s) (settings_leavePower b s)

theorem joinQueue_runs (b : Bay) (c : QueueClass) (s : State) (h : s.bays[b].state = .queued) :
    Runs s (joinQueue b c s) :=
  (Effect.join (view s) b c h).runs (view_joinQueue b c s) rfl

theorem leaveQueue_runs (b : Bay) (s : State) : Runs s (leaveQueue b s) :=
  (Effect.leave (view s) b).runs (view_leaveQueue b s) rfl

theorem setCharge_runs (b : Bay) (x : Nat) (s : State) (owner : powered s.bays[b].state = true)
    (fits : x ≤ s.power.charge[b] ∨ committed s - s.power.charge[b] + x ≤ s.power.live) : Runs s (setCharge b x s) :=
  (Effect.charge (view s) b x (.inr owner) fits).runs (view_setCharge b x s) (settings_setCharge b x s)

/-- A bay's record changes, and its state between two settled ones. -/
theorem modBay_runs (b : Bay) (f : BayRecord → BayRecord) (x : BayState) (s : State)
    (hf : ∀ r, (f r).state = x ∧ (f r).retriesLeft = r.retriesLeft ∧ (f r).retriesSetting = r.retriesSetting)
    (hs : settled s.bays[b].state = true) (hx : settled x = true)
    (queue : x = .queued ∨ s.bays[b].state ≠ .queued ∨ b ∉ s.power.queue.map QueueEntry.bay)
    (charge : powered x = true ∨ powered s.bays[b].state = false ∨ s.power.charge[b] = 0) : Runs s (modBay b f s) :=
  (Effect.move (view s) b x hs hx queue charge).runs
    (view_modBay_state b f x s fun r => ⟨(hf r).1, (hf r).2.1⟩) (settings_modBay b f s fun r => (hf r).2.2)

/-- A bay leaves power for another settled state. -/
theorem leavePower_modBay_runs (b : Bay) (f : BayRecord → BayRecord) (x : BayState) (s : State)
    (hf : ∀ r, (f r).state = x ∧ (f r).retriesLeft = r.retriesLeft ∧ (f r).retriesSetting = r.retriesSetting)
    (hs : powered s.bays[b].state = true) (hx : settled x = true) : Runs s (modBay b f (leavePower b s)) := by
  have state : (leavePower b s).bays[b].state = s.bays[b].state := leavePower_state b b s
  refine (leavePower_runs b s).trans (modBay_runs b f x _ hf ?_ hx ?_ ?_)
  · rw [state]; cases h : s.bays[b].state <;> simp_all [powered, settled]
  · right; left; rw [state]; intro h; rw [h] at hs; cases hs
  · right; right; rw [leavePower_charge, getElem_put_same]

theorem faultBay_runs (b : Bay) (cause : FaultCause) (s : State) (h : powered s.bays[b].state = true) :
    Runs s (faultBay b cause s) :=
  leavePower_modBay_runs b _ .faulted s (fun _ => ⟨rfl, rfl, rfl⟩) h rfl

/-- A settled bay without power joins the queue afresh. -/
theorem enqueueFresh_runs (b : Bay) (c : QueueClass) (s : State) (hs : settled s.bays[b].state = true)
    (hp : powered s.bays[b].state = false) : Runs s (enqueueFresh b c s) := by
  have moved := Effect.move (σ := settings s) (view s) b .queued hs rfl (.inl rfl) (.inr (.inl hp))
  have renewed := Effect.retries (σ := settings s) ((view s).move b .queued) b s.bays[b].retriesSetting (.inl rfl)
  have queued : Runs s (modBay b (fun r => { r with state := .queued, retriesLeft := r.retriesSetting }) s) :=
    ⟨(Relation.ReflTransGen.single moved).tail (view_modBay b _ s ▸ renewed), settings_modBay b _ s fun _ => rfl⟩
  exact queued.trans (joinQueue_runs b c _ (by rw [modBay_bays, getElem_upd_same]))

/-! ### Admissions -/

theorem admitBay_runs (b : Bay) (s : State) (hw : walk s s.power.queue = some b) : Runs s (admitBay b s) := by
  obtain ⟨before, e, after, hq, rfl, -, -, fits⟩ := walk_eq_some hw
  have waits : e.bay ∈ (view s).queue.map QueueEntry.bay := walk_mem hw
  refine (Effect.admission (view s) e.bay _ waits fits).runs ?_ ?_
  all_goals
    unfold admitBay
    simp only
    generalize hr : ({ s with power := { s.power with queue := dropEntry e.bay s.power.queue } } : State) = r
    have hv : view r = (view s).withQueue (dropEntry e.bay (view s).queue) := hr ▸ rfl
    have hs : settings r = settings s := hr ▸ rfl
    generalize hm : modBay e.bay _ r = m
    have hmv : view m = (view r).move e.bay .starting := hm ▸ view_modBay_state e.bay _ .starting r fun _ => ⟨rfl, rfl⟩
    have hms : settings m = settings r := hm ▸ settings_modBay e.bay _ r fun _ => rfl
    generalize hc : setCharge e.bay _ m = c
    have hcv : view c = (view m).setCharge e.bay (startClass e.bay s).startDraw := hc ▸ view_setCharge e.bay _ m
    have hcs : settings c = settings m := hc ▸ settings_setCharge e.bay _ m
  · have : view c = (((view s).withQueue (dropEntry e.bay (view s).queue)).move e.bay .starting).setCharge e.bay
        (startClass e.bay s).startDraw := by rw [hcv, hmv, hv]
    split <;> exact this
  · have : settings c = settings s := by rw [hcs, hms, hs]
    split <;> exact this

theorem attempt_runs (s : State) : Runs s (attempt s) :=
  attempt_induction (Runs s) (fun u b _ hw h => h.trans (admitBay_runs b u hw)) s (.refl s)

theorem attemptIfAsked_runs (s : State) : Runs s (attemptIfAsked s) := by
  unfold attemptIfAsked
  split
  · have cleared : Quiet s { s with power := { s.power with attemptAsked := false } } := ⟨rfl, rfl⟩
    exact cleared.then (attempt_runs _)
  · exact .refl s

theorem settle_runs (s : State) : Runs s (settle s) := by
  have refreshed : Quiet s (refreshBlocks (refreshHot s)) := (quiet_refreshHot s).trans (quiet_refreshBlocks _)
  have released (u : State) : Quiet u (drivePins (driveAlert (release .u1 (release .u0 u)))) :=
    (((quiet_release .u0 u).trans (quiet_release .u1 _)).trans (quiet_driveAlert _)).trans (quiet_drivePins _)
  exact (refreshed.then (attemptIfAsked_runs _)).quiet (released _)

end Sys2Proof.Machine

namespace Sys2Proof.Machine

/-! ### Seating and removal -/

theorem upd_eq_self {α : Type} {n : Nat} (v : Vector α n) (i : Fin n) (f : α → α) (h : f v[i] = v[i]) : upd v i f = v := by
  refine tab_ext fun j => ?_
  rw [getElem_upd]
  split
  · next e => rw [e]; exact h
  · rfl

theorem upd_upd {α : Type} {n : Nat} (v : Vector α n) (i : Fin n) (f g : α → α) :
    upd (upd v i f) i g = upd v i (fun x => g (f x)) := by
  refine tab_ext fun j => ?_
  simp only [getElem_upd]
  split <;> simp

theorem modLine_id (b : Bay) (s : State) : modLine b (fun u => u) s = s := by
  unfold modLine
  rw [upd_eq_self _ _ _ rfl]

theorem setState_self (b : Bay) (x : BayState) (s : State) (h : s.bays[b].state = x) : setState b x s = s := by
  unfold setState modBay
  rw [upd_eq_self _ _ _ (by rw [← h])]

/-- A bay that reads PRESENT and that no seating timer waits for may be in any settled state. -/
theorem SeatOk.of_present {u : SeatView} {x : BayState} (judged : u.presence = presenceOf u.active u.prsIn)
    (present : u.presence = .present) (group : u.inGroup = false) (debounce : u.debounce = none)
    (hx : Machine.settled x = true) : SeatOk u x where
  judged := judged
  empty := by rintro rfl; cases hx
  seated := fun _ _ => present
  group := by simp [group]
  debounce := by simp [debounce]
  seating := by rintro rfl; cases hx

/-- Outside SEATING no seating timer runs for a bay. -/
theorem SeatOk.noTimers {u : SeatView} {x : BayState} (h : SeatOk u x) (hx : x ≠ .seating) :
    u.inGroup = false ∧ u.debounce = none := by
  constructor
  · cases hg : u.inGroup with
    | false => rfl
    | true => exact absurd (h.group hg).1 hx
  · cases hd : u.debounce with
    | none => rfl
    | some e => exact absurd (h.debounce (by simp [hd])) hx

/-- A line unit without seating timers suits every state that its presence agrees with. -/
theorem SeatOk.elsewhere {u : SeatView} {x y : BayState} (h : SeatOk u x) (hx : x ≠ .seating) (hy : y ≠ .seating)
    (empty : y = .empty → u.presence = .absent) (seated : y ≠ .empty → y ≠ .test → u.presence = .present) :
    SeatOk u y := by
  obtain ⟨free, still⟩ := h.noTimers hx
  exact
    { judged := h.judged, empty := empty, seated := seated
      group := by rw [free]; intro g; cases g
      debounce := by rw [still]; intro d; cases d
      seating := fun e => absurd e hy }

/-- A bay moves to a settled state as its line unit changes. -/
theorem reseat_runs (b : Bay) (f : LineUnit → LineUnit) (g : BayRecord → BayRecord) (x : BayState) (s : State)
    (hg : ∀ r, (g r).state = x ∧ (g r).retriesLeft = r.retriesLeft ∧ (g r).retriesSetting = r.retriesSetting)
    (seat : SeatOk s.line.bays[b].seat s.bays[b].state → SeatOk (f s.line.bays[b]).seat x)
    (group : (f s.line.bays[b]).inGroup = s.line.bays[b].inGroup ∨ (f s.line.bays[b]).inGroup = false ∧
      (s.line.groupTimer = none ∨ s.bays[b].state ≠ .seating ∨ s.line.bays[b].debounce.isSome = true))
    (queue : x = .queued ∨ s.bays[b].state ≠ .queued ∨ b ∉ s.power.queue.map QueueEntry.bay)
    (charge : powered x = true ∨ powered s.bays[b].state = false ∨ s.power.charge[b] = 0) :
    Runs s (modBay b g (modLine b f s)) := by
  refine (Effect.reseat (view s) b _ x seat group queue charge).runs ?_ ?_
  · rw [view_modBay_state b g x _ fun r => ⟨(hg r).1, (hg r).2.1⟩, view_modLine]
    rfl
  · exact settings_modBay b g _ fun r => (hg r).2.2

/-- The line unit after SEATING_EXPIRED: no timer runs. -/
def unitSeated (u : LineUnit) : LineUnit := { u with debounce := none, inGroup := false }

/-- A drive found in a bay that is EMPTY, SEATING or in TEST is seated (R24). -/
theorem seat_runs (b : Bay) (f : LineUnit → LineUnit) (s : State) (hx : settled s.bays[b].state = false)
    (present : SeatOk s.line.bays[b].seat s.bays[b].state →
      (f s.line.bays[b]).presence = .present ∧
        presenceOf (f s.line.bays[b]).record.prsActive (f s.line.bays[b]).prsIn = .present)
    (group : s.line.groupTimer = none ∨ s.bays[b].state ≠ .seating ∨ s.line.bays[b].debounce.isSome = true) :
    Runs s (seat b (setState b .seating (modLine b f s))) := by
  have notQueued : s.bays[b].state ≠ .queued := by intro h; rw [h] at hx; cases hx
  have unpowered : powered s.bays[b].state = false := by cases h : s.bays[b].state <;> simp_all [powered, settled]
  have seated (g : BayRecord → BayRecord) (x : BayState) (hx : settled x = true)
      (hg : ∀ r, (g r).state = x ∧ (g r).retriesLeft = r.retriesLeft ∧ (g r).retriesSetting = r.retriesSetting) :
      Runs s (modBay b g (modLine b unitSeated (setState b .seating (modLine b f s)))) := by
    have e : modBay b g (modLine b unitSeated (setState b .seating (modLine b f s))) =
        modBay b (fun r => g { r with state := .seating }) (modLine b (fun u => unitSeated (f u)) s) := by
      simp only [modBay, modLine, setState, upd_upd]
    rw [e]
    exact reseat_runs b _ _ x s (fun r => hg _)
      (fun h => .of_present ((present h).1.trans (present h).2.symm) (present h).1 rfl rfl hx) (.inr ⟨rfl, group⟩)
      (.inr (.inl notQueued)) (.inr (.inl unpowered))
  unfold seat
  simp only
  split
  · have e : enqueueFresh b .normal (modLine b unitSeated (setState b .seating (modLine b f s))) =
        enqueueFresh b .normal (modBay b (fun r => { r with state := .off })
          (modLine b unitSeated (setState b .seating (modLine b f s)))) := by
      simp only [enqueueFresh, modBay, upd_upd]
    have off := seated (fun r => { r with state := .off }) .off rfl fun _ => ⟨rfl, rfl, rfl⟩
    have queued : Runs s (enqueueFresh b .normal (modLine b unitSeated (setState b .seating (modLine b f s)))) := by
      rw [e]
      refine off.trans (enqueueFresh_runs b .normal _ ?_ ?_) <;> rw [modBay_bays, getElem_upd_same] <;> rfl
    exact queued.quiet (quiet_latchBay b .inserted _)
  · exact (seated (fun r => { r with state := .off, hold := none }) .off rfl fun _ => ⟨rfl, rfl, rfl⟩).quiet
      (quiet_latchBay b .inserted _)

/-- SEATING_EXPIRED on a SEATING bay (R24). -/
theorem seat_runs_of_seating (b : Bay) (s : State) (hx : s.bays[b].state = .seating)
    (group : s.line.groupTimer = none ∨ s.line.bays[b].debounce.isSome = true) : Runs s (seat b s) := by
  have h := seat_runs b (fun u => u) s (by rw [hx]; rfl)
    (fun h => have p := h.seated (by rw [hx]; decide) (by rw [hx]; decide); ⟨p, h.judged.symm.trans p⟩)
    (group.imp_right .inr)
  rwa [modLine_id, setState_self b .seating s hx] at h

/-- A drive found in an EMPTY or TEST bay: the bay enters SEATING, and its expiry is taken at once when the debounce
setting is 0 (R9). -/
theorem startSeating_runs (b : Bay) (f : LineUnit → LineUnit) (s : State) (hx : settled s.bays[b].state = false)
    (hns : s.bays[b].state ≠ .seating)
    (keeps : (f s.line.bays[b]).inGroup = s.line.bays[b].inGroup)
    (present : SeatOk s.line.bays[b].seat s.bays[b].state →
      (f s.line.bays[b]).presence = .present ∧
        presenceOf (f s.line.bays[b]).record.prsActive (f s.line.bays[b]).prsIn = .present) :
    Runs s (startSeating b (modLine b f s)) := by
  unfold startSeating
  simp only
  split
  · exact seat_runs b f s hx present (.inr (.inl hns))
  · have e : ∀ d : Option Nat, modLine b (fun u => { u with debounce := d }) (setState b .seating (modLine b f s)) =
        modBay b (fun r => { r with state := .seating }) (modLine b (fun u => { f u with debounce := d }) s) := by
      intro d
      simp only [modBay, modLine, setState, upd_upd]
    rw [e]
    refine reseat_runs b _ _ .seating s (fun _ => ⟨rfl, rfl, rfl⟩) (fun h => ?_) (.inl keeps) (.inr (.inl ?_))
      (.inr (.inl ?_))
    · have ok := present h
      have free : (f s.line.bays[b]).inGroup = false := keeps.trans (h.noTimers hns).1
      exact
        { judged := ok.1.trans ok.2.symm
          empty := by simp
          seated := fun _ _ => ok.1
          group := fun g => absurd (free.symm.trans g) (by simp)
          debounce := fun _ => rfl
          seating := fun _ => .inr rfl }
    · intro h; rw [h] at hx; cases hx
    · cases h : s.bays[b].state <;> simp_all [powered, settled]

/-- A search through the entries of a table. -/
theorem any_toList_iff {α : Type} {n : Nat} (v : Vector α n) (p : α → Bool) :
    v.toList.any p = true ↔ ∃ i : Fin n, p v[i] = true := by
  rw [List.any_eq_true]
  constructor
  · rintro ⟨x, hx, hp⟩
    obtain ⟨i, hi, rfl⟩ := List.getElem_of_mem hx
    exact ⟨⟨i, by simpa using hi⟩, by simpa using hp⟩
  · rintro ⟨i, hp⟩
    exact ⟨v[i], by simp, hp⟩

theorem cancelEmptyGroup_eq (s : State) : cancelEmptyGroup s = { s with line := { s.line with
    groupTimer := if ∃ b : Bay, s.line.bays[b].inGroup = true then s.line.groupTimer else none } } := by
  have any := any_toList_iff s.line.bays (·.inGroup)
  unfold cancelEmptyGroup
  by_cases h : ∃ b : Bay, s.line.bays[b].inGroup = true
  · rw [if_pos (any.2 h), if_pos h]
  · rw [if_neg (fun k => h (any.1 k)), if_neg h]

/-- A loss of presence in SEATING (R8, R9, R12). -/
theorem unseat_runs (b : Bay) (f : LineUnit → LineUnit) (s : State) (hx : s.bays[b].state = .seating)
    (absent : (f s.line.bays[b]).presence = .absent)
    (judged : presenceOf (f s.line.bays[b]).record.prsActive (f s.line.bays[b]).prsIn = .absent) :
    Runs s (unseat b (modLine b f s)) := by
  have ok : SeatOk (unitSeated (f s.line.bays[b])).seat .empty :=
    { judged := absent.trans judged.symm, empty := fun _ => absent, seated := fun h => absurd rfl h
      group := fun g => absurd g (by simp [unitSeated, LineUnit.seat])
      debounce := fun d => absurd d (by simp [unitSeated, LineUnit.seat]), seating := by simp }
  have e : modLine b unitSeated (setState b .empty (modLine b f s)) =
      setState b .empty (modLine b (fun u => unitSeated (f u)) s) := by
    simp only [modBay, modLine, setState, upd_upd]
  have hv : view (setState b .empty (modLine b (fun u => unitSeated (f u)) s)) =
      (view s).reseat b (unitSeated (f s.line.bays[b])).seat .empty := by
    rw [view_setState, view_modLine]; rfl
  refine (Effect.unseat (view s) b _ hx ok).runs ?_ ?_
  · have : unseat b (modLine b f s) = cancelEmptyGroup (setState b .empty (modLine b (fun u => unitSeated (f u)) s)) :=
      congrArg cancelEmptyGroup e
    rw [this, cancelEmptyGroup_eq, ← hv]
    rfl
  · unfold unseat
    rw [cancelEmptyGroup_eq]
    exact settings_setState b .empty (modLine b f s)

/-- A removal, of a bay whose line unit says that the drive is gone (R11, R23). -/
theorem remove_runs (b : Bay) (f : LineUnit → LineUnit) (s : State) (hx : s.bays[b].state ≠ .seating)
    (keeps : (f s.line.bays[b]).inGroup = s.line.bays[b].inGroup ∧ (f s.line.bays[b]).debounce = s.line.bays[b].debounce)
    (absent : SeatOk s.line.bays[b].seat s.bays[b].state → (f s.line.bays[b]).presence = .absent ∧
      presenceOf (f s.line.bays[b]).record.prsActive (f s.line.bays[b]).prsIn = .absent) :
    Runs s (remove b (modLine b f s)) := by
  have ok (h : SeatOk s.line.bays[b].seat s.bays[b].state) : SeatOk (f s.line.bays[b]).seat .empty := by
    obtain ⟨free, still⟩ := h.noTimers hx
    exact
      { judged := (absent h).1.trans (absent h).2.symm, empty := fun _ => (absent h).1
        seated := fun h => absurd rfl h
        group := fun g => absurd ((keeps.1.trans free).symm.trans g) (by simp)
        debounce := fun d => absurd (keeps.2.trans still) (Option.isSome_iff_ne_none.1 d)
        seating := by simp }
  -- The state of the bay when its charge and its queue entry are gone.
  have emptied (t : State) (v : View) (run : Effects (settings s) (view s) v)
      (hv : v.seats = (view s).seats ∧ v.states = (view s).states)
      (ht : view t = { v with seats := Function.update v.seats b (f s.line.bays[b]).seat }) (hs : settings t = settings s)
      (queue : s.bays[b].state ≠ .queued ∨ b ∉ v.queue.map QueueEntry.bay)
      (charge : powered s.bays[b].state = false ∨ v.charge[b] = 0) :
      Runs s (latchBay b .removed (modLight b clearDriveFlags (modBay b emptyRecord t))) := by
    have last : Effect (settings s) v (v.reseat b (f s.line.bays[b]).seat .empty) :=
      .reseat v b _ .empty (by rw [hv.1, hv.2]; exact ok) (.inl (by rw [hv.1]; exact keeps.1))
        (.inr (by rw [hv.2]; exact queue)) (.inr (by rw [hv.2]; exact charge))
    have moved : Runs s (modBay b emptyRecord t) := by
      refine ⟨run.tail ?_, (settings_modBay b emptyRecord t fun _ => rfl).trans hs⟩
      rw [view_modBay_state b emptyRecord .empty t fun _ => ⟨rfl, rfl⟩, ht]
      exact last
    exact (moved.quiet (quiet_modLight b _ _)).quiet (quiet_latchBay b .removed _)
  have lines : view (modLine b f s) =
      { view s with seats := Function.update (view s).seats b (f s.line.bays[b]).seat } := view_modLine b f s
  unfold remove
  simp only [modLine_bays]
  by_cases hp : powered s.bays[b].state = true
  · have hq : s.bays[b].state ≠ .queued := by intro h; rw [h] at hp; cases hp
    rw [if_pos hp, if_neg hq]
    refine emptied _ _ (.single (.charge (view s) b 0 (.inl rfl) (.inl (Nat.zero_le _)))) (by simp) ?_ ?_ (.inl hq)
      (.inr (by rw [(View.setCharge_keeps _ b 0).2.2.2.2.2, getElem_put_same]))
    · rw [view_leavePower, lines, View.setCharge_move, (View.setCharge_keeps _ b 0).1]
    · rw [settings_leavePower]; rfl
  · rw [if_neg hp]
    have unpowered : powered s.bays[b].state = false := by simpa using hp
    by_cases hq : s.bays[b].state = .queued
    · rw [if_pos hq]
      refine emptied _ _ (.single (.leave (view s) b)) ⟨rfl, rfl⟩ ?_ rfl (.inr ?_) (.inl unpowered)
      · rw [view_leaveQueue, lines]; rfl
      · simp [View.withQueue, dropEntry]
    · rw [if_neg hq]
      exact emptied _ _ .refl ⟨rfl, rfl⟩ lines rfl (.inl hq) (.inl unpowered)

end Sys2Proof.Machine

namespace Sys2Proof.Machine

/-! ### What single effects keep: the queue, the charges and the ceiling -/

/-- Only QUEUED bays stand in the spin-up queue (R50). -/
def View.Queued (v : View) : Prop := ∀ e ∈ v.queue, v.states e.bay = .queued

/-- A bay without power bears no charge (R45). -/
def View.Idle (v : View) : Prop := ∀ b : Bay, powered (v.states b) = false → v.charge[b] = 0

/-- The committed draw is within the live ceiling (R47). -/
def View.Within (v : View) : Prop := v.committed ≤ v.live

theorem BaysConsistent.queued {s : State} (h : BaysConsistent s) : (view s).Queued := fun e he =>
  (h.queue.member e.bay).1 (List.mem_map_of_mem he)

theorem BudgetKept.idle {s : State} (h : BudgetKept s) : (view s).Idle := h.unpowered

theorem BudgetKept.held {s : State} (h : BudgetKept s) : (view s).Within := h.within

/-- What every single effect keeps, any number keeps. -/
theorem Effects.keep {σ : Settings} {P : View → Prop} (step : ∀ v w, Effect σ v w → P v → P w) {v w : View}
    (e : Effects σ v w) (h : P v) : P w := by
  induction e with
  | refl => exact h
  | tail _ e ih => exact step _ _ e ih

theorem mem_dropEntry {b : Bay} {q : List QueueEntry} {e : QueueEntry} :
    e ∈ dropEntry b q ↔ e ∈ q ∧ e.bay ≠ b := by simp [dropEntry]

theorem mem_joinClass {x e : QueueEntry} {q : List QueueEntry} (h : e ∈ joinClass x q) : e = x ∨ e ∈ q := by
  unfold joinClass at h
  split at h
  · rcases List.mem_append.1 h with h | h
    · exact .inr h
    · exact .inl (by simpa using h)
  · simp only [List.mem_append, List.mem_filter, List.mem_singleton] at h
    rcases h with (h | h) | h
    · exact .inr h.1
    · exact .inl h
    · exact .inr h.1

theorem Effect.keeps_queued {σ : Settings} {v w : View} (e : Effect σ v w) (h : v.Queued) : w.Queued := by
  cases e with
  | reseat b u x seat group queue charge =>
    intro e he
    by_cases hb : e.bay = b
    · rcases queue with hx | hx | hx
      · simp [View.reseat, hb, hx]
      · exact absurd (hb ▸ h e he) hx
      · exact absurd (List.mem_map_of_mem he) (hb ▸ hx)
    · simpa [View.reseat, hb] using h e he
  | unseat b u state seat =>
    intro e he
    have hb : e.bay ≠ b := by
      intro hb
      have := h e he
      rw [hb, state] at this
      cases this
    simpa [View.cancelGroup, View.reseat, hb] using h e he
  | join b c state =>
    intro e he
    rcases mem_joinClass he with rfl | he
    · exact state
    · exact h e (mem_dropEntry.1 he).1
  | leave b => exact fun e he => h e (mem_dropEntry.1 he).1
  | charge b x owner fits =>
    obtain ⟨-, -, states, -, queue, -⟩ := v.setCharge_keeps b x
    unfold View.Queued
    rw [states, queue]
    exact h
  | retries b n bound => exact h
  | admission b x waits fits =>
    let v' : View := (v.withQueue (dropEntry b v.queue)).move b .starting
    obtain ⟨-, -, states, -, queue, -⟩ := v'.setCharge_keeps b x
    intro e he
    rw [queue] at he
    obtain ⟨he, hb⟩ := mem_dropEntry.1 he
    rw [states]
    simpa [v', View.move, View.withQueue, hb] using h e he
  | ceiling x low high => unfold View.setCeiling; split <;> exact h

theorem Effect.keeps_idle {σ : Settings} {v w : View} (e : Effect σ v w) (h : v.Idle) : w.Idle := by
  cases e with
  | reseat b u x seat group queue charge =>
    intro c hc
    by_cases hb : c = b
    · subst hb
      rcases charge with hx | hx | hx
      · simp [View.reseat, hx] at hc
      · exact h c hx
      · exact hx
    · exact h c (by simpa [View.reseat, hb] using hc)
  | unseat b u state seat =>
    intro c hc
    by_cases hb : c = b
    · exact h c (by rw [hb, state]; rfl)
    · exact h c (by simpa [View.cancelGroup, View.reseat, hb] using hc)
  | join => exact h
  | leave => exact h
  | charge b x owner fits =>
    obtain ⟨-, -, states, -, -, charge⟩ := v.setCharge_keeps b x
    intro c hc
    rw [states] at hc
    rw [charge, getElem_put]
    split
    · next e =>
      rcases owner with hx | hx
      · exact hx
      · rw [e, hx] at hc; cases hc
    · exact h c hc
  | retries => exact h
  | admission b x waits fits =>
    let v' : View := (v.withQueue (dropEntry b v.queue)).move b .starting
    obtain ⟨-, -, states, -, -, charge⟩ := v'.setCharge_keeps b x
    intro c hc
    rw [states] at hc
    rw [charge, getElem_put]
    by_cases hb : c = b
    · simp [v', View.move, hb, powered] at hc
    · rw [if_neg hb]
      exact h c (by simpa [v', View.move, View.withQueue, hb] using hc)
  | ceiling => unfold View.setCeiling; split <;> exact h

theorem View.stepDown_within (v : View) (h : v.Within) : v.stepDown.Within := by
  unfold View.stepDown
  split
  · exact h
  · split <;> exact Nat.le_max_right _ _

/-- What one changed charge does to the committed draw. -/
theorem sum_put (w : Vector Nat 16) (b : Bay) (x : Nat) : (put w b x).toList.sum + w[b] = w.toList.sum + x := by
  have h := sum_set w.toList b.val (by simp) x
  have e : (put w b x).toList = w.toList.set b.val x := by simp [put, Vector.toList_set]
  rw [e]
  simpa using h

theorem View.setCharge_within (v : View) (b : Bay) (x : Nat) (h : v.Within)
    (fits : x ≤ v.charge[b] ∨ v.committed - v.charge[b] + x ≤ v.live) : (v.setCharge b x).Within := by
  have sum := sum_put v.charge b x
  have here : v.charge[b] ≤ v.committed := List.single_le_sum (fun _ _ => Nat.zero_le _) _ (by simp)
  unfold View.setCharge
  split
  · exact View.stepDown_within _ (by simp only [View.Within, View.committed] at *; omega)
  · simp only [View.Within, View.committed] at *; omega

theorem Effect.keeps_within {σ : Settings} {v w : View} (e : Effect σ v w) (h : v.Within) : w.Within := by
  cases e with
  | reseat => exact h
  | unseat => exact h
  | join => exact h
  | leave => exact h
  | charge b x owner fits => exact v.setCharge_within b x h fits
  | retries => exact h
  | admission b x waits fits =>
    exact View.setCharge_within _ b x h (.inr (Nat.le_trans (Nat.add_le_add_right (Nat.sub_le _ _) x) fits))
  | ceiling =>
    unfold View.setCeiling
    split
    · next hc => exact hc
    · exact Nat.le_refl _

/-! ### What single effects keep: the ranges of the ceiling and of the retries (R40, R47, R48) -/

/-- The live and the pending ceiling and the retries left lie in their ranges. -/
structure View.InRange (v : View) : Prop where
  retries : ∀ b, v.retriesLeft b ≤ 3
  low : 100 ≤ v.live
  high : v.live ≤ 4000
  pending : ∀ p, v.pendingCeiling = some p → 100 ≤ p ∧ p ≤ 4000

theorem View.stepDown_inRange (v : View) (h : v.InRange) (fits : v.committed ≤ 4000) : v.stepDown.InRange := by
  unfold View.stepDown
  split
  · exact h
  · next p hp =>
    have hr := h.pending p hp
    split
    · exact ⟨h.retries, Nat.le_trans hr.1 (Nat.le_max_left _ _), Nat.max_le.2 ⟨hr.2, fits⟩, by simp⟩
    · exact ⟨h.retries, Nat.le_trans hr.1 (Nat.le_max_left _ _), Nat.max_le.2 ⟨hr.2, fits⟩, h.pending⟩

theorem View.setCharge_inRange (v : View) (b : Bay) (x : Nat) (h : v.InRange) (hw : v.Within) :
    (v.setCharge b x).InRange := by
  unfold View.setCharge
  split
  · refine View.stepDown_inRange _ ⟨h.retries, h.low, h.high, h.pending⟩ ?_
    have sum := sum_put v.charge b x
    have high := h.high
    simp only [View.Within, View.committed] at *
    omega
  · exact ⟨h.retries, h.low, h.high, h.pending⟩

theorem Effect.keeps_inRange {σ : Settings} (hσ : ∀ b, σ.retries b ≤ 3) {v w : View} (e : Effect σ v w) (hs : v.Within)
    (h : v.InRange) : w.InRange := by
  cases e with
  | reseat => exact ⟨h.retries, h.low, h.high, h.pending⟩
  | unseat => exact ⟨h.retries, h.low, h.high, h.pending⟩
  | join => exact ⟨h.retries, h.low, h.high, h.pending⟩
  | leave => exact ⟨h.retries, h.low, h.high, h.pending⟩
  | charge b x _ _ => exact v.setCharge_inRange b x h hs
  | retries b n bound =>
    refine ⟨fun c => ?_, h.low, h.high, h.pending⟩
    have hn : n ≤ 3 := by
      rcases bound with rfl | hn
      · exact hσ b
      · exact Nat.le_trans hn (h.retries b)
    simp only [View.withRetries, Function.update_apply]
    split
    · exact hn
    · exact h.retries c
  | admission b x _ _ => exact View.setCharge_inRange _ b x ⟨h.retries, h.low, h.high, h.pending⟩ hs
  | ceiling x low high =>
    unfold View.setCeiling
    split
    · exact ⟨h.retries, low, high, by simp⟩
    · next hc =>
      refine ⟨h.retries, Nat.le_of_lt (Nat.lt_of_le_of_lt low (Nat.lt_of_not_le hc)), Nat.le_trans hs h.high, ?_⟩
      rintro p hp
      cases hp
      exact ⟨low, high⟩

/-! ### What single effects keep: the seats (R2, R8, R9, R12) -/

/-- Every bay's seating part agrees with its state, and a scan group that lost its last member has no timer. -/
structure View.Seated (v : View) : Prop where
  ok : ∀ b, SeatOk (v.seats b) (v.states b)
  timer : v.groupTimer.isSome = true → ∃ b, (v.seats b).inGroup = true

/-- A scan group with a member has its timer (R12). -/
def View.GroupTimed (v : View) : Prop := ∀ b, (v.seats b).inGroup = true → v.groupTimer.isSome = true

theorem View.setCharge_seats {v : View} (b : Bay) (x : Nat) :
    (v.setCharge b x).seats = v.seats ∧ (v.setCharge b x).states = v.states ∧
      (v.setCharge b x).groupTimer = v.groupTimer := by
  obtain ⟨seats, timer, states, -⟩ := v.setCharge_keeps b x
  exact ⟨seats, states, timer⟩

theorem View.Seated.of_eq {v w : View} (h : v.Seated) (seats : w.seats = v.seats) (states : w.states = v.states)
    (timer : w.groupTimer = v.groupTimer) : w.Seated :=
  ⟨by rw [seats, states]; exact h.ok, by rw [seats, timer]; exact h.timer⟩

theorem View.Seated.reseat {v : View} (h : v.Seated) (b : Bay) (u : SeatView) (x : BayState) (ok : SeatOk u x)
    (group : u.inGroup = (v.seats b).inGroup ∨ u.inGroup = false ∧
        (v.groupTimer = none ∨ v.states b ≠ .seating ∨ (v.seats b).debounce.isSome = true)) :
    (v.reseat b u x).Seated := by
  refine ⟨fun c => ?_, fun ht => ?_⟩
  · by_cases hc : c = b
    · simpa [View.reseat, hc] using ok
    · simpa [View.reseat, hc] using h.ok c
  · obtain ⟨c, hc⟩ := h.timer ht
    refine ⟨c, ?_⟩
    by_cases hb : c = b
    · subst hb
      have : u.inGroup = true := by
        rcases group with e | ⟨-, e | e | e⟩
        · rw [e, hc]
        · have ht : v.groupTimer.isSome = true := ht
          rw [e] at ht; cases ht
        · exact absurd ((h.ok c).group hc).1 e
        · rw [((h.ok c).group hc).2] at e; cases e
      simpa [View.reseat] using this
    · simpa [View.reseat, hb] using hc

theorem Effect.keeps_seated {σ : Settings} {v w : View} (e : Effect σ v w) (hs : v.Queued) (h : v.Seated) : w.Seated := by
  cases e with
  | reseat b u x seat group _ _ => exact h.reseat b u x (seat (h.ok b)) group
  | unseat b u state seat =>
    refine ⟨fun c => ?_, fun ht => ?_⟩
    · by_cases hc : c = b
      · simpa [View.cancelGroup, View.reseat, hc] using seat
      · simpa [View.cancelGroup, View.reseat, hc] using h.ok c
    · by_contra hn
      have none : (v.reseat b u .empty).cancelGroup.groupTimer = .none := if_neg hn
      rw [none] at ht
      cases ht
  | join => exact h.of_eq rfl rfl rfl
  | leave => exact h.of_eq rfl rfl rfl
  | charge b x _ _ =>
    obtain ⟨seats, states, timer⟩ := View.setCharge_seats (v := v) b x
    exact h.of_eq seats states timer
  | retries => exact h.of_eq rfl rfl rfl
  | admission b x waits fits =>
    obtain ⟨seats, states, timer⟩ :=
      View.setCharge_seats (v := (v.withQueue (dropEntry b v.queue)).move b .starting) b x
    have queued : v.states b = .queued := by
      obtain ⟨e, he, rfl⟩ := List.mem_map.1 waits
      exact hs e he
    have ok : SeatOk (v.seats b) .starting := (h.ok b).settled (by rw [queued]; rfl) rfl
    have moved := h.reseat b (v.seats b) .starting ok (.inl rfl)
    rw [View.reseat_self] at moved
    exact moved.of_eq seats states timer
  | ceiling =>
    unfold View.setCeiling
    split <;> exact h.of_eq rfl rfl rfl

theorem Effect.keeps_groupTimed {σ : Settings} {v w : View} (e : Effect σ v w) (h : v.GroupTimed) :
    w.GroupTimed := by
  have charged (u : View) (b : Bay) (x : Nat) (hu : u.GroupTimed) : (u.setCharge b x).GroupTimed := by
    obtain ⟨seats, -, timer⟩ := View.setCharge_seats (v := u) b x
    unfold View.GroupTimed
    rw [seats, timer]
    exact hu
  cases e with
  | reseat b u x seat group _ _ =>
    intro c hc
    by_cases hb : c = b
    · subst hb
      rcases group with e | ⟨e, -⟩
      · exact h c (by simpa [View.reseat, ← e] using hc)
      · simp [View.reseat, e] at hc
    · exact h c (by simpa [View.reseat, hb] using hc)
  | unseat b u state seat =>
    intro c hc
    have member : ∃ c, ((v.reseat b u .empty).seats c).inGroup = true := ⟨c, hc⟩
    have old : (v.seats c).inGroup = true := by
      by_cases hb : c = b
      · subst hb
        have : u.inGroup = true := by simpa [View.cancelGroup, View.reseat] using hc
        exact absurd (seat.group this).1 (by decide)
      · simpa [View.cancelGroup, View.reseat, hb] using hc
    simp only [View.cancelGroup, if_pos member]
    exact h c old
  | join => exact h
  | leave => exact h
  | charge b x _ _ => exact charged v b x h
  | retries => exact h
  | admission b x _ _ => exact charged _ b x h
  | ceiling =>
    unfold View.setCeiling
    split <;> exact h

/-- No effect starts the timer of the scan group, and none puts a bay into it. -/
theorem Effect.keeps_noGroup {σ : Settings} {v w : View} (e : Effect σ v w) (b : Bay)
    (h : (v.seats b).inGroup = false) : (w.seats b).inGroup = false := by
  cases e with
  | reseat c u x seat group _ _ =>
    by_cases hb : b = c
    · subst hb
      rcases group with e | ⟨e, -⟩
      · simpa [View.reseat, e] using h
      · simpa [View.reseat] using e
    · simpa [View.reseat, hb] using h
  | unseat c u state seat =>
    by_cases hb : b = c
    · subst hb
      have : u.inGroup = false := by
        by_contra hn
        exact absurd (seat.group (by simpa using hn)).1 (by decide)
      simpa [View.cancelGroup, View.reseat] using this
    · simpa [View.cancelGroup, View.reseat, hb] using h
  | join => exact h
  | leave => exact h
  | charge c x _ _ => rwa [(View.setCharge_seats c x).1]
  | retries => exact h
  | admission c x _ _ => rwa [(View.setCharge_seats c x).1]
  | ceiling =>
    unfold View.setCeiling
    split <;> exact h

end Sys2Proof.Machine

namespace Sys2Proof.Machine

/-! ### Presence edges and line test -/

/-- A line unit changes under a bay that stays in its state. -/
theorem modLine_runs (b : Bay) (f : LineUnit → LineUnit) (s : State)
    (ok : SeatOk s.line.bays[b].seat s.bays[b].state → SeatOk (f s.line.bays[b]).seat s.bays[b].state)
    (keeps : (f s.line.bays[b]).inGroup = s.line.bays[b].inGroup) : Runs s (modLine b f s) := by
  by_cases hq : s.bays[b].state = .queued
  · have e : setState b .queued (modLine b f s) = modLine b f s := setState_self b .queued _ hq
    have h := reseat_runs b f (fun r => { r with state := .queued }) .queued s (fun _ => ⟨rfl, rfl, rfl⟩) (hq ▸ ok)
      (.inl keeps) (.inl rfl) (.inr (.inl (by rw [hq]; rfl)))
    exact e ▸ h
  · have e : setState b s.bays[b].state (modLine b f s) = modLine b f s := setState_self b _ _ rfl
    have h := reseat_runs b f (fun r => { r with state := s.bays[b].state }) _ s (fun _ => ⟨rfl, rfl, rfl⟩) ok
      (.inl keeps) (.inr (.inl hq)) (by cases hp : powered s.bays[b].state <;> simp)
    exact e ▸ h

/-- Another line unit with the same timers suits a state that its presence agrees with. -/
theorem SeatOk.relabel {u w : SeatView} {x : BayState} (h : SeatOk u x) (group : w.inGroup = u.inGroup)
    (debounce : w.debounce = u.debounce) (judged : w.presence = presenceOf w.active w.prsIn)
    (empty : x = .empty → w.presence = .absent) (seated : x ≠ .empty → x ≠ .test → w.presence = .present) :
    SeatOk w x where
  judged := judged
  empty := empty
  seated := seated
  group := by rw [group, debounce]; exact h.group
  debounce := by rw [debounce]; exact h.debounce
  seating := by rw [group, debounce]; exact h.seating

/-- A presence edge whose new presence is the one the pin gives (R7, R8). -/
theorem presenceEdge_runs (b : Bay) (f : LineUnit → LineUnit) (s : State)
    (keeps : (f s.line.bays[b]).inGroup = s.line.bays[b].inGroup ∧ (f s.line.bays[b]).debounce = s.line.bays[b].debounce)
    (judged : (f s.line.bays[b]).presence =
      presenceOf (f s.line.bays[b]).record.prsActive (f s.line.bays[b]).prsIn) :
    Runs s (presenceEdge b (modLine b f s)) := by
  have presence : (modLine b f s).line.bays[b].presence = (f s.line.bays[b]).presence := by
    rw [modLine_lines, getElem_upd_same]
  -- The new line unit suits a state that its presence agrees with.
  have ok (x : BayState) (h : SeatOk s.line.bays[b].seat x)
      (empty : x = .empty → (f s.line.bays[b]).presence = .absent)
      (seated : x ≠ .empty → x ≠ .test → (f s.line.bays[b]).presence = .present) : SeatOk (f s.line.bays[b]).seat x :=
    h.relabel keeps.1 keeps.2 judged empty seated
  unfold presenceEdge
  rw [presence, modLine_bays]
  split
  · next hx =>
    have counted : Runs s (modLine b f s) :=
      modLine_runs b f s (fun h => ok _ h (by rw [hx]; simp) (by rw [hx]; simp)) keeps.1
    exact counted.quiet (quiet_modLine b _ _ fun _ => rfl)
  · next hx hp =>
    exact startSeating_runs b f s (by rw [hx]; rfl) (by rw [hx]; decide) keeps.1 fun _ => ⟨hp, judged.symm.trans hp⟩
  · next hx hp => exact modLine_runs b f s (fun h => ok _ h (fun _ => hp) fun n => absurd hx n) keeps.1
  · next hx hp => exact unseat_runs b f s hx hp (judged.symm.trans hp)
  · next hp _ _ hns => exact remove_runs b f s (fun h => hns h) keeps fun _ => ⟨hp, judged.symm.trans hp⟩
  · next hp _ hne => exact modLine_runs b f s (fun h => ok _ h (fun e => absurd e hne) fun _ _ => hp) keeps.1

/-- A bay's presence is judged again after its record or its connector has changed (R2, R7). -/
theorem judgePresence_runs (b : Bay) (f : LineUnit → LineUnit) (s : State)
    (hf : ∀ u, (f u).presence = u.presence ∧ (f u).debounce = u.debounce ∧ (f u).inGroup = u.inGroup) :
    Runs s (judgePresence b (modLine b f s)) := by
  obtain ⟨presence, debounce, group⟩ := hf s.line.bays[b]
  unfold judgePresence
  simp only [modLine_lines, getElem_upd_same]
  split
  · next h =>
    refine modLine_runs b f s (fun k => ?_) group
    exact k.relabel group debounce h.symm (fun e => presence.trans (k.empty e))
      fun e n => presence.trans (k.seated e n)
  · next h =>
    have e (x : Presence) : modLine b (fun u => { u with presence := x }) (modLine b f s) =
        modLine b (fun u => { f u with presence := x }) s := by simp only [modLine, upd_upd]
    rw [e]
    exact presenceEdge_runs b (fun u => { f u with presence := _ }) s ⟨group, debounce⟩ rfl

theorem setConnector_runs (b : Bay) (d : PrsDrive) (s : State) : Runs s (setConnector b d s) :=
  judgePresence_runs b (fun u => { u with prsIn := d }) s fun _ => ⟨rfl, rfl, rfl⟩

theorem writeLines_runs (rec : LineRecord) (b : Bay) (s : State) : Runs s (writeLines rec b s) :=
  judgePresence_runs b (fun u => { u with record := rec }) s fun _ => ⟨rfl, rfl, rfl⟩

/-- The records of the other bays through the operations of seating and removal. -/
theorem seat_bays_ne (b c : Bay) (s : State) (h : c ≠ b) : (seat b s).bays[c] = s.bays[c] := by
  unfold seat
  simp only
  split <;> simp [enqueueFresh, joinQueue, ask, modBay, -Fin.getElem_fin, getElem_upd_ne _ _ h]

theorem startSeating_of_zero (b : Bay) (s : State) (h : s.line.debounceSetting = 0) :
    startSeating b s = seat b (setState b .seating s) := if_pos h

theorem startSeating_of_pos (b : Bay) (s : State) (h : 0 < s.line.debounceSetting) : startSeating b s =
    modLine b (fun u => { u with debounce := some (s.now + 100 * s.line.debounceSetting) }) (setState b .seating s) :=
  if_neg (Nat.pos_iff_ne_zero.1 h)

theorem startSeating_bays_ne (b c : Bay) (s : State) (h : c ≠ b) : (startSeating b s).bays[c] = s.bays[c] := by
  have e : (setState b .seating s).bays[c] = s.bays[c] := by rw [setState_bays, getElem_upd_ne _ _ h]
  rcases Nat.eq_zero_or_pos s.line.debounceSetting with hd | hd
  · rw [startSeating_of_zero b s hd, seat_bays_ne b c _ h, e]
  · rw [startSeating_of_pos b s hd, modLine_bays, e]

theorem remove_bays_ne (b c : Bay) (s : State) (h : c ≠ b) : (remove b s).bays[c] = s.bays[c] := by
  have e : (leavePower b s).bays[c] = s.bays[c] := by rw [leavePower_bays, getElem_upd_ne _ _ h]
  unfold remove
  simp only [latchBay_bays, modLight_bays, modBay_bays]
  rw [getElem_upd_ne _ _ h]
  repeat' split
  all_goals simp [e, -Fin.getElem_fin]

theorem exitTest_bays_ne (b c : Bay) (s : State) (h : c ≠ b) : (exitTest b s).bays[c] = s.bays[c] := by
  unfold exitTest
  simp only
  repeat' split
  all_goals simp [startSeating_bays_ne b c _ h, remove_bays_ne b c _ h, getElem_upd_ne _ _ h, -Fin.getElem_fin]

/-- A run over distinct bays, each ready when its turn comes. -/
theorem Runs.foldl_ready (f : State → Bay → State) (ready : State → Bay → Prop)
    (run : ∀ s b, ready s b → Runs s (f s b)) (keep : ∀ s b c, c ≠ b → ready s b → ready s c → ready (f s b) c)
    (l : List Bay) (nodup : l.Nodup) (s : State) (h : ∀ b ∈ l, ready s b) : Runs s (l.foldl f s) := by
  induction l generalizing s with
  | nil => exact .refl s
  | cons b l ih =>
    obtain ⟨hb, hl⟩ := List.nodup_cons.1 nodup
    have here := h b (by simp)
    exact (run s b here).trans (ih hl _ fun c hc =>
      keep s b c (fun e => hb (e ▸ hc)) here (h c (List.mem_cons_of_mem b hc)))

theorem allBays_nodup : allBays.Nodup := by decide
theorem mem_allBays (b : Bay) : b ∈ allBays := by revert b; decide

/-- A bay that is out of TEST by LINE_TEST_EXIT (R17). -/
theorem exitTest_runs (b : Bay) (s : State) (hx : s.bays[b].state = .test) : Runs s (exitTest b s) := by
  have notSeating : s.bays[b].state ≠ .seating := by rw [hx]; decide
  have notQueued : s.bays[b].state ≠ .queued := by rw [hx]; decide
  have unpowered : powered s.bays[b].state = false := by rw [hx]; rfl
  have judged (h : SeatOk s.line.bays[b].seat s.bays[b].state) : s.line.bays[b].presence =
      presenceOf s.line.bays[b].record.prsActive s.line.bays[b].prsIn := h.judged
  have leave (x : BayState) (cause : Option FaultCause) (ok : SeatOk s.line.bays[b].seat s.bays[b].state →
      SeatOk s.line.bays[b].seat x) : Runs s
      (modBay b (fun r => { r with state := x, fault := cause, hold := none, prior := none }) s) := by
    have h := reseat_runs b (fun u => u) (fun r => { r with state := x, fault := cause, hold := none, prior := none }) x s
      (fun _ => ⟨rfl, rfl, rfl⟩) ok (.inl rfl) (.inr (.inl notQueued)) (.inr (.inl unpowered))
    rwa [modLine_id] at h
  have settle (x : BayState) (hp : s.line.bays[b].presence = .present) (hx : settled x = true)
      (h : SeatOk s.line.bays[b].seat s.bays[b].state) : SeatOk s.line.bays[b].seat x :=
    .of_present h.judged hp (h.noTimers notSeating).1 (h.noTimers notSeating).2 hx
  have removed (hp : s.line.bays[b].presence = .absent) : Runs s (remove b s) := by
    have h := remove_runs b (fun u => u) s notSeating ⟨rfl, rfl⟩ fun h => ⟨hp, (judged h).symm.trans hp⟩
    rwa [modLine_id] at h
  unfold exitTest
  simp only
  split
  · exact .refl s
  · next hp =>
    have e : startSeating b (modBay b (fun r => { r with state := .seating, fault := none, hold := none, prior := none }) s)
        = startSeating b (modLine b (fun u => u)
          (modBay b (fun r => { r with fault := none, hold := none, prior := none }) s)) := by
      have same : setState b .seating
          (modBay b (fun r => { r with state := .seating, fault := none, hold := none, prior := none }) s) =
          setState b .seating (modBay b (fun r => { r with fault := none, hold := none, prior := none }) s) := by
        simp only [setState, modBay, upd_upd]
      unfold startSeating
      rw [modLine_id, same]
    have left : Quiet s (modBay b (fun r => { r with fault := none, hold := none, prior := none }) s) :=
      quiet_modBay b (fun r => { r with fault := none, hold := none, prior := none }) s fun _ => ⟨rfl, rfl, rfl⟩
    have state : (modBay b (fun r => { r with fault := none, hold := none, prior := none }) s).bays[b].state = .test := by
      rw [modBay_bays, getElem_upd_same]; exact hx
    rw [e]
    exact left.then (startSeating_runs b _ _ (by rw [state]; rfl) (by rw [state]; decide) rfl
      fun h => ⟨hp, h.judged.symm.trans hp⟩)
  · next hp =>
    exact leave .empty none fun h => h.elsewhere notSeating (by decide) (fun _ => hp) fun n => absurd rfl n
  · next hp => exact leave .off none (settle .off hp rfl)
  · next c _ hp => exact leave .faulted (some c) (settle .faulted hp rfl)
  · next hp => exact removed hp
  · next hp => exact removed hp

theorem enterTest_runs (b : Bay) (s : State) (hx : enterOutcome s.bays[b] = .entered) : Runs s (enterTest b s) := by
  have state : s.bays[b].state = .empty ∨ s.bays[b].state = .faulted ∨ s.bays[b].state = .off := by
    unfold enterOutcome at hx
    split at hx <;> simp_all
  have notSeating : s.bays[b].state ≠ .seating := by rcases state with h | h | h <;> rw [h] <;> decide
  refine reseat_runs b (fun u => { u with edges := 0 })
    (fun r => { r with state := .test, prior := some (priorOf r), fault := none }) .test s (fun _ => ⟨rfl, rfl, rfl⟩)
    (fun h => h.elsewhere notSeating (by decide) (fun e => nomatch e) fun _ n => absurd rfl n) (.inl rfl)
    (.inr (.inl ?_)) (.inr (.inl ?_))
  · rcases state with h | h | h <;> rw [h] <;> decide
  · rcases state with h | h | h <;> rw [h] <;> rfl

end Sys2Proof.Machine

namespace Sys2Proof.Machine

/-! ### Settings in their ranges -/

/-- A class record in the ranges of R43. -/
def ClassRecord.InRange (c : ClassRecord) : Prop :=
  c.startDraw ≤ 1000 ∧ c.runDraw ≤ 1000 ∧ 10 ≤ c.startWindow ∧ c.startWindow ≤ 200

/-- A snoop rule in the ranges of R106, whose encoding suits its action. -/
def SnoopRule.InRange (r : SnoopRule) : Prop :=
  r.word ≤ 254 ∧ r.byte ≤ 1019 ∧ (r.encoding = .nonzero ↔ r.action = .faultHint)

/-- A stored curve (R128). -/
def ZoneSettings.CurveOk (z : ZoneSettings) : Prop := 2 ≤ z.curve.length ∧ z.curve.length ≤ 6 ∧ curveOk z.curve = true

/-- The other settings of a zone in the ranges of R125. -/
def ZoneSettings.InRange (z : ZoneSettings) : Prop :=
  z.minDuty ≤ 1000 ∧ z.staleFloor ≤ 1000 ∧ z.boost ≤ 500 ∧ 1 ≤ z.slewUp ∧ z.slewUp ≤ 1000 ∧ 1 ≤ z.slewDown ∧
    z.slewDown ≤ 1000

/-- The two times of a pattern in the range of R148. -/
def Pattern.InRange (p : Pattern) : Prop := p.onTime ≤ 255 ∧ p.offTime ≤ 255

/-- A sensor's offset in the range of R122. -/
def Sensor.InRange (x : Sensor) : Prop := -10 ≤ x.offset ∧ x.offset ≤ 10

/-- Every setting that only a request changes lies in its range. -/
structure Settings.InRange (σ : Settings) : Prop where
  debounce : σ.debounce ≤ 50
  retries : ∀ b, σ.retries b ≤ 3
  classes : ∀ c : ClassNo, σ.classes[c].InRange
  stagger : σ.stagger ≤ 150
  limit : 1 ≤ σ.limit ∧ σ.limit ≤ 8
  ocFilter : ∀ b : Bay, σ.ocFilter[b] ∈ ocFilterValues
  timeout : 1 ≤ σ.timeout ∧ σ.timeout ≤ 255
  thermal : 30 ≤ σ.warn ∧ σ.shutdown ≤ 110 ∧ 1 ≤ σ.otFilter ∧ σ.otFilter ≤ 4 ∧ 1 ≤ σ.staleLimit ∧ σ.staleLimit ≤ 60
  sensors : ∀ n, -10 ≤ σ.offsets n ∧ σ.offsets n ≤ 10
  curves : ∀ z, (σ.zones z).CurveOk
  rules : ∀ n : Fin 8, σ.rules[n].InRange
  zones : ∀ z, (σ.zones z).InRange
  timing : 250 ≤ σ.period ∧ σ.period ≤ 4000 ∧ σ.stallRpm ≤ 20000 ∧ 1 ≤ σ.stallFilter ∧ σ.stallFilter ≤ 8
  patterns : ∀ p, (σ.patterns p).1 ≤ 255 ∧ (σ.patterns p).2 ≤ 255
  hold : 20 ≤ σ.hold ∧ σ.hold ≤ 500

theorem Settings.InRange.withRetries {σ : Settings} (h : σ.InRange) (r : Bay → Nat) (hr : ∀ b, r b ≤ 3) :
    ({ σ with retries := r } : Settings).InRange := { h with retries := hr }

theorem Settings.InRange.withOcFilter {σ : Settings} (h : σ.InRange) (v : Vector Nat 16)
    (hv : ∀ b : Bay, v[b] ∈ ocFilterValues) : ({ σ with ocFilter := v } : Settings).InRange := { h with ocFilter := hv }

/-- What every entry of a table has, every entry has after one is replaced by another that has it. -/
theorem put_all {α : Type} {n : Nat} {P : α → Prop} (v : Vector α n) (i : Fin n) (x : α) (hx : P x)
    (h : ∀ j : Fin n, P v[j]) (j : Fin n) : P (put v i x)[j] := by
  rw [getElem_put]
  split
  · exact hx
  · exact h j

theorem upd_all {α : Type} {n : Nat} {P : α → Prop} (v : Vector α n) (i : Fin n) (f : α → α) (hf : P (f v[i]))
    (h : ∀ j : Fin n, P v[j]) (j : Fin n) : P (upd v i f)[j] := by
  rw [getElem_upd]
  split
  · exact hf
  · exact h j

theorem settingsInRange_iff (s : State) : SettingsInRange s ↔ (settings s).InRange ∧ (view s).InRange := by
  constructor
  · intro h
    exact ⟨⟨h.debounce, fun b => (h.retries b).1, h.classes, h.stagger, h.limit, h.ocFilter, h.timeout, h.thermal,
        h.sensors, h.curves, h.rules, h.zones, h.timing, h.patterns, h.hold⟩,
      fun b => (h.retries b).2, h.ceiling.1, h.ceiling.2, h.pendingCeiling⟩
  · rintro ⟨h, k⟩
    exact
      { debounce := h.debounce, retries := fun b => ⟨h.retries b, k.retries b⟩, classes := h.classes
        ceiling := ⟨k.low, k.high⟩, pendingCeiling := k.pending, stagger := h.stagger, limit := h.limit
        ocFilter := h.ocFilter, timeout := h.timeout, thermal := h.thermal, sensors := h.sensors, curves := h.curves
        rules := h.rules, zones := h.zones, timing := h.timing, patterns := h.patterns, hold := h.hold }

/-- A change of settings alone that leaves them in their ranges. -/
def Tuned (s t : State) : Prop := view t = view s ∧ ((settings s).InRange → (settings t).InRange)

/-- What a command does before its end: single effects under fixed settings, or a change of settings. -/
def Works (s t : State) : Prop := Runs s t ∨ Tuned s t

theorem Quiet.works {s t : State} (h : Quiet s t) : Works s t := .inl h.runs

theorem Works.quiet {s t u : State} (h : Works s t) (k : Quiet t u) : Works s u :=
  h.imp (·.quiet k) fun h => ⟨k.1.trans h.1, fun r => k.2 ▸ h.2 r⟩

theorem Works.after {s t u : State} (h : Quiet s t) (k : Works t u) : Works s u :=
  k.imp h.then fun k => ⟨k.1.trans h.1, fun r => k.2 (h.2 ▸ r)⟩

/-- What a command may lead to: a reset, nothing, a frame that its link holds back, or the settling of what it did. The
expiry of the scan group, which stops the group's timer first, has a case of its own. -/
inductive Done (s t : State) : Prop
  | reset (pins : PowerOnPins) (h : t = State.powerOn s.now pins s.pending)
  | idle (h : t = s)
  | held (p : Port) (h : t = holdNext p s)
  | works (u : State) (h : Works s u) (e : t = settle u)
  | scan (u : State) (h : BaysConsistent s → Runs { s with line := { s.line with groupTimer := none } } u)
      (left : BaysConsistent s → (view s).Seated → ∀ b, ((view u).seats b).inGroup = false) (e : t = settle u)

theorem Done.quiet {s u : State} (h : Quiet s u) : Done s (settle u) := .works u h.works rfl
theorem Done.runs {s u : State} (h : Runs s u) : Done s (settle u) := .works u (.inl h) rfl

/-! ### Requests -/

/-- A request's own effect is all that a serving does, but for taking it and answering it. -/
theorem serveIf_done {accepts : Frame → Bool} {body : UpPort → Frame → State → State × Reply} {s t : State}
    (h : ∀ p f u, Works u (body p f u).1) (e : serveIf accepts body s = .next t) : Done s t := by
  unfold serveIf at e
  split at e
  · cases e; exact .idle rfl
  · next p req _ =>
    by_cases ha : accepts req = true
    · rw [if_pos ha] at e
      obtain rfl := Host.Outcome.next.inj e
      have effect : Works s (body p req (takeRequest p s)).1 := .after (quiet_takeRequest p s) (h p req _)
      exact .works _ (effect.quiet (quiet_respond p req (body p req (takeRequest p s)))) rfl
    · rw [if_neg ha] at e
      cases e; exact .idle rfl

theorem serveCode_done {code : BitVec 16} {n : Nat} {body : UpPort → Frame → State → State × Reply} {s t : State}
    (h : ∀ p f u, Works u (body p f u).1) (e : serveCode code n body s = .next t) : Done s t := by
  refine serveIf_done (fun p f u => ?_) e
  show Works u (if f.words < 1 + n then (u, badRequest) else body p f u).1
  split
  · exact (Quiet.refl u).works
  · exact h p f u

theorem serveRead_done {code : BitVec 16} {n : Nat} {report : UpPort → Frame → State → Reply} {s t : State}
    (e : serveRead code n report s = .next t) : Done s t :=
  serveCode_done (fun _ _ u => (Quiet.refl u).works) e

theorem withBay_works (f : Frame) (s : State) (k : Bay → State × Reply) (h : ∀ b, Works s (k b).1) :
    Works s (withBay f s k).1 := by
  unfold withBay
  split
  · exact (Quiet.refl s).works
  · exact h _

theorem powerOnBay_works (p : UpPort) (b : Bay) (s : State) : Works s (powerOnBay p b s).1 := by
  unfold powerOnBay answer
  split
  · next hx =>
    split
    · exact (Quiet.refl s).works
    · have freed : Quiet s (modBay b (fun r => { r with hold := none }) s) :=
        quiet_modBay b (fun r => { r with hold := none }) s fun _ => ⟨rfl, rfl, rfl⟩
      refine .inl (freed.then (enqueueFresh_runs b .priority _ ?_ ?_)) <;>
        rw [modBay_bays, getElem_upd_same, hx] <;> rfl
  · next hx =>
    split
    · exact .inl (joinQueue_runs b .priority s hx)
    · exact (Quiet.refl s).works
  all_goals exact (Quiet.refl s).works

theorem powerOffBay_works (p : UpPort) (flag : Bool) (b : Bay) (s : State) : Works s (powerOffBay p flag b s).1 := by
  let off (p : UpPort) (flag : Bool) (r : BayRecord) : BayRecord :=
    { r with state := .off, cycleTimer := none, hold := if flag then some p else none }
  have arrives (x : BayState) (hx : s.bays[b].state = x) (settles : settled x = true) (flag : Bool)
      (queue : x ≠ .queued) (charge : powered x = false) : Works s (arriveOff p flag b s) :=
    .inl (modBay_runs b (off p flag) .off s (fun _ => ⟨rfl, rfl, rfl⟩) (hx ▸ settles) rfl (.inr (.inl (hx ▸ queue)))
      (.inr (.inl (hx ▸ charge))))
  unfold powerOffBay answer
  split
  · next hx =>
    refine .inl ((leaveQueue_runs b s).trans (modBay_runs b (off p flag) .off _ (fun _ => ⟨rfl, rfl, rfl⟩) ?_ rfl
      (.inr (.inr ?_)) (.inr (.inl ?_))))
    · rw [leaveQueue_bays, hx]; rfl
    · simp [leaveQueue, ask, dropEntry]
    · rw [leaveQueue_bays, hx]; rfl
  · next hx => exact .inl (leavePower_modBay_runs b (off p flag) .off s (fun _ => ⟨rfl, rfl, rfl⟩) (by rw [hx]; rfl) rfl)
  · next hx => exact .inl (leavePower_modBay_runs b (off p flag) .off s (fun _ => ⟨rfl, rfl, rfl⟩) (by rw [hx]; rfl) rfl)
  · next hx => exact arrives .cycling hx rfl flag (by decide) rfl
  · next hx =>
    split
    · split
      · exact arrives .off hx rfl true (by decide) rfl
      · split <;> exact (Quiet.refl s).works
    · exact (Quiet.refl s).works
  all_goals exact (Quiet.refl s).works

theorem powerCycleBay_works (units : Nat) (b : Bay) (s : State) : Works s (powerCycleBay units b s).1 := by
  have cycles (hx : powered s.bays[b].state = true) (n : Nat) : Works s (startCycle n b s) :=
    .inl (leavePower_modBay_runs b
      (fun r => { r with state := .cycling, cycleTimer := some (s.now + 100 * n) }) .cycling s
      (fun _ => ⟨rfl, rfl, rfl⟩) hx rfl)
  unfold powerCycleBay answer
  split
  · next hx => exact cycles (by rw [hx]; rfl) _
  · next hx => exact cycles (by rw [hx]; rfl) _
  all_goals exact (Quiet.refl s).works

theorem clearFaultBay_works (b : Bay) (s : State) : Works s (clearFaultBay b s).1 := by
  unfold clearFaultBay answer
  split
  · next hx =>
    exact .inl (modBay_runs b (fun r => { r with state := .off, fault := none, hold := none }) .off s
      (fun _ => ⟨rfl, rfl, rfl⟩) (by rw [hx]; rfl) rfl (.inr (.inl (by rw [hx]; decide))) (.inr (.inl (by rw [hx]; rfl))))
  all_goals exact (Quiet.refl s).works

theorem modBays_reads {α : Type} (g : BayRecord → α) (p : Bay → Bool) (f : BayRecord → BayRecord) (s : State) (b : Bay) :
    g (modBays p f s).bays[b] = if p b then g (f s.bays[b]) else g s.bays[b] := by
  simp only [modBays, getElem_tab]
  split <;> rfl

theorem setBayPolicy_works (p : UpPort) (f : Frame) (s : State) : Works s (setBayPolicy p f s).1 := by
  have written (x : PolicySettings) (hx : x.retries ≤ 3) : Works s (modBays (inSet (arg f 0)) (writePolicy x) s) := by
    refine .inr ⟨?_, fun h => ?_⟩
    · refine view_congr rfl rfl fun b => ⟨?_, ?_⟩
      · exact (modBays_reads BayRecord.state (inSet (arg f 0)) (writePolicy x) s b).trans (ite_self _)
      · exact (modBays_reads BayRecord.retriesLeft (inSet (arg f 0)) (writePolicy x) s b).trans (ite_self _)
    · refine h.withRetries (fun b => (modBays (inSet (arg f 0)) (writePolicy x) s).bays[b].retriesSetting) fun b => ?_
      refine Nat.le_trans (Nat.le_of_eq (modBays_reads BayRecord.retriesSetting (inSet (arg f 0)) (writePolicy x) s b)) ?_
      split
      · exact hx
      · exact h.retries b
  unfold setBayPolicy
  simp only
  split
  · split
    · exact (Quiet.refl s).works
    · split
      · simp only
        split
        · exact (written _ (Nat.min_le_right _ _)).quiet (quiet_ask _)
        · exact written _ (Nat.min_le_right _ _)
      · exact (Quiet.refl s).works
  · exact (Quiet.refl s).works

theorem setBayLines_works (p : UpPort) (f : Frame) (s : State) : Works s (setBayLines p f s).1 := by
  unfold setBayLines
  simp only
  split
  · exact (Quiet.refl s).works
  · split
    · exact (Quiet.refl s).works
    · exact .inl (Runs.foldl _ (fun u b => writeLines_runs _ b u) _ s)

theorem setSeating_works (p : UpPort) (f : Frame) (s : State) : Works s (setSeating p f s).1 :=
  .inr ⟨rfl, fun h => { h with debounce := Nat.min_le_right _ _ }⟩

theorem enterTest_bays_ne (b c : Bay) (s : State) (h : c ≠ b) : (enterTest b s).bays[c] = s.bays[c] := by
  unfold enterTest
  rw [modLine_bays, modBay_bays, getElem_upd_ne _ _ h]

theorem lineTestEnter_works (p : UpPort) (f : Frame) (s : State) : Works s (lineTestEnter p f s).1 := by
  unfold lineTestEnter
  simp only
  split
  · exact (Quiet.refl s).works
  · refine .inl (Runs.foldl_ready _ (fun u b => enterOutcome u.bays[b] = .entered) (fun u b h => enterTest_runs b u h)
      (fun u b c hc _ h => ?_) _ (allBays_nodup.filter _) s fun b hb => ?_)
    · rw [enterTest_bays_ne b c u hc]; exact h
    · simpa [-Fin.getElem_fin] using (Bool.and_eq_true_iff.1 (List.mem_filter.1 hb).2).2

theorem lineTestExit_works (p : UpPort) (f : Frame) (s : State) : Works s (lineTestExit p f s).1 := by
  unfold lineTestExit
  simp only
  split
  · exact (Quiet.refl s).works
  · refine .inl (Runs.foldl_ready _ (fun u b => u.bays[b].state = .test) (fun u b h => exitTest_runs b u h)
      (fun u b c hc _ h => ?_) _ (allBays_nodup.filter _) s fun b hb => ?_)
    · rw [exitTest_bays_ne b c u hc]; exact h
    · simpa [-Fin.getElem_fin] using (Bool.and_eq_true_iff.1 (List.mem_filter.1 hb).2).2

theorem quiet_modLines (p : Bay → Bool) (f : LineUnit → LineUnit) (s : State) (h : ∀ u, (f u).seat = u.seat) :
    Quiet s (modLines p f s) := by
  refine ⟨?_, rfl⟩
  have seats : (fun b : Bay => (modLines p f s).line.bays[b].seat) = fun b => s.line.bays[b].seat := by
    funext b
    simp only [modLines, getElem_tab]
    split
    · exact h _
    · rfl
  simp only [view, seats]
  rfl

theorem linePreload_works (p : UpPort) (f : Frame) (s : State) : Works s (linePreload p f s).1 := by
  unfold linePreload
  simp only
  split
  · split
    · exact (Quiet.refl s).works
    · dsimp only
      refine Quiet.works (quiet_modLines _ _ s ?_)
      exact fun _ => rfl
  · exact (Quiet.refl s).works

theorem clamp_mem (lo hi n : Nat) (h : lo ≤ hi) : lo ≤ clamp lo hi n ∧ clamp lo hi n ≤ hi := by
  unfold clamp; split <;> [skip; split] <;> omega

theorem clampInt_mem (lo hi n : Int) (h : lo ≤ hi) : lo ≤ clampInt lo hi n ∧ clampInt lo hi n ≤ hi := by
  unfold clampInt; split <;> [skip; split] <;> omega

theorem setCeiling_works (p : UpPort) (f : Frame) (s : State) : Works s (setCeiling p f s).1 := by
  have range := clamp_mem 100 4000 (arg f 0).toNat (by decide)
  unfold setCeiling
  simp only
  generalize clamp 100 4000 (arg f 0).toNat = v at range ⊢
  have seen : view (applyCeiling v s) = (view s).setCeiling v := by
    unfold applyCeiling View.setCeiling
    by_cases h : committed s ≤ v
    · rw [if_pos h, if_pos (show (view s).committed ≤ v from h)]
      simp only
      split <;> rfl
    · rw [if_neg h, if_neg (show ¬ (view s).committed ≤ v from h)]
      rfl
  have kept : settings (applyCeiling v s) = settings s := by
    unfold applyCeiling
    simp only
    repeat' split
    all_goals rfl
  show Works s (applyCeiling v s)
  exact .inl ((Effect.ceiling (view s) v range.1 range.2).runs seen kept)

theorem setStagger_works (p : UpPort) (f : Frame) (s : State) : Works s (setStagger p f s).1 := by
  unfold setStagger
  simp only
  have tuned : Works s { s with power := { s.power with
      staggerSetting := min (arg f 0).toNat 150, limit := clamp 1 8 (arg f 1).toNat } } :=
    .inr ⟨rfl, fun h => { h with stagger := Nat.min_le_right _ _, limit := clamp_mem 1 8 _ (by decide) }⟩
  split
  · exact tuned.quiet (quiet_ask _)
  · exact tuned

theorem loadClass_works (p : UpPort) (f : Frame) (s : State) : Works s (loadClass p f s).1 := by
  unfold loadClass
  split
  · exact (Quiet.refl s).works
  · next c _ =>
    have new : ClassRecord.InRange ⟨min (arg f 1).toNat 1000, min (arg f 2).toNat 1000, clamp 10 200 (arg f 3).toNat⟩ :=
      ⟨Nat.min_le_right _ _, Nat.min_le_right _ _, clamp_mem 10 200 _ (by decide)⟩
    exact .inr ⟨rfl, fun h => { h with classes := put_all s.power.classes c _ new h.classes }⟩

theorem setOcFilter_works (p : UpPort) (f : Frame) (s : State) : Works s (setOcFilter p f s).1 := by
  unfold setOcFilter
  simp only
  split
  · exact (Quiet.refl s).works
  · next hv =>
    have listed : (arg f 1).toNat ∈ ocFilterValues := by
      simp only [Bool.or_eq_true, Bool.not_eq_true', not_or, Bool.not_eq_false] at hv
      simpa using hv.2
    have stored (h : (settings s).InRange) (b : Bay) :
        (tab fun b => if inSet (arg f 0) b then (arg f 1).toNat else s.power.ocSetting[b])[b] ∈ ocFilterValues := by
      rw [getElem_tab]
      split
      · exact listed
      · exact h.ocFilter b
    exact .inr ⟨rfl, fun h => h.withOcFilter _ (stored h)⟩

theorem setForwardTimeout_works (p : UpPort) (f : Frame) (s : State) : Works s (setForwardTimeout p f s).1 :=
  .inr ⟨rfl, fun h => { h with timeout := clamp_mem 1 255 _ (by decide) }⟩

theorem readCounters_works (p : UpPort) (f : Frame) (s : State) : Works s (readCounters p f s).1 := by
  unfold readCounters
  split
  · exact (Quiet.refl s).works
  · split <;> exact Quiet.works ⟨rfl, rfl⟩

theorem loadRoute_works (p : UpPort) (f : Frame) (s : State) : Works s (loadRoute p f s).1 := by
  unfold loadRoute
  simp only
  repeat' split
  all_goals exact Quiet.works ⟨rfl, rfl⟩

theorem dropRoute_works (p : UpPort) (f : Frame) (s : State) : Works s (dropRoute p f s).1 := by
  unfold dropRoute
  split <;> exact Quiet.works ⟨rfl, rfl⟩

theorem suits_iff {e : Encoding} {a : SnoopAction} (h : suits e a = true) : e = .nonzero ↔ a = .faultHint := by
  cases e <;> cases a <;> first | (cases h; done) | simp

theorem loadSnoopRule_works (p : UpPort) (f : Frame) (s : State) : Works s (loadSnoopRule p f s).1 := by
  unfold loadSnoopRule
  split
  · split
    · next enable kind encoding action _ _ _ _ _ _ n profile _ _ =>
      split
      · next hs =>
        have new : SnoopRule.InRange ⟨enable, profile, kind, min (arg f 4).toNat 254, arg f 5, arg f 6, min (arg f 7).toNat 1019, _, _⟩ :=
          ⟨Nat.min_le_right _ _, Nat.min_le_right _ _, suits_iff hs⟩
        exact .inr ⟨rfl, fun h => { h with rules := put_all s.therm.rules n _ new h.rules }⟩
      · exact (Quiet.refl s).works
    · exact (Quiet.refl s).works
  · exact (Quiet.refl s).works

theorem setThresholds_works (p : UpPort) (f : Frame) (s : State) : Works s (setThresholds p f s).1 := by
  unfold setThresholds
  simp only
  split
  · exact .inr ⟨rfl, fun h => { h with thermal :=
      ⟨(clampInt_mem 30 110 _ (by decide)).1, (clampInt_mem 30 110 _ (by decide)).2, (clamp_mem 1 4 _ (by decide)).1,
        (clamp_mem 1 4 _ (by decide)).2, clamp_mem 1 60 _ (by decide)⟩ }⟩
  · exact (Quiet.refl s).works

theorem setSensor_works (p : UpPort) (f : Frame) (s : State) : Works s (setSensor p f s).1 := by
  unfold setSensor
  split
  · exact (Quiet.refl s).works
  · split
    · next n _ _ _ =>
      have offset := clampInt_mem (-10) 10 (arg f 2).toInt (by decide)
      exact .inr ⟨rfl, fun h =>
        { h with sensors := upd_all (P := Sensor.InRange) s.therm.sensors n _ offset h.sensors }⟩
    · exact (Quiet.refl s).works

theorem breakpointArgs_length (f : Frame) (n k : Nat) : (breakpointArgs f n k).length = n := by
  induction n generalizing k with
  | zero => rfl
  | succ n ih => simp [breakpointArgs, ih]

theorem loadCurve_works (p : UpPort) (f : Frame) (s : State) : Works s (loadCurve p f s).1 := by
  unfold loadCurve
  simp only
  split
  · exact (Quiet.refl s).works
  · split
    · exact (Quiet.refl s).works
    · next z _ =>
      split
      · next hc =>
        have new : ZoneSettings.CurveOk
            ({ s.cool.zones[z] with curve := breakpointArgs f (arg f 1).toNat 2 } : ZoneUnit).settings := by
          simpa [ZoneUnit.settings, ZoneSettings.CurveOk, breakpointArgs_length] using hc
        exact .inr ⟨rfl, fun h =>
          { h with
            curves := upd_all (P := fun u => u.settings.CurveOk) s.cool.zones z _ new h.curves
            zones := upd_all (P := fun u => u.settings.InRange) s.cool.zones z _ (h.zones z) h.zones }⟩
      · exact (Quiet.refl s).works

theorem setZone_works (p : UpPort) (f : Frame) (s : State) : Works s (setZone p f s).1 := by
  unfold setZone
  split
  · exact (Quiet.refl s).works
  · next z _ =>
    have new (c : List Breakpoint) : ZoneSettings.InRange ⟨c, min (arg f 1).toNat 1000, min (arg f 2).toNat 1000,
        min (arg f 3).toNat 500, clamp 1 1000 (arg f 4).toNat, clamp 1 1000 (arg f 5).toNat⟩ :=
      ⟨Nat.min_le_right _ _, Nat.min_le_right _ _, Nat.min_le_right _ _, (clamp_mem 1 1000 _ (by decide)).1,
        (clamp_mem 1 1000 _ (by decide)).2, clamp_mem 1 1000 _ (by decide)⟩
    exact .inr ⟨rfl, fun h =>
      { h with
        curves := upd_all (P := fun u => u.settings.CurveOk) s.cool.zones z _ (h.curves z) h.curves
        zones := upd_all (P := fun u => u.settings.InRange) s.cool.zones z _ (new _) h.zones }⟩

/-- A change of the zones that leaves their settings, and of the modules. -/
theorem quiet_zones (s : State) (zones : Vector ZoneUnit 4) (modules : Vector ModuleUnit 8)
    (h : ∀ z : Zone, zones[z].settings = s.cool.zones[z].settings) :
    Quiet s { s with cool := { s.cool with zones := zones, modules := modules } } := by
  refine ⟨rfl, ?_⟩
  have e : (fun z : Zone => zones[z].settings) = fun z => s.cool.zones[z].settings := funext h
  simp only [settings, e]

theorem quiet_refreshZoneStates (s : State) : Quiet s (refreshZoneStates s) :=
  quiet_zones s _ s.cool.modules fun z => by rw [getElem_tab]; rfl

theorem quiet_askOnRise (s t : State) : Quiet t (askOnRise s t) := by
  unfold askOnRise
  split <;> exact ⟨rfl, rfl⟩

theorem setFanMap_works (p : UpPort) (f : Frame) (s : State) : Works s (setFanMap p f s).1 := by
  unfold setFanMap
  split
  · exact (Quiet.refl s).works
  · next map _ =>
    split
    · exact (Quiet.refl s).works
    · have mapped : Quiet s { s with cool := { s.cool with
          zones := tab (fun z => mappedOutput map z s.cool.zones[z])
          modules := tab (fun m => moveModule (tab (fun z => mappedOutput map z s.cool.zones[z])) map[m] s.cool.modules[m]) } } :=
        quiet_zones s _ _ fun z => by
          rw [getElem_tab]
          unfold mappedOutput
          split <;> rfl
      dsimp only
      exact ((mapped.trans (quiet_refreshZoneStates _)).trans (quiet_askOnRise s _)).works

theorem setFanOverride_works (p : UpPort) (f : Frame) (s : State) : Works s (setFanOverride p f s).1 := by
  unfold setFanOverride
  simp only
  repeat' split
  all_goals exact Quiet.works ⟨rfl, rfl⟩

theorem setFanTiming_works (p : UpPort) (f : Frame) (s : State) : Works s (setFanTiming p f s).1 :=
  .inr ⟨rfl, fun h => { h with timing := ⟨(clamp_mem 250 4000 _ (by decide)).1, (clamp_mem 250 4000 _ (by decide)).2,
    Nat.min_le_right _ _, clamp_mem 1 8 _ (by decide)⟩ }⟩

theorem setLight_works (p : UpPort) (f : Frame) (s : State) : Works s (setLight p f s).1 := by
  unfold setLight
  simp only
  repeat' split
  all_goals exact Quiet.works ⟨rfl, rfl⟩

theorem loadPattern_works (p : UpPort) (f : Frame) (s : State) : Works s (loadPattern p f s).1 := by
  unfold loadPattern
  split
  · exact (Quiet.refl s).works
  · next k _ =>
    have byte (w : Word) : w.toNat % 256 ≤ 255 := Nat.le_of_lt_succ (Nat.mod_lt _ (by decide))
    have times : (arg f 1).toNat % 256 ≤ 255 ∧ (arg f 2).toNat % 256 ≤ 255 := ⟨byte _, byte _⟩
    exact .inr ⟨rfl, fun h =>
      { h with patterns := upd_all (P := Pattern.InRange) s.light.patterns k _ times h.patterns }⟩

theorem setLightMap_works (p : UpPort) (f : Frame) (s : State) : Works s (setLightMap p f s).1 := by
  unfold setLightMap
  split
  · exact (Quiet.refl s).works
  · exact .inr ⟨rfl, fun h => { h with hold := clamp_mem 20 500 _ (by decide) }⟩

theorem setNightDim_works (p : UpPort) (f : Frame) (s : State) : Works s (setNightDim p f s).1 := by
  unfold setNightDim
  split <;> exact Quiet.works ⟨rfl, rfl⟩

theorem readEvents_works (p : UpPort) (f : Frame) (s : State) : Works s (readEvents p f s).1 := by
  unfold readEvents
  simp only
  repeat' split
  all_goals exact Quiet.works ⟨rfl, rfl⟩

theorem subscribe_works (p : UpPort) (f : Frame) (s : State) : Works s (subscribe p f s).1 := by
  unfold subscribe
  split <;> exact Quiet.works ⟨rfl, rfl⟩

theorem warmRestart_done {s t : State} (e : execWarmRestart s = .next t) : Done s t := by
  unfold execWarmRestart at e
  split at e
  · cases e; exact .idle rfl
  · next p req _ =>
    by_cases hc : requestCode req = 0x01F0
    · rw [if_pos hc] at e
      obtain rfl := Host.Outcome.next.inj e
      have named (u : State) : Quiet u (requestRestart p req u) := by
        unfold requestRestart
        exact (quiet_mgmt u _).trans (quiet_offerResponse _ _ _)
      exact .quiet ((quiet_takeRequest p s).trans (named _))
    · rw [if_neg hc] at e
      cases e; exact .idle rfl

end Sys2Proof.Machine

namespace Sys2Proof.Machine

/-! ### Events -/

theorem next_done {s t u : State} (h : Done s u) (e : (.next u : StepResult) = .next t) : Done s t :=
  Host.Outcome.next.inj e ▸ h

/-- A command whose own change is quiet, and which settles. -/
theorem quiet_done {s t u : State} (e : (.next (settle u) : StepResult) = .next t) (h : Quiet s u) : Done s t :=
  next_done (.quiet h) e

theorem persist_quiet (b : Bay) (s : State) : Quiet s (persist b s) := by
  have latched : Quiet s (latchBay b .overcurrent (setFilter b .persisted s)) :=
    Quiet.trans ⟨rfl, rfl⟩ (quiet_latchBay b .overcurrent _)
  unfold persist
  simp only
  split
  · exact latched.trans (quiet_modBay b (fun r => { r with ocTrip := true }) _ fun _ => ⟨rfl, rfl, rfl⟩)
  · exact latched

/-- A start window that ends takes the bay out of power (R26). -/
theorem failStart_runs (b : Bay) (s : State) (hx : s.bays[b].state = .starting) : Runs s (failStart b s) := by
  have hp : powered s.bays[b].state = true := by rw [hx]; rfl
  unfold failStart
  simp only
  split
  · have state : (leavePower b s).bays[b].state = .starting := (leavePower_state b b s).trans hx
    have queued : Runs s (modBay b (fun r => { r with state := .queued }) (leavePower b s)) :=
      leavePower_modBay_runs b _ .queued s (fun _ => ⟨rfl, rfl, rfl⟩) hp rfl
    have fewer (n : Nat) (u : State) (hn : n ≤ u.bays[b].retriesLeft) :
        Runs u (modBay b (fun r => { r with retriesLeft := n }) u) := by
      refine (Effect.retries (view u) b n (.inr hn)).runs ?_ (settings_modBay b _ u fun _ => rfl)
      rw [view_modBay]
      exact congrArg (fun x => { (view u).withRetries b n with states := x }) (Function.update_eq_self b (view u).states)
    have e : modBay b (fun r => { r with state := .queued, retriesLeft := s.bays[b].retriesLeft - 1 }) (leavePower b s) =
        modBay b (fun r => { r with retriesLeft := s.bays[b].retriesLeft - 1 })
          (modBay b (fun r => { r with state := .queued }) (leavePower b s)) := by
      simp only [modBay, upd_upd]
    have left : (modBay b (fun r => { r with state := .queued }) (leavePower b s)).bays[b].retriesLeft =
        s.bays[b].retriesLeft := by
      rw [modBay_bays, getElem_upd_same, leavePower_bays, getElem_upd_same]
      rfl
    rw [e]
    have renewed := queued.trans (fewer (s.bays[b].retriesLeft - 1) _ (by rw [left]; exact Nat.sub_le _ _))
    refine (renewed.trans (joinQueue_runs b .normal _ ?_)).quiet (quiet_latchBay b .startFailed _)
    rw [modBay_bays, getElem_upd_same, modBay_bays, getElem_upd_same]
  · exact (faultBay_runs b .noHello s hp).quiet (quiet_latchBay b .startFailed _)

theorem refuseHello_runs (b : Bay) (c : FaultCause) (k : BayEvent) (s : State) (hp : powered s.bays[b].state = true) :
    Runs s (refuseHello b c k s) :=
  ((faultBay_runs b c s hp).quiet (quiet_latchBay b k _)).quiet (quiet_count _ _ _ _)

theorem fits_of_not_overBudget {b : Bay} {c : ClassNo} {s : State} (h : ¬ overBudget b c s = true) :
    committed s - s.power.charge[b] + runDraw c s ≤ s.power.live := by
  unfold overBudget at h
  exact Nat.not_lt.1 (by simpa using h)

/-- A HELLO that passes in STARTING (R28). -/
theorem acceptStart_runs (b : Bay) (a : Announcement) (s : State) (hx : s.bays[b].state = .starting)
    (hb : ¬ overBudget b a.cls s = true) : Runs s (acceptStart b a s) := by
  have online : Runs s (modBay b (fun r => { storeHello a r with state := .online, startTimer := none }) s) :=
    modBay_runs b _ .online s (fun _ => ⟨rfl, rfl, rfl⟩) (by rw [hx]; rfl) rfl (.inr (.inl (by rw [hx]; decide)))
      (.inl rfl)
  have charged := online.trans (setCharge_runs b (runDraw a.cls s) _ (by rw [modBay_bays, getElem_upd_same]; rfl)
    (.inr (fits_of_not_overBudget hb)))
  exact (((charged.quiet (quiet_learn (.bay b) a.addr _)).quiet (quiet_modTherm b _ _)).quiet
    (quiet_latchBay b .online _)).quiet (quiet_ask _)

/-- A HELLO that passes in ONLINE (R29). -/
theorem acceptOnline_runs (move : Bool) (b : Bay) (a : Announcement) (s : State) (hx : s.bays[b].state = .online)
    (hb : ¬ overBudget b a.cls s = true) : Runs s (acceptOnline move b a s) := by
  have stored : Quiet s (modBay b (storeHello a) s) := quiet_modBay b (storeHello a) s fun _ => ⟨rfl, rfl, rfl⟩
  have state : (modBay b (storeHello a) s).bays[b].state = .online := by
    rw [modBay_bays, getElem_upd_same]; exact hx
  have charged : Runs s (setCharge b (runDraw a.cls s) (modBay b (storeHello a) s)) :=
    stored.then (setCharge_runs b _ _ (by rw [state]; rfl) (.inr (fits_of_not_overBudget hb)))
  unfold acceptOnline
  simp only
  split
  · exact charged.quiet (quiet_learn (.bay b) a.addr _)
  · exact charged

theorem helloAtBay_runs (b : Bay) (f : Frame) (s : State) : Runs s (helloAtBay b f s) := by
  unfold helloAtBay
  split
  · exact (quiet_count _ _ _ s).runs
  · next a _ =>
    split
    · next hx =>
      have hp : powered s.bays[b].state = true := by rw [hx]; rfl
      unfold helloStarting
      split
      · exact refuseHello_runs b _ _ s hp
      · split
        · exact refuseHello_runs b _ _ s hp
        · next hb => exact acceptStart_runs b a s hx hb
    · next hx =>
      have hp : powered s.bays[b].state = true := by rw [hx]; rfl
      unfold helloOnline
      simp only
      split
      · exact refuseHello_runs b _ _ s hp
      · split
        · exact refuseHello_runs b _ _ s hp
        · next hb => exact acceptOnline_runs _ b a s hx hb
    · exact .refl s

theorem quiet_helloAtUp (p : UpPort) (f : Frame) (s : State) : Quiet s (helloAtUp p f s) := by
  unfold helloAtUp
  split
  · exact quiet_count _ _ _ s
  · split
    · exact .refl s
    · split
      · exact quiet_count _ _ _ s
      · exact quiet_learn _ _ s

theorem quiet_routeFrame (p : Port) (f : Frame) (s : State) : Quiet s (routeFrame p f s) := by
  unfold routeFrame
  split
  · exact quiet_refuseFrame _ p f s
  · split
    · exact quiet_count _ _ _ s
    · split
      · exact quiet_refuseFrame _ p f s
      · split
        · exact quiet_place p _ f s
        · exact ⟨rfl, rfl⟩

theorem quiet_intake (p : UpPort) (f : Frame) (s : State) : Quiet s (intake p f s) := by
  unfold intake
  split
  · exact quiet_mgmt s _
  · exact quiet_refuseFrame _ _ f s

theorem classify_runs (p : Port) (f : Frame) (s : State) : Runs s (classify p f s) := by
  unfold classify
  split
  · cases p with
    | bay b => exact helloAtBay_runs b f s
    | up u => exact (quiet_helloAtUp u f s).runs
  · split
    · cases p with
      | bay b => exact (quiet_refuseFrame _ _ f s).runs
      | up u => exact (quiet_intake u f s).runs
    · exact (quiet_routeFrame p f s).runs

theorem arrive_runs (p : Port) (bytes : List Byte) (s : State) : Runs s (arrive p bytes s) := by
  have taken : Runs s (takeIn p bytes s) := by
    unfold takeIn
    split
    · exact (quiet_count _ _ _ s).runs
    · exact classify_runs p _ s
  unfold arrive
  split
  · split
    · exact taken
    · exact (quiet_count _ _ _ s).runs
  · exact taken

theorem arrival_done {p : Port} {bytes : List Byte} {s t : State} (e : arrival p bytes s = .next t) : Done s t := by
  unfold arrival at e
  by_cases h : heldBack p s = true
  · rw [if_pos h] at e
    exact next_done (.held p rfl) e
  · rw [if_neg h] at e
    exact next_done (.runs (arrive_runs p bytes s)) e

theorem quiet_setPhase (x : RestartPhase) (h : Held) (s : State) : Quiet s (setPhase x h s) := by
  unfold setPhase
  split
  · exact quiet_mgmt s _
  · exact .refl s

theorem quiet_placeHeld (p : UpPort) (s : State) : Quiet s (placeHeld p s) := by
  unfold placeHeld
  split
  · exact .refl s
  · split
    · exact Quiet.trans ⟨rfl, rfl⟩ (quiet_setPhase _ _ _)
    · exact .refl s

theorem quiet_completeNotice (p : UpPort) (h : Held) (s : State) : Quiet s (completeNotice p h s).2 := by
  unfold completeNotice
  split
  · exact quiet_ev s _
  · exact .refl s

theorem quiet_startPriority (p : UpPort) (h : Held) (rest : List Held) (arb : Nat) (s : State) :
    Quiet s (startPriority p h rest arb s) := by
  have noticed : Quiet s (completeNotice p h (modUp p (fun u => { u with priority := rest, arbiter := arb }) s)).2 :=
    (quiet_modUp p _ s).trans (quiet_completeNotice p h _)
  unfold startPriority
  simp only
  generalize completeNotice p h (modUp p (fun u => { u with priority := rest, arbiter := arb }) s) = x at noticed ⊢
  have sent : Quiet x.2 (setTransmitting (.up p) x.1 x.2) := ⟨rfl, rfl⟩
  exact ((noticed.trans sent).trans (quiet_setPhase _ _ _)).trans (quiet_placeHeld p _)

theorem quiet_startNormal (p : UpPort) (h : Held) (rest : List Held) (s : State) : Quiet s (startNormal p h rest s) :=
  Quiet.trans ⟨rfl, rfl⟩ (quiet_fillPlace (.up p) _)

theorem quiet_startTransmission {p : Port} {s t : State} (e : startTransmission p s = some t) : Quiet s t := by
  unfold startTransmission at e
  split at e
  · cases e
  · split at e
    · unfold startBay at e
      split at e
      · split at e
        · cases e
        · exact Option.some.inj e ▸ Quiet.trans ⟨rfl, rfl⟩ (quiet_fillPlace (.bay _) _)
      · cases e
    · unfold startUp at e
      simp only at e
      split at e
      · split at e
        · cases e
        · exact Option.some.inj e ▸ quiet_startPriority _ _ _ _ s
        · exact Option.some.inj e ▸ quiet_startNormal _ _ _ s
        · split at e
          · exact Option.some.inj e ▸ quiet_startPriority _ _ _ _ s
          · exact Option.some.inj e ▸ quiet_startNormal _ _ _ s
      · cases e

theorem quiet_restartNow (s : State) : Quiet s (restartNow s) :=
  ⟨view_congr rfl rfl fun b => by simp only [restartNow, getElem_tab, and_self],
    by simp only [settings, restartNow, getElem_tab]⟩

theorem transmissionComplete_done {p : Port} {s t : State} (e : execTransmissionComplete p s = .next t) : Done s t := by
  unfold execTransmissionComplete at e
  split at e
  · exact next_done (.idle rfl) e
  · next h _ =>
    refine next_done (.quiet ?_) e
    have sent : Quiet s { s with fwd := { s.fwd with transmitting := put s.fwd.transmitting (portIdx p) none } } := ⟨rfl, rfl⟩
    simp only
    split
    · exact sent.trans (quiet_restartNow _)
    · exact sent

theorem quiet_modBays (p : Bay → Bool) (f : BayRecord → BayRecord) (s : State)
    (h : ∀ r, (f r).state = r.state ∧ (f r).retriesSetting = r.retriesSetting ∧ (f r).retriesLeft = r.retriesLeft) :
    Quiet s (modBays p f s) := by
  have same {α : Type} (g : BayRecord → α) (hg : ∀ r, g (f r) = g r) (b : Bay) :
      g (modBays p f s).bays[b] = g s.bays[b] :=
    (modBays_reads g p f s b).trans (by rw [hg]; exact ite_self _)
  refine ⟨view_congr rfl rfl fun b => ⟨same _ (fun r => (h r).1) b, same _ (fun r => (h r).2.2) b⟩, ?_⟩
  have retries : (fun b : Bay => (modBays p f s).bays[b].retriesSetting) = fun b => s.bays[b].retriesSetting :=
    funext (same _ fun r => (h r).2.1)
  simp only [settings, retries]
  rfl

theorem quiet_loseLink (p : UpPort) (s : State) : Quiet s (loseLink p s) := by
  have dropped (u : State) : Quiet u (dropQueues p u) := by
    unfold dropQueues
    exact Quiet.trans (t := count (.up p) .discarded _ (modUp p _ u)) ⟨rfl, rfl⟩
      ((quiet_abandon _ _).trans (quiet_dropOwnWait _ _))
  have refused (u : State) : Quiet u (refuseWaiters p u) := Quiet.foldl _ (fun u x => quiet_endWait .noPath x u) _ u
  have freed (u : State) : Quiet u (releaseHolds p u) :=
    quiet_modBays _ (fun r => { r with hold := none }) u fun _ => ⟨rfl, rfl, rfl⟩
  have closed : Quiet s
      (unsubscribe p (dropRequests p (releaseHolds p (clearLearned (.up p) (refuseWaiters p (dropQueues p s)))))) :=
    ((((dropped s).trans (refused _)).trans (quiet_route _ _)).trans (freed _)).trans
      ((quiet_mgmt _ _).trans (quiet_ev _ _))
  unfold loseLink
  simp only
  split
  · exact closed.trans (quiet_restartNow _)
  · exact closed

theorem quiet_closeWindows (s : State) : Quiet s (closeWindows s) := by
  have latched (new : Vector ModuleUnit 8) (l : List FanModule) :
      Quiet s (l.foldl (fun s (m : FanModule) => latchFan new[m].state m s) { s with cool := { s.cool with modules := new } }) :=
    Quiet.trans (t := { s with cool := { s.cool with modules := new } }) ⟨rfl, rfl⟩
      (Quiet.foldl _ (fun u m => quiet_latchFan _ m u) _ _)
  unfold closeWindows
  exact (latched _ _).trans (quiet_refreshZoneStates _)

theorem quiet_thermalInputs (channels : Vector (Option Int) 4) (s : State) : Quiet s (thermalInputs channels s) := by
  refine ⟨rfl, ?_⟩
  simp only [settings, thermalInputs, getElem_tab]

theorem quiet_zoneDemand (s : State) : Quiet s (zoneDemand s) :=
  quiet_zones s _ _ fun z => by
    rw [getElem_tab]
    unfold computeZone
    simp only
    split <;> rfl

theorem quiet_restartPeriod (s : State) : Quiet s (restartPeriod s) := ⟨rfl, rfl⟩

theorem quiet_updatePeriod (channels : Vector (Option Int) 4) (s : State) :
    Quiet s (restartPeriod (zoneDemand (thermalInputs channels (closeWindows s)))) :=
  (((quiet_closeWindows s).trans (quiet_thermalInputs channels _)).trans (quiet_zoneDemand _)).trans (quiet_restartPeriod _)

/-! ### What an attempt leaves alone -/

/-- The settings of the power admission unit, with its inputs and the zone blocks. -/
def PowerKept (s t : State) : Prop :=
  t.power.classes = s.power.classes ∧ t.power.staggerSetting = s.power.staggerSetting ∧ t.power.limit = s.power.limit ∧
    t.power.blocked = s.power.blocked ∧ t.power.ocSetting = s.power.ocSetting ∧ t.power.ocIn = s.power.ocIn

theorem PowerKept.refl (s : State) : PowerKept s s := ⟨rfl, rfl, rfl, rfl, rfl, rfl⟩

theorem PowerKept.trans {s t u : State} (h : PowerKept s t) (k : PowerKept t u) : PowerKept s u := by
  obtain ⟨h1, h2, h3, h4, h5, h6⟩ := h
  obtain ⟨k1, k2, k3, k4, k5, k6⟩ := k
  exact ⟨k1.trans h1, k2.trans h2, k3.trans h3, k4.trans h4, k5.trans h5, k6.trans h6⟩

theorem stepDown_powerKept (s : State) : PowerKept s (stepDown s) := by
  unfold stepDown
  simp only
  repeat' split
  all_goals first | exact .refl s | exact ⟨rfl, rfl, rfl, rfl, rfl, rfl⟩ | simp [PowerKept]

theorem setCharge_powerKept (b : Bay) (x : Nat) (s : State) : PowerKept s (setCharge b x s) := by
  unfold setCharge
  dsimp only
  split
  · exact PowerKept.trans (t := { s with power := { s.power with charge := put s.power.charge b x } })
      ⟨rfl, rfl, rfl, rfl, rfl, rfl⟩ (stepDown_powerKept _)
  · exact ⟨rfl, rfl, rfl, rfl, rfl, rfl⟩

theorem admitBay_powerKept (b : Bay) (s : State) : PowerKept s (admitBay b s) := by
  have charged (f : BayRecord → BayRecord) (x : Nat) : PowerKept s (setCharge b x (modBay b f
      { s with power := { s.power with queue := dropEntry b s.power.queue } })) :=
    PowerKept.trans (t := modBay b f { s with power := { s.power with queue := dropEntry b s.power.queue } })
      ⟨rfl, rfl, rfl, rfl, rfl, rfl⟩ (setCharge_powerKept b x _)
  unfold admitBay
  dsimp only
  split <;> exact PowerKept.trans (charged _ _) ⟨rfl, rfl, rfl, rfl, rfl, rfl⟩

theorem attempt_powerKept (s : State) : PowerKept s (attempt s) :=
  attempt_induction (PowerKept s) (fun t b _ _ h => h.trans (admitBay_powerKept b t)) s (.refl s)

theorem attemptIfAsked_powerKept (s : State) : PowerKept s (attemptIfAsked s) := by
  unfold attemptIfAsked
  split
  · exact attempt_powerKept { s with power := { s.power with attemptAsked := false } }
  · exact .refl s

/-! ### What an attempt does to a bay -/

/-- The record of a bay that is admitted (R25). -/
def admittedRecord (e : Nat) (r : BayRecord) : BayRecord :=
  { r with state := .starting, chargedClass := some r.cfgClass, activeZone := some r.cfgZone, startTimer := some e }

/-- Between `s` and `t` a bay is left alone, or it is QUEUED and admitted; an admission keeps the rest of its record. -/
def AtMostAdmitted (b : Bay) (s t : State) : Prop :=
  (t.bays[b] = s.bays[b] ∧ t.power.charge[b] = s.power.charge[b]) ∨
    (s.bays[b].state = .queued ∧ (∃ e, t.bays[b] = admittedRecord e s.bays[b]) ∧
      t.power.charge[b] = s.power.classes[s.bays[b].cfgClass].startDraw)

theorem AtMostAdmitted.of_eq {b : Bay} {s t : State} (record : t.bays[b] = s.bays[b])
    (charge : t.power.charge[b] = s.power.charge[b]) : AtMostAdmitted b s t := .inl ⟨record, charge⟩

theorem AtMostAdmitted.untouchedOrAdmitted {b : Bay} {s t : State} (h : AtMostAdmitted b s t) : UntouchedOrAdmitted b s t :=
  h.imp id fun ⟨queued, ⟨_, record⟩, charge⟩ =>
    ⟨queued, congrArg BayRecord.state record, congrArg BayRecord.chargedClass record, charge⟩

/-- A bay that is not QUEUED is left alone. -/
theorem AtMostAdmitted.eq {b : Bay} {s t : State} (h : AtMostAdmitted b s t) (state : s.bays[b].state ≠ .queued) :
    t.bays[b] = s.bays[b] ∧ t.power.charge[b] = s.power.charge[b] :=
  h.resolve_right fun k => state k.1

/-- An admission is not followed by another of the same bay. -/
theorem AtMostAdmitted.trans {b : Bay} {s t u : State} (h : AtMostAdmitted b s t) (k : AtMostAdmitted b t u)
    (classes : t.power.classes = s.power.classes) : AtMostAdmitted b s u := by
  rcases h with ⟨hr, hc⟩ | ⟨queued, ⟨e, record⟩, charge⟩
  · simpa only [AtMostAdmitted, hr, hc, classes] using k
  · obtain ⟨kr, kc⟩ := k.eq (by rw [record]; exact BayState.noConfusion)
    exact .inr ⟨queued, ⟨e, kr.trans record⟩, kc.trans charge⟩

theorem admitBay_atMostAdmitted (a b : Bay) (s : State) (ha : s.bays[a].state = .queued) :
    AtMostAdmitted b s (admitBay a s) := by
  unfold AtMostAdmitted
  rw [admitBay_bays, admitBay_charge]
  by_cases h : b = a
  · subst h
    rw [getElem_upd_same, getElem_put_same]
    exact .inr ⟨ha, ⟨_, rfl⟩, rfl⟩
  · rw [getElem_upd_ne _ _ h, getElem_put_ne _ _ h]
    exact .inl ⟨rfl, rfl⟩

theorem attempt_atMostAdmitted (b : Bay) (s : State) (hq : (view s).Queued) : AtMostAdmitted b s (attempt s) := by
  refine (attempt_induction (fun t => (view t).Queued ∧ PowerKept s t ∧ AtMostAdmitted b s t)
    (fun t a _ hw h => ?_) s ⟨hq, .refl s, .of_eq rfl rfl⟩).2.2
  obtain ⟨queued, kept, touched⟩ := h
  obtain ⟨e, he, rfl⟩ := List.mem_map.1 (walk_mem hw)
  exact ⟨(admitBay_runs _ t hw).1.keep (fun _ _ => Effect.keeps_queued) queued, kept.trans (admitBay_powerKept _ t),
    touched.trans (admitBay_atMostAdmitted _ b t (queued e he)) kept.1⟩

theorem attemptIfAsked_atMostAdmitted (b : Bay) (s : State) (hq : (view s).Queued) : AtMostAdmitted b s (attemptIfAsked s) := by
  unfold attemptIfAsked
  split
  · exact attempt_atMostAdmitted b { s with power := { s.power with attemptAsked := false } } hq
  · exact .of_eq rfl rfl

/-! ### The scan group -/

theorem seat_line (b : Bay) (s : State) : (seat b s).line = (modLine b unitSeated s).line := by
  unfold seat
  simp only
  split <;> rw [latchBay_line] <;> rfl

theorem updatePeriod_done (channels : Vector (Option Int) 4) {s t : State} (e : execUpdatePeriod channels s = .next t) :
    Done s t :=
  quiet_done e (((quiet_advance _ s).trans (quiet_updatePeriod channels _)).trans (quiet_askOnRise _ _))

theorem tachPulse_done (m : FanModule) (r : Rotor) {s t : State} (e : execTachPulse m r s = .next t) : Done s t := by
  cases r <;> exact quiet_done e ⟨rfl, rfl⟩

/-- The bays of the group are seated one by one; each is SEATING until its turn, since an attempt admits QUEUED bays. -/
theorem scan_runs (l : List Bay) (nodup : l.Nodup) (s : State) (hq : (view s).Queued) (timer : s.line.groupTimer = none)
    (seating : ∀ b ∈ l, s.bays[b].state = .seating) :
    Runs s (l.foldl (fun s b => attemptIfAsked (seat b s)) s) ∧
      ∀ b ∈ l, (l.foldl (fun s b => attemptIfAsked (seat b s)) s).line.bays[b].inGroup = false := by
  induction l generalizing s with
  | nil => exact ⟨.refl s, by simp⟩
  | cons b l ih =>
    obtain ⟨hb, hl⟩ := List.nodup_cons.1 nodup
    have seated : Runs s (seat b s) := seat_runs_of_seating b s (seating b (by simp)) (.inl timer)
    have queued : (view (seat b s)).Queued := seated.1.keep (fun _ _ => Effect.keeps_queued) hq
    have attempted : Runs (seat b s) (attemptIfAsked (seat b s)) := attemptIfAsked_runs _
    have line : (attemptIfAsked (seat b s)).line = (modLine b unitSeated s).line :=
      (attemptIfAsked_line _).trans (seat_line b s)
    obtain ⟨rest, left⟩ := ih hl (attemptIfAsked (seat b s)) (attempted.1.keep (fun _ _ => Effect.keeps_queued) queued)
      (by rw [line]; exact timer) (fun c hc => by
        have still : (seat b s).bays[c] = s.bays[c] := seat_bays_ne b c s fun e => hb (e ▸ hc)
        have state : (seat b s).bays[c].state = .seating := by rw [still]; exact seating c (List.mem_cons_of_mem b hc)
        rw [((attemptIfAsked_atMostAdmitted c (seat b s) queued).eq (by rw [state]; decide)).1, state])
    refine ⟨(seated.trans attempted).trans rest, fun c hc => ?_⟩
    rcases List.mem_cons.1 hc with rfl | hc
    · refine rest.1.keep (P := fun v => (v.seats c).inGroup = false) (fun _ _ e h => e.keeps_noGroup c h) ?_
      show (attemptIfAsked (seat c s)).line.bays[c].inGroup = false
      rw [line, modLine_lines, getElem_upd_same]
      rfl
    · exact left c hc

theorem scanGroupExpiry_done {s t : State} (e : execScanGroupExpiry s = .next t) : Done s t := by
  unfold execScanGroupExpiry at e
  split at e
  · exact next_done (.idle rfl) e
  · next x _ =>
    let s0 : State := advance x { s with line := { s.line with groupTimer := none } }
    have group (b : Bay) (hb : b ∈ groupBays s0) : s.line.bays[b].inGroup = true ∧ s.bays[b].state = .seating := by
      simpa [groupBays, s0, -Fin.getElem_fin] using (List.mem_filter.1 hb).2
    have runs (h : BaysConsistent s) := scan_runs (groupBays s0) (allBays_nodup.filter _) s0 h.queued rfl
      fun b hb => (group b hb).2
    refine next_done (.scan _ (fun h => Quiet.then ⟨rfl, rfl⟩ (runs h).1) (fun h seated b => ?_) rfl) e
    by_cases hb : b ∈ groupBays s0
    · exact (runs h).2 b hb
    · refine (runs h).1.1.keep (P := fun v => (v.seats b).inGroup = false) (fun _ _ e h => e.keeps_noGroup b h) ?_
      have out : ¬ ((view s).seats b).inGroup = true := fun hg =>
        hb (List.mem_filter.2 ⟨mem_allBays b, Bool.and_eq_true_iff.2 ⟨hg, decide_eq_true ((seated.ok b).group hg).1⟩⟩)
      exact Bool.not_eq_true _ ▸ out

theorem seatingExpired_done (b : Bay) {s t : State} (e : execSeatingExpired b s = .next t) : Done s t := by
  unfold execSeatingExpired at e
  split at e
  · next x hx hd =>
    exact next_done (.runs ((quiet_advance x s).then (seat_runs_of_seating b _ hx (.inr (by rw [advance_line, hd]; rfl))))) e
  · exact next_done (.idle rfl) e

theorem startWindowExpiry_done (b : Bay) {s t : State} (e : execStartWindowExpiry b s = .next t) : Done s t := by
  unfold execStartWindowExpiry at e
  split at e
  · next x hx _ => exact next_done (.runs ((quiet_advance x s).then (failStart_runs b _ hx))) e
  · exact next_done (.idle rfl) e

theorem cycleTimerExpiry_done (b : Bay) {s t : State} (e : execCycleTimerExpiry b s = .next t) : Done s t := by
  unfold execCycleTimerExpiry at e
  split at e
  · next x hx _ =>
    have stopped : Quiet s (modBay b (fun r => { r with cycleTimer := none }) (advance x s)) :=
      (quiet_advance x s).trans (quiet_modBay b (fun r => { r with cycleTimer := none }) _ fun _ => ⟨rfl, rfl, rfl⟩)
    have state : (modBay b (fun r => { r with cycleTimer := none }) (advance x s)).bays[b].state = .cycling := by
      rw [modBay_bays, getElem_upd_same]; exact hx
    exact next_done (.runs (stopped.then (enqueueFresh_runs b .priority _ (by rw [state]; rfl) (by rw [state]; rfl)))) e
  · exact next_done (.idle rfl) e

theorem staggerExpiry_done {s t : State} (e : execStaggerExpiry s = .next t) : Done s t := by
  unfold execStaggerExpiry at e
  split at e
  · exact next_done (.idle rfl) e
  · exact quiet_done e ⟨rfl, rfl⟩

theorem ocConditionAsserted_done (b : Bay) {s t : State} (e : execOcConditionAsserted b s = .next t) : Done s t := by
  unfold execOcConditionAsserted at e
  dsimp only at e
  split at e <;> exact quiet_done e ⟨rfl, rfl⟩

theorem ocFilterExpiry_done (b : Bay) {s t : State} (e : execOcFilterExpiry b s = .next t) : Done s t := by
  unfold execOcFilterExpiry at e
  split at e
  · exact next_done (.quiet ((quiet_advance _ s).trans (persist_quiet b _))) e
  · exact next_done (.idle rfl) e

theorem protectionTrip_done (b : Bay) (cause : TripCause) {s t : State} (e : execProtectionTrip b cause s = .next t) : Done s t := by
  unfold execProtectionTrip at e
  split at e
  · next h => exact next_done (.runs (faultBay_runs b _ s (Bool.and_eq_true_iff.1 h).2)) e
  · exact next_done (.idle rfl) e

theorem transmissionStart_done (p : Port) {s t : State} (e : execTransmissionStart p s = .next t) : Done s t := by
  unfold execTransmissionStart at e
  split at e
  · exact next_done (.idle rfl) e
  · next h => exact next_done (.quiet (quiet_startTransmission h)) e

theorem forwardTimeout_done (p : Port) {s t : State} (e : execForwardTimeout p s = .next t) : Done s t := by
  unfold execForwardTimeout at e
  split at e
  · exact next_done (.idle rfl) e
  · next w _ =>
    have cleared : Quiet s (clearSlot p (advance w.endsAt s)) := ⟨rfl, rfl⟩
    exact quiet_done e ((cleared.trans (quiet_count p .timedOut 1 _)).trans (quiet_sendStatus _ p _ _))

theorem linkUp_done (p : UpPort) {s t : State} (e : execLinkUp p s = .next t) : Done s t := by
  unfold execLinkUp at e
  split at e
  · exact next_done (.idle rfl) e
  · exact next_done (.quiet (quiet_modUp p _ s)) e

theorem linkDown_done (p : UpPort) {s t : State} (e : execLinkDown p s = .next t) : Done s t := by
  unfold execLinkDown at e
  split at e
  · exact next_done (.quiet (quiet_loseLink p s)) e
  · exact next_done (.idle rfl) e

theorem overrideEnd_done (m : FanModule) {s t : State} (e : execOverrideEnd m s = .next t) : Done s t := by
  unfold execOverrideEnd at e
  split at e
  · exact next_done (.idle rfl) e
  · exact quiet_done e ⟨rfl, rfl⟩

theorem locateEnd_done (b : Bay) {s t : State} (e : execLocateEnd b s = .next t) : Done s t := by
  unfold execLocateEnd at e
  split at e
  · exact quiet_done e ⟨rfl, rfl⟩
  · exact next_done (.idle rfl) e

theorem activityWindowEnd_done (b : Bay) {s t : State} (e : execActivityWindowEnd b s = .next t) : Done s t := by
  unfold execActivityWindowEnd at e
  split at e
  · exact quiet_done e ⟨rfl, rfl⟩
  · exact next_done (.idle rfl) e

theorem patternTurn_done (p : PatternNo) {s t : State} (e : execPatternTurn p s = .next t) : Done s t := by
  unfold execPatternTurn at e
  split at e
  · exact next_done (.quiet (quiet_advance _ s)) e
  · exact next_done (.idle rfl) e

theorem unknownRequest_done {s t : State} (e : execUnknownRequest s = .next t) : Done s t :=
  serveIf_done (fun _ _ u => (Quiet.refl u).works) e

theorem lineSample_works (p : UpPort) (f : Frame) (s : State) : Works s (lineSample p f s).1 :=
  (quiet_modLines _ (fun x => { x with edges := 0 }) s fun _ => rfl).works

theorem readIdent_done {s t : State} (e : execReadIdent s = .next t) : Done s t := serveRead_done e
theorem readBay_done {s t : State} (e : execReadBay s = .next t) : Done s t := serveRead_done e
theorem readBays_done {s t : State} (e : execReadBays s = .next t) : Done s t := serveRead_done e
theorem readPower_done {s t : State} (e : execReadPower s = .next t) : Done s t := serveRead_done e
theorem readRoutes_done {s t : State} (e : execReadRoutes s = .next t) : Done s t := serveRead_done e
theorem readThermal_done {s t : State} (e : execReadThermal s = .next t) : Done s t := serveRead_done e
theorem readCooling_done {s t : State} (e : execReadCooling s = .next t) : Done s t := serveRead_done e

/-! ### Every command -/

theorem exec_done {c : Instr} {s t : State} (e : exec c s = .next t) : Done s t := by
  cases c with
  | powerOnReset pins => exact next_done (.reset pins rfl) e
  | presenceAsserted b => exact next_done (.runs (setConnector_runs b _ s)) e
  | presenceLost b => exact next_done (.runs (setConnector_runs b _ s)) e
  | seatingExpired b => exact seatingExpired_done _ e
  | scanGroupExpiry => exact scanGroupExpiry_done e
  | startWindowExpiry b => exact startWindowExpiry_done _ e
  | cycleTimerExpiry b => exact cycleTimerExpiry_done _ e
  | staggerExpiry => exact staggerExpiry_done e
  | ocConditionAsserted b => exact ocConditionAsserted_done _ e
  | ocConditionLapsed b => exact quiet_done e ⟨rfl, rfl⟩
  | ocFilterExpiry b => exact ocFilterExpiry_done _ e
  | protectionTrip b cause => exact protectionTrip_done _ _ e
  | frameArrival p bytes => exact arrival_done e
  | driveHello b bytes => exact arrival_done e
  | controllerHello p bytes => exact arrival_done e
  | managementIntake p bytes => exact arrival_done e
  | transmissionStart p => exact transmissionStart_done _ e
  | transmissionComplete p => exact transmissionComplete_done e
  | forwardTimeout p => exact forwardTimeout_done _ e
  | linkUp p => exact linkUp_done _ e
  | linkDown p => exact linkDown_done _ e
  | updatePeriod channels => exact updatePeriod_done channels e
  | tachPulse m r => exact tachPulse_done m r e
  | overrideEnd m => exact overrideEnd_done _ e
  | locateEnd b => exact locateEnd_done _ e
  | activityWindowEnd b => exact activityWindowEnd_done _ e
  | patternTurn p => exact patternTurn_done _ e
  | unknownRequest => exact unknownRequest_done e
  | readIdent => exact readIdent_done e
  | readBay => exact readBay_done e
  | readBays => exact readBays_done e
  | powerOn => exact serveCode_done (fun p f u => withBay_works f u _ fun b => powerOnBay_works p b u) e
  | powerOff => exact serveCode_done (fun p f u => withBay_works f u _ fun b => powerOffBay_works p _ b u) e
  | powerCycle => exact serveCode_done (fun _ f u => withBay_works f u _ fun b => powerCycleBay_works _ b u) e
  | clearFault => exact serveCode_done (fun _ f u => withBay_works f u _ fun b => clearFaultBay_works b u) e
  | setBayPolicy => exact serveCode_done setBayPolicy_works e
  | setBayLines => exact serveCode_done setBayLines_works e
  | setSeating => exact serveCode_done setSeating_works e
  | lineTestEnter => exact serveCode_done lineTestEnter_works e
  | lineSample => exact serveCode_done lineSample_works e
  | linePreload => exact serveCode_done linePreload_works e
  | lineTestExit => exact serveCode_done lineTestExit_works e
  | setCeiling => exact serveCode_done setCeiling_works e
  | setStagger => exact serveCode_done setStagger_works e
  | loadClass => exact serveCode_done loadClass_works e
  | setOcFilter => exact serveCode_done setOcFilter_works e
  | readPower => exact readPower_done e
  | setForwardTimeout => exact serveCode_done setForwardTimeout_works e
  | readCounters => exact serveCode_done readCounters_works e
  | loadRoute => exact serveCode_done loadRoute_works e
  | dropRoute => exact serveCode_done dropRoute_works e
  | readRoutes => exact readRoutes_done e
  | loadSnoopRule => exact serveCode_done loadSnoopRule_works e
  | setThresholds => exact serveCode_done setThresholds_works e
  | setSensor => exact serveCode_done setSensor_works e
  | readThermal => exact readThermal_done e
  | loadCurve => exact serveCode_done loadCurve_works e
  | setZone => exact serveCode_done setZone_works e
  | setFanMap => exact serveCode_done setFanMap_works e
  | setFanOverride => exact serveCode_done setFanOverride_works e
  | setFanTiming => exact serveCode_done setFanTiming_works e
  | readCooling => exact readCooling_done e
  | setLight => exact serveCode_done setLight_works e
  | loadPattern => exact serveCode_done loadPattern_works e
  | setLightMap => exact serveCode_done setLightMap_works e
  | setNightDim => exact serveCode_done setNightDim_works e
  | readEvents => exact serveCode_done readEvents_works e
  | subscribe => exact serveCode_done subscribe_works e
  | warmRestart => exact warmRestart_done e

end Sys2Proof.Machine

namespace Sys2Proof.Machine

/-! ### Steps -/

/-- A step runs the front command, or a millisecond passes. -/
theorem step_cases {s t : State} (e : step s = .next t) :
    t = tick s ∨ ∃ c rest, exec c { s with pending := rest } = .next t := by
  unfold step at e
  split at e
  · exact .inl (Host.Outcome.next.inj e).symm
  · exact .inr ⟨_, _, e⟩

/-- What a step may lead to: the clock moves, or a command has done what it does. -/
theorem step_done {s t : State} (e : step s = .next t) : t = tick s ∨ ∃ rest, Done { s with pending := rest } t :=
  (step_cases e).imp id fun ⟨_, rest, e⟩ => ⟨rest, exec_done e⟩

/-! ### PWR (R4) -/

/-- A bay's PWR line is at its active level exactly when the bay is STARTING or ONLINE. -/
def PwrKept (s : State) : Prop := ∀ b : Bay,
  s.line.bays[b].pwrPin = pinLevel s.line.bays[b].record.pwrPol true ↔ s.bays[b].state = .starting ∨ s.bays[b].state = .online

theorem pinLevel_active_iff (pol : Polarity) (x : Bool) : pinLevel pol x = pinLevel pol true ↔ x = true := by
  cases pol <;> cases x <;> decide

theorem powered_iff (x : BayState) : powered x = true ↔ x = .starting ∨ x = .online := by cases x <;> decide

theorem drivePins_unit (b : Bay) (s : State) : (drivePins s).line.bays[b] =
    { s.line.bays[b] with
      pwrPin := pinLevel s.line.bays[b].record.pwrPol (enabled b s)
      laPin := lightPin s.line.bays[b].record.laPol s.line.bays[b].record.laDrive s.light.dim (laValue b s)
      lbPin := lightPin s.line.bays[b].record.lbPol s.line.bays[b].record.lbDrive s.light.dim (lbValue b s) } := by
  unfold drivePins
  rw [getElem_tab]

theorem drivePins_pwrKept (s : State) : PwrKept (drivePins s) := fun b => by
  rw [drivePins_unit, drivePins_bays, pinLevel_active_iff, enabled, powered_iff]

theorem settle_pwrKept (s : State) : PwrKept (settle s) := drivePins_pwrKept _

theorem powerOn_bays (now : Nat) (pins : PowerOnPins) (rest : List Instr) (b : Bay) :
    (State.powerOn now pins rest).bays[b] = BayRecord.reset b pins.prs[b] := getElem_tab _ b

theorem powerOn_state (now : Nat) (pins : PowerOnPins) (rest : List Instr) (b : Bay) :
    (State.powerOn now pins rest).bays[b].state = .seating ∨ (State.powerOn now pins rest).bays[b].state = .empty := by
  rw [powerOn_bays]
  unfold BayRecord.reset
  cases scanPresence pins.prs[b]
  · exact .inr rfl
  · exact .inl rfl

theorem powerOn_pwrKept (now : Nat) (pins : PowerOnPins) (rest : List Instr) :
    PwrKept (State.powerOn now pins rest) := fun b => by
  have unit : (State.powerOn now pins rest).line.bays[b].pwrPin = .low ∧
      (State.powerOn now pins rest).line.bays[b].record.pwrPol = .activeHigh := by
    simp only [State.powerOn, LineBlock.reset, getElem_tab]
    exact ⟨trivial, rfl⟩
  rw [unit.1, unit.2]
  rcases powerOn_state now pins rest b with h | h <;> rw [h] <;> decide

/-- Settles O12: every command ends by driving the pins, unless it leaves lines and bays alone. -/
theorem pwrFollowsTheBayState : Obligations.PwrFollowsTheBayState := by
  intro s t (h : PwrKept s) e
  change PwrKept t
  rcases step_done e with rfl | ⟨rest, d⟩
  · exact h
  · cases d with
    | reset pins ht => exact ht ▸ powerOn_pwrKept _ _ _
    | idle ht => exact ht ▸ h
    | held p ht => rw [ht]; cases p <;> exact h
    | works u _ ht => exact ht ▸ settle_pwrKept u
    | scan u _ _ ht => exact ht ▸ settle_pwrKept u

/-! ### Presence and seating (R2, R8, R9, R12) -/

theorem linesConsistent_iff (s : State) : LinesConsistent s ↔ (view s).Seated ∧ (view s).GroupTimed := by
  have any := any_toList_iff s.line.bays (·.inGroup)
  constructor
  · intro h
    refine ⟨⟨fun b => ⟨h.judged b, h.empty b, h.seated b, h.group b, h.debounce b, h.seating b⟩, fun ht => ?_⟩, fun b hb => ?_⟩
    · exact any.1 (h.groupTimer ▸ ht)
    · exact h.groupTimer.trans (any.2 ⟨b, hb⟩)
  · rintro ⟨h, k⟩
    exact
      { judged := fun b => (h.ok b).judged, empty := fun b => (h.ok b).empty, seated := fun b => (h.ok b).seated
        group := fun b => (h.ok b).group, debounce := fun b => (h.ok b).debounce, seating := fun b => (h.ok b).seating
        groupTimer := Bool.eq_iff_iff.2 ⟨fun ht => any.2 (h.timer ht), fun ha => (any.1 ha).elim k⟩ }

/-- Seats and scan group agree, and only QUEUED bays are queued: the invariant of single effects behind
`LinesConsistent`. -/
structure View.SeatingKept (v : View) : Prop where
  queued : v.Queued
  seated : v.Seated
  timed : v.GroupTimed

theorem Runs.seatingKept {s t : State} (r : Runs s t) (h : (view s).SeatingKept) : (view t).SeatingKept :=
  r.1.keep (P := View.SeatingKept) (fun _ _ e h =>
    ⟨e.keeps_queued h.queued, e.keeps_seated h.queued h.seated, e.keeps_groupTimed h.timed⟩) h

theorem settle_linesConsistent {s : State} (h : (view s).SeatingKept) : LinesConsistent (settle s) :=
  have k := (settle_runs s).seatingKept h
  (linesConsistent_iff _).2 ⟨k.seated, k.timed⟩

theorem scanPresence_eq (d : PrsDrive) : scanPresence d = presenceOf .low d := by cases d <;> rfl

theorem powerOn_linesConsistent (now : Nat) (pins : PowerOnPins) (rest : List Instr) :
    LinesConsistent (State.powerOn now pins rest) := by
  have unit (b : Bay) : (State.powerOn now pins rest).line.bays[b].seat =
      ⟨.low, pins.prs[b], scanPresence pins.prs[b], none, scanPresence pins.prs[b] = .present⟩ := by
    simp only [State.powerOn, LineBlock.reset, getElem_tab]
    rfl
  have state (b : Bay) : (State.powerOn now pins rest).bays[b].state =
      match scanPresence pins.prs[b] with
      | .present => .seating
      | .absent => .empty := (congrArg BayRecord.state (powerOn_bays now pins rest b)).trans rfl
  have timer : (State.powerOn now pins rest).line.groupTimer.isSome = true ↔ ∃ b : Bay, scanPresence pins.prs[b] = .present := by
    have any := any_toList_iff pins.prs fun d => scanPresence d = .present
    simp only [decide_eq_true_eq] at any
    rw [← any]
    simp only [State.powerOn, LineBlock.reset]
    split <;> simp_all
  refine (linesConsistent_iff _).2 ⟨⟨fun b => ?_, fun ht => ?_⟩, fun b hb => ?_⟩
  · change SeatOk (State.powerOn now pins rest).line.bays[b].seat (State.powerOn now pins rest).bays[b].state
    rw [unit, state]
    cases h : scanPresence pins.prs[b]
    · exact ⟨by rw [← scanPresence_eq, h], by simp, by simp, by simp, by simp, by simp⟩
    · exact ⟨by rw [← scanPresence_eq, h], by simp, by simp, by simp, by simp, by simp⟩
  · obtain ⟨b, hb⟩ := timer.1 ht
    refine ⟨b, ?_⟩
    change (State.powerOn now pins rest).line.bays[b].seat.inGroup = true
    rw [unit]; exact decide_eq_true hb
  · change (State.powerOn now pins rest).line.bays[b].seat.inGroup = true at hb
    rw [unit] at hb
    exact timer.2 ⟨b, of_decide_eq_true hb⟩

theorem Done.linesConsistent {s t : State} (d : Done s t) (hb : BaysConsistent s) (h : LinesConsistent s) :
    LinesConsistent t := by
  obtain ⟨seated, timed⟩ := (linesConsistent_iff s).1 h
  have kept : (view s).SeatingKept := ⟨hb.queued, seated, timed⟩
  cases d with
  | reset pins ht => exact ht ▸ powerOn_linesConsistent _ _ _
  | idle ht => exact ht ▸ h
  | held p ht =>
    rw [ht, linesConsistent_iff, (quiet_holdNext p s).1]
    exact ⟨seated, timed⟩
  | works u w ht =>
    rw [ht]
    rcases w with r | ⟨e, -⟩
    · exact settle_linesConsistent (r.seatingKept kept)
    · exact settle_linesConsistent (e ▸ kept)
  | scan u run left ht =>
    rw [ht]
    have stopped : (view { s with line := { s.line with groupTimer := none } }).Queued ∧
        (view { s with line := { s.line with groupTimer := none } }).Seated :=
      ⟨hb.queued, seated.ok, fun h => nomatch h⟩
    obtain ⟨queued, sits⟩ := (run hb).1.keep (P := fun v => v.Queued ∧ v.Seated)
      (fun _ _ e h => ⟨e.keeps_queued h.1, e.keeps_seated h.1 h.2⟩) stopped
    exact settle_linesConsistent ⟨queued, sits, fun b hg => by rw [left hb seated b] at hg; cases hg⟩

/-- Settles O11: every command is made of single effects that keep seats and states in agreement. -/
theorem presenceAndSeatingAgree : Obligations.PresenceAndSeatingAgree := by
  intro s t hb h e
  rcases step_done e with rfl | ⟨rest, d⟩
  · exact ⟨h.judged, h.empty, h.seated, h.group, h.debounce, h.seating, h.groupTimer⟩
  · exact d.linesConsistent ⟨hb.record, ⟨hb.queue.member, hb.queue.once, hb.queue.order⟩⟩
      ⟨h.judged, h.empty, h.seated, h.group, h.debounce, h.seating, h.groupTimer⟩

/-! ### Settings in their ranges -/

/-- The committed draw is within the ceiling, and the view's settings are in range. -/
structure View.RangeKept (v : View) : Prop where
  within : v.Within
  range : v.InRange

theorem Runs.rangeKept {s t : State} (r : Runs s t) (hσ : (settings s).InRange) (h : (view s).RangeKept) :
    (view t).RangeKept :=
  r.1.keep (P := View.RangeKept) (fun _ _ e h =>
    ⟨e.keeps_within h.within, e.keeps_inRange hσ.retries h.within h.range⟩) h

theorem settle_settingsInRange {s : State} (hσ : (settings s).InRange) (h : (view s).RangeKept) :
    SettingsInRange (settle s) :=
  (settingsInRange_iff _).2 ⟨(settle_runs s).2 ▸ hσ, ((settle_runs s).rangeKept hσ h).range⟩

theorem powerOn_settingsInRange (now : Nat) (pins : PowerOnPins) (rest : List Instr) :
    SettingsInRange (State.powerOn now pins rest) where
  debounce := show 5 ≤ 50 by decide
  retries b := by simp only [State.powerOn, getElem_tab, BayRecord.reset]; decide
  classes c := by simp only [State.powerOn, PowerBlock.reset, getElem_tab]; revert c; decide
  ceiling := by
    change 100 ≤ strappedCeiling pins.bud ∧ strappedCeiling pins.bud ≤ 4000
    generalize pins.bud = x
    revert x; decide
  pendingCeiling p hp := nomatch hp
  stagger := show 30 ≤ 150 by decide
  limit := show 1 ≤ 2 ∧ 2 ≤ 8 by decide
  ocFilter b := by simp only [State.powerOn, PowerBlock.reset, getElem_tab]; decide
  timeout := show 1 ≤ 20 ∧ 20 ≤ 255 by decide
  thermal := show (30 : Int) ≤ 55 ∧ (65 : Int) ≤ 110 ∧ 1 ≤ 2 ∧ 2 ≤ 4 ∧ 1 ≤ 10 ∧ 10 ≤ 60 by decide
  sensors n := by simp only [State.powerOn, ThermalBlock.reset, getElem_tab]; decide
  curves z := by simp only [State.powerOn, CoolingBlock.reset, getElem_tab]; decide
  rules n := by simp only [State.powerOn, ThermalBlock.reset, getElem_tab]; decide
  zones z := by simp only [State.powerOn, CoolingBlock.reset, getElem_tab]; decide
  timing := show 250 ≤ 1000 ∧ 1000 ≤ 4000 ∧ 800 ≤ 20000 ∧ 1 ≤ 3 ∧ 3 ≤ 8 by decide
  patterns p := by
    simp only [State.powerOn, LightBlock.reset, getElem_tab]
    unfold Pattern.default
    split <;> simp
  hold := show 20 ≤ 60 ∧ 60 ≤ 500 by decide

theorem Done.settingsInRange {s t : State} (d : Done s t) (hb : BaysConsistent s) (hk : BudgetKept s)
    (h : SettingsInRange s) : SettingsInRange t := by
  obtain ⟨σ, range⟩ := (settingsInRange_iff s).1 h
  cases d with
  | reset pins ht => exact ht ▸ powerOn_settingsInRange _ _ _
  | idle ht => exact ht ▸ h
  | held p ht =>
    rw [ht, settingsInRange_iff, (quiet_holdNext p s).1, (quiet_holdNext p s).2]
    exact ⟨σ, range⟩
  | works u w ht =>
    rw [ht]
    rcases w with r | ⟨e, tuned⟩
    · exact settle_settingsInRange (r.2 ▸ σ) (r.rangeKept σ ⟨hk.held, range⟩)
    · exact settle_settingsInRange (tuned σ) (e ▸ ⟨hk.held, range⟩)
  | scan u run left ht =>
    have r := run hb
    exact ht ▸ settle_settingsInRange (r.2 ▸ σ)
      (r.rangeKept σ ⟨hk.held, ⟨range.retries, range.low, range.high, range.pending⟩⟩)

/-- Settles O16: requests store values in range, and the ceiling steps down to a committed draw that is within it. -/
theorem settingsStayInRange : Obligations.SettingsStayInRange := by
  intro s t hb hk h e
  rw [settingsInRange_iff] at h
  rcases step_done e with rfl | ⟨rest, d⟩
  · exact (settingsInRange_iff _).2 h
  · exact d.settingsInRange ⟨hb.record, ⟨hb.queue.member, hb.queue.once, hb.queue.order⟩⟩
      ⟨hk.unpowered, hk.within, hk.pending⟩ ((settingsInRange_iff _).2 h)

end Sys2Proof.Machine

namespace Sys2Proof.Machine

/-! ### An attempt owes nothing -/

theorem admitBay_attemptAsked (b : Bay) (s : State) (free : s.power.charge[b] = 0) :
    (admitBay b s).power.attemptAsked = s.power.attemptAsked := by
  unfold admitBay
  dsimp only
  rw [setCharge_of_rise _ _ _ (by simp only [modBay_power]; exact free ▸ Nat.zero_le _)]
  split <;> rfl

theorem attempt_attemptAsked (s : State) (hq : (view s).Queued) (hi : (view s).Idle) :
    (attempt s).power.attemptAsked = s.power.attemptAsked := by
  refine (attempt_induction (fun t => (view t).Queued ∧ (view t).Idle ∧ t.power.attemptAsked = s.power.attemptAsked)
    (fun t b _ hw h => ?_) s ⟨hq, hi, rfl⟩).2.2
  obtain ⟨queued, idle, asked⟩ := h
  have waiting : t.bays[b].state = .queued := by
    obtain ⟨e, he, rfl⟩ := List.mem_map.1 (walk_mem hw)
    exact queued e he
  have free : t.power.charge[b] = 0 := idle b (by change powered t.bays[b].state = false; rw [waiting]; rfl)
  exact ⟨(admitBay_runs b t hw).1.keep (fun _ _ => Effect.keeps_queued) queued,
    (admitBay_runs b t hw).1.keep (fun _ _ => Effect.keeps_idle) idle, (admitBay_attemptAsked b t free).trans asked⟩

theorem attemptIfAsked_attemptAsked (s : State) (hq : (view s).Queued) (hi : (view s).Idle) :
    (attemptIfAsked s).power.attemptAsked = false := by
  unfold attemptIfAsked
  split
  · exact attempt_attemptAsked { s with power := { s.power with attemptAsked := false } } hq hi
  · next h => simpa using h

/-! ### The reports stand after an attempt -/

/-- Bay `b` gives no other readings in `t` than in `s`: its record is the same, or it is ONLINE in neither. -/
def ReadingKept (b : Bay) (s t : State) : Prop :=
  t.bays[b] = s.bays[b] ∨ s.bays[b].state ≠ .online ∧ t.bays[b].state ≠ .online

theorem AtMostAdmitted.readingKept {b : Bay} {s t : State} (h : AtMostAdmitted b s t) : ReadingKept b s t := by
  rcases h with ⟨record, -⟩ | ⟨queued, ⟨e, record⟩, -⟩
  · exact .inl record
  · exact .inr ⟨by rw [queued]; decide, by rw [record]; exact BayState.noConfusion⟩

theorem hotIn_congr {s t : State} (z : Zone) (b : Bay) (therm : t.therm = s.therm) (h : ReadingKept b s t) :
    hotIn t z b = hotIn s z b := by
  unfold hotIn fresh
  rw [therm]
  rcases h with record | ⟨before, after⟩
  · rw [record]
  · simp only [before, after, decide_false, Bool.false_and]

theorem zoneHot_congr {s t : State} (z : Zone) (therm : t.therm = s.therm) (h : ∀ b, ReadingKept b s t) :
    zoneHot t z = zoneHot s z :=
  congrArg allBays.any (funext fun b => hotIn_congr z b therm (h b))

/-- Where no reading or active zone of an ONLINE bay changes, the snooper's report stands. -/
theorem refreshHot_of_kept {s t : State} (hot : refreshHot s = s) (therm : t.therm = s.therm)
    (h : ∀ b, ReadingKept b s t) : refreshHot t = t := by
  rw [refreshHot_eq_self_iff] at hot ⊢
  rw [therm, ← hot]
  exact congrArg tab (funext fun z => zoneHot_congr z therm h)

theorem blocksNow_congr {s t : State} (therm : t.therm = s.therm) (cool : t.cool = s.cool) : blocksNow t = blocksNow s := by
  simp only [blocksNow, zoneFailed, therm, cool]

theorem refreshBlocks_blocked (s : State) : (refreshBlocks s).power.blocked = blocksNow s := by
  unfold refreshBlocks; dsimp only; split <;> rfl

/-! ### Releasing leaves nothing to release (R189) -/

theorem releaseLoop_releases (n : Nat) (p : UpPort) (s : State) (h : s.ev.notices[upIdx p].length ≤ n) :
    releasable p (releaseLoop n p s) = false := by
  induction n generalizing s with
  | zero =>
    have empty : s.ev.notices[upIdx p] = [] := List.length_eq_zero_iff.1 (Nat.le_zero.1 h)
    rw [releaseLoop, releasable, empty]
    rfl
  | succ n ih =>
    unfold releaseLoop
    split
    · next x rest l hx hl =>
      split
      · refine ih _ ?_
        simp only [pushPriority_ev, getElem_put_same]
        rw [hx] at h
        exact Nat.le_of_succ_le_succ h
      · next hc =>
        simp only [releasable, hx, hl]
        simpa using hc
    · next no =>
      cases hx : s.ev.notices[upIdx p] with
      | nil => simp [releasable, hx]
      | cons x rest =>
        cases hl : s.route.learned[portIdx (.up p)] with
        | none => simp only [releasable, hl]; simp
        | some l => exact absurd hl (no x rest l hx)

theorem release_releases (p : UpPort) (s : State) : releasable p (release p s) = false :=
  releaseLoop_releases _ p s (Nat.le_refl _)

theorem upIdx_ne {p q : UpPort} (h : p ≠ q) : upIdx p ≠ upIdx q := by
  cases p <;> cases q <;> first | exact absurd rfl h | decide

/-- Notices and queues of one upstream port are left alone. -/
def UpKept (p : UpPort) (s t : State) : Prop :=
  t.ev.notices[upIdx p] = s.ev.notices[upIdx p] ∧ t.fwd.up[upIdx p] = s.fwd.up[upIdx p]

theorem releaseLoop_other (n : Nat) {p q : UpPort} (hp : p ≠ q) (s : State) : UpKept p s (releaseLoop n q s) := by
  induction n generalizing s with
  | zero => exact ⟨rfl, rfl⟩
  | succ n ih =>
    unfold releaseLoop
    split
    · next x rest l _ _ =>
      split
      · obtain ⟨notices, up⟩ := ih (pushPriority q ⟨noticeFrame (switchAddr s) l.addr x, .built⟩
          { s with ev := { s.ev with notices := put s.ev.notices (upIdx q) rest } })
        refine ⟨notices.trans ?_, up.trans ?_⟩
        · rw [pushPriority_ev, getElem_put_ne _ _ (upIdx_ne hp)]
        · rw [pushPriority_up, getElem_upd_ne _ _ (upIdx_ne hp)]
      · exact ⟨rfl, rfl⟩
    · exact ⟨rfl, rfl⟩

theorem release_other {p q : UpPort} (hp : p ≠ q) (s : State) : releasable p (release q s) = releasable p s := by
  obtain ⟨notices, up⟩ := releaseLoop_other (s.ev.notices[upIdx q].length) hp s
  unfold release
  simp only [releasable, notices, priorityRoom, up, releaseLoop_route, holdsFor, releaseLoop_mgmt]

theorem release_both (s : State) : NoticesReleased (release .u1 (release .u0 s)) := fun p => by
  cases p with
  | u0 => rw [release_other (by decide), release_releases]
  | u1 => exact release_releases .u1 _

/-! ### Pins driven once stand -/

theorem laValue_drivePins (b : Bay) (s : State) : laValue b (drivePins s) = laValue b s := by
  have shown : greenShown b (drivePins s) = greenShown b s := rfl
  unfold laValue
  rw [shown]
  cases greenShown b s with
  | dark => rfl
  | preload => simp only [lightValue, drivePins_unit]
  | cause c => simp only [lightValue, drivePins, getElem_tab, patternOutput]

theorem lbValue_drivePins (b : Bay) (s : State) : lbValue b (drivePins s) = lbValue b s := by
  have shown : amberShown b (drivePins s) = amberShown b s := rfl
  unfold lbValue
  rw [shown]
  cases amberShown b s with
  | dark => rfl
  | preload => simp only [lightValue, drivePins_unit]
  | cause c => simp only [lightValue, drivePins, getElem_tab, patternOutput]

/-- A line unit whose pins are at the levels that the state gives them. -/
def LineUnit.Driven (b : Bay) (s : State) (u : LineUnit) : Prop :=
  u.pwrPin = pinLevel u.record.pwrPol (enabled b s) ∧
    u.laPin = lightPin u.record.laPol u.record.laDrive s.light.dim (laValue b s) ∧
    u.lbPin = lightPin u.record.lbPol u.record.lbDrive s.light.dim (lbValue b s)

theorem drivePins_eq_self_iff (s : State) : drivePins s = s ↔ (∀ b : Bay, s.line.bays[b].Driven b s) ∧
    ∀ p : PatternNo, s.light.patterns[p].shown = patternOutput s.now s.light.patterns[p] := by
  constructor
  · intro h
    refine ⟨fun b => ?_, fun p => ?_⟩
    · have unit := drivePins_unit b s
      rw [h] at unit
      exact ⟨congrArg LineUnit.pwrPin unit, congrArg LineUnit.laPin unit, congrArg LineUnit.lbPin unit⟩
    · have pattern := congrArg (fun t : State => t.light.patterns[p].shown) h
      simp only [drivePins, getElem_tab] at pattern
      exact pattern.symm
  · rintro ⟨lines, patterns⟩
    have bays : (drivePins s).line.bays = s.line.bays := tab_ext fun b => by
      rw [drivePins_unit]
      obtain ⟨pwr, la, lb⟩ := lines b
      rw [← pwr, ← la, ← lb]
    have shown : (drivePins s).light.patterns = s.light.patterns := tab_ext fun p => by
      simp only [drivePins, getElem_tab]
      rw [← patterns p]
    calc drivePins s = { s with
          line := { s.line with bays := (drivePins s).line.bays }
          light := { s.light with patterns := (drivePins s).light.patterns } } := rfl
      _ = s := by rw [bays, shown]

theorem drivePins_idem (s : State) : drivePins (drivePins s) = drivePins s := by
  refine (drivePins_eq_self_iff _).2 ⟨fun b => ?_, fun p => ?_⟩
  · unfold LineUnit.Driven
    rw [drivePins_unit, laValue_drivePins, lbValue_drivePins]
    exact ⟨rfl, rfl, rfl⟩
  · simp only [drivePins, getElem_tab, patternOutput]

/-! ### The settled state is at rest -/

/-- The reports of hot readings and zone blocks are taken (R55, R116). -/
structure Reported (s : State) : Prop where
  hot : refreshHot s = s
  blocks : blocksNow s = s.power.blocked

theorem reported_refresh (s : State) : Reported (refreshBlocks (refreshHot s)) where
  hot := by unfold refreshBlocks; dsimp only; split <;> rfl
  blocks := by
    rw [refreshBlocks_blocked]
    exact blocksNow_congr (by simp) (by simp)

/-- The reports stand where no reading, module, block or active zone of an ONLINE bay changes. -/
theorem Reported.of_kept {s t : State} (h : Reported s) (therm : t.therm = s.therm) (cool : t.cool = s.cool)
    (blocked : t.power.blocked = s.power.blocked) (kept : ∀ b, ReadingKept b s t) : Reported t where
  hot := refreshHot_of_kept h.hot therm kept
  blocks := (blocksNow_congr therm cool).trans (h.blocks.trans blocked.symm)

theorem Reported.attempted {s : State} (h : Reported s) (hq : (view s).Queued) : Reported (attemptIfAsked s) :=
  h.of_kept (attemptIfAsked_therm s) (attemptIfAsked_cool s) (attemptIfAsked_powerKept s).2.2.2.1
    fun b => (attemptIfAsked_atMostAdmitted b s hq).readingKept

theorem alertCondition_congr {s t : State} (bays : t.bays = s.bays) (cool : t.cool = s.cool) :
    alertCondition t = alertCondition s := by
  simp only [alertCondition, bays, cool]

theorem releasable_drive (p : UpPort) (s : State) : releasable p (drivePins (driveAlert s)) = releasable p s := by
  simp only [releasable, priorityRoom, holdsFor, drivePins_ev, drivePins_fwd, drivePins_route, drivePins_mgmt,
    driveAlert_fwd, driveAlert_route, driveAlert_mgmt]
  rfl

/-- The end of a step leaves the part at rest, when the reports are taken and no attempt is owed. -/
theorem finish_atRest (s : State) (h : Reported s) (asked : s.power.attemptAsked = false) : AtRest (finish s) where
  hot := refreshHot_of_kept h.hot (finish_therm s) fun _ => .inl (by rw [finish_bays])
  blocks := by rw [blocksNow_congr (finish_therm s) (finish_cool s), h.blocks, finish_power]
  asked := (congrArg PowerBlock.attemptAsked (finish_power s)).trans asked
  notices := fun p => (releasable_drive p _).trans (release_both s p)
  alert := (driveAlert_eq_self_iff _).2 (alertCondition_congr (by simp [finish]) (by simp [finish]))
  pins := drivePins_idem _

theorem settle_eq (s : State) : settle s = finish (attemptIfAsked (refreshBlocks (refreshHot s))) := rfl

theorem settle_atRest (s : State) (hq : (view s).Queued) (hi : (view s).Idle) : AtRest (settle s) := by
  have quiet : Quiet s (refreshBlocks (refreshHot s)) := (quiet_refreshHot s).trans (quiet_refreshBlocks _)
  have queued : (view (refreshBlocks (refreshHot s))).Queued := quiet.1 ▸ hq
  rw [settle_eq]
  exact finish_atRest _ ((reported_refresh s).attempted queued) (attemptIfAsked_attemptAsked _ queued (quiet.1 ▸ hi))

/-! ### Every command -/

theorem zoneHot_of_offline (s : State) (z : Zone) (h : ∀ b : Bay, s.bays[b].state ≠ .online) : zoneHot s z = false := by
  unfold zoneHot
  rw [List.any_eq_false]
  intro b _
  simp only [hotIn, h b, decide_false, Bool.false_and]
  exact Bool.false_ne_true

theorem powerOn_driven (now : Nat) (pins : PowerOnPins) (rest : List Instr) (b : Bay) :
    ((State.powerOn now pins rest).line.bays[b]).Driven b (State.powerOn now pins rest) := by
  have green : greenShown b (State.powerOn now pins rest) = .dark := by
    unfold greenShown
    rcases powerOn_state now pins rest b with h | h <;> rw [h]
  have lights : (State.powerOn now pins rest).light.bays[b] = ⟨.absent, false, false, false, none⟩ := getElem_tab _ b
  have amber : amberShown b (State.powerOn now pins rest) = .dark := by
    unfold amberShown
    rw [lights]
    rcases powerOn_state now pins rest b with h | h <;> rw [h] <;> rfl
  have off : enabled b (State.powerOn now pins rest) = false := by
    unfold enabled
    rcases powerOn_state now pins rest b with h | h <;> rw [h] <;> rfl
  have unit : (State.powerOn now pins rest).line.bays[b] =
      { record := .default, prsIn := pins.prs[b], presence := scanPresence pins.prs[b], debounce := none
        inGroup := scanPresence pins.prs[b] = .present
        preloadLA := .dark, preloadLB := .dark, edges := 0
        pwrPin := .low, laPin := ⟨.low, .fixed⟩, lbPin := ⟨.low, .fixed⟩ } := getElem_tab _ b
  unfold LineUnit.Driven laValue lbValue
  rw [green, amber, off, unit]
  exact ⟨rfl, rfl, rfl⟩

theorem powerOn_atRest (now : Nat) (pins : PowerOnPins) (rest : List Instr) : AtRest (State.powerOn now pins rest) := by
  have offline (b : Bay) : (State.powerOn now pins rest).bays[b].state ≠ .online := by
    rcases powerOn_state now pins rest b with h | h <;> rw [h] <;> decide
  have healthy (b : Bay) : (State.powerOn now pins rest).bays[b].state ≠ .faulted := by
    rcases powerOn_state now pins rest b with h | h <;> rw [h] <;> decide
  have turning (m : FanModule) : (State.powerOn now pins rest).cool.modules[m].state = .ok := by
    simp only [State.powerOn, CoolingBlock.reset, getElem_tab]
  have running (z : Zone) : zoneFailed (State.powerOn now pins rest) z = false := by
    unfold zoneFailed
    rw [← Bool.not_eq_true, any_toList_iff]
    rintro ⟨m, hm⟩
    rw [turning m] at hm
    simp at hm
  exact
    { hot := (refreshHot_eq_self_iff _).2 (congrArg tab (funext fun z => zoneHot_of_offline _ z offline))
      blocks := by
        refine congrArg tab (funext fun z => ?_)
        rw [running]
        simp only [State.powerOn, ThermalBlock.reset, getElem_tab]
        rfl
      asked := rfl
      notices := fun p => by simp only [releasable, State.powerOn, EventBlock.reset, getElem_tab]; rfl
      alert := by
        refine (driveAlert_eq_self_iff _).2 ?_
        change _ = false
        unfold alertCondition
        rw [Bool.or_eq_false_iff, ← Bool.not_eq_true, ← Bool.not_eq_true, any_toList_iff, any_toList_iff]
        exact ⟨fun ⟨b, hb⟩ => healthy b (of_decide_eq_true hb), fun ⟨m, hm⟩ => by rw [turning m] at hm; cases hm⟩
      pins := by
        refine (drivePins_eq_self_iff _).2 ⟨powerOn_driven now pins rest, fun p => ?_⟩
        simp only [State.powerOn, LightBlock.reset, getElem_tab]
        unfold Pattern.default
        split <;> simp [patternOutput] }

theorem holdNext_atRest (p : Port) (s : State) (h : AtRest s) : AtRest (holdNext p s) := by
  cases p with
  | up p => exact h
  | bay b =>
    exact
      { hot := (refreshHot_eq_self_iff _).2 ((refreshHot_eq_self_iff s).1 h.hot), blocks := h.blocks, asked := h.asked
        notices := h.notices, alert := (driveAlert_eq_self_iff _).2 ((driveAlert_eq_self_iff s).1 h.alert)
        pins := (drivePins_eq_self_iff _).2 ((drivePins_eq_self_iff s).1 h.pins) }

/-- Settles O17: a command that ends by settling leaves nothing owed, since an attempt admits QUEUED bays, whose charge
is 0, and touches nothing that the reports turn on. -/
theorem everyCommandLeavesThePartAtRest : Obligations.EveryCommandLeavesThePartAtRest := by
  intro c s t hb hk h e
  have settled {u v : State} (r : Runs v u) (hv : (view v).Queued ∧ (view v).Idle) : AtRest (settle u) :=
    settle_atRest u (r.1.keep (fun _ _ => Effect.keeps_queued) hv.1) (r.1.keep (fun _ _ => Effect.keeps_idle) hv.2)
  cases exec_done e with
  | reset pins ht => exact ht ▸ powerOn_atRest _ _ _
  | idle ht => exact ht ▸ h
  | held p ht => exact ht ▸ holdNext_atRest p s h
  | works u w ht =>
    rw [ht]
    rcases w with r | ⟨same, -⟩
    · exact settled r ⟨hb.queued, hk.idle⟩
    · exact settle_atRest u (same ▸ hb.queued) (same ▸ hk.idle)
  | scan u run _ ht => exact ht ▸ settled (run hb) ⟨hb.queued, hk.idle⟩

end Sys2Proof.Machine

namespace Sys2Proof.Machine

/-! ### Steps whose settling only drives lines -/

theorem alertCondition_iff (s : State) : alertCondition s = true ↔
    (∃ b : Bay, s.bays[b].state = .faulted) ∨ ∃ m : FanModule, s.cool.modules[m].state = .failed := by
  unfold alertCondition
  rw [Bool.or_eq_true, any_toList_iff, any_toList_iff]
  simp only [decide_eq_true_eq]

/-- Where no bay becomes or ceases to be FAULTED, ALERT stays. -/
theorem alertCondition_of_faults {s t : State} (cool : t.cool = s.cool)
    (h : ∀ b : Bay, t.bays[b].state = .faulted ↔ s.bays[b].state = .faulted) : alertCondition t = alertCondition s := by
  rw [Bool.eq_iff_iff, alertCondition_iff, alertCondition_iff, cool]
  exact or_congr (exists_congr h) Iff.rfl

theorem noticesReleased_congr {s t : State} (h : NoticesReleased s) (ev : t.ev = s.ev) (up : t.fwd.up = s.fwd.up)
    (route : t.route = s.route) (held : t.mgmt.held = s.mgmt.held) : NoticesReleased t := fun p => by
  have := h p
  simp only [releasable, priorityRoom, holdsFor, ev, up, route, held] at this ⊢
  exact this

/-- A state with nothing but the pins to follow, an attempt that may be owed apart. -/
structure Calm (s : State) : Prop where
  reported : Reported s
  notices : NoticesReleased s
  alert : driveAlert s = s

theorem Calm.finish {s : State} (h : Calm s) : finish s = drivePins s := by
  rw [finish_of_released s h.notices, h.alert]

theorem Calm.settle {s : State} (h : Calm s) (asked : s.power.attemptAsked = false) : settle s = drivePins s := by
  rw [settle_eq_finish s h.reported.hot h.reported.blocks asked, h.finish]

theorem AtRest.reported {s : State} (h : AtRest s) : Reported s := ⟨h.hot, h.blocks⟩

theorem AtRest.calm {s t : State} (h : AtRest s) (therm : t.therm = s.therm) (cool : t.cool = s.cool)
    (blocked : t.power.blocked = s.power.blocked) (ev : t.ev = s.ev) (up : t.fwd.up = s.fwd.up) (route : t.route = s.route)
    (held : t.mgmt.held = s.mgmt.held) (bays : ∀ b, ReadingKept b s t)
    (faults : ∀ b : Bay, t.bays[b].state = .faulted ↔ s.bays[b].state = .faulted) : Calm t where
  reported := h.reported.of_kept therm cool blocked bays
  notices := noticesReleased_congr h.notices ev up route held
  alert := by
    rw [driveAlert_eq_self_iff, ev, ← (driveAlert_eq_self_iff s).1 h.alert]
    exact alertCondition_of_faults cool faults

/-- Where the records of the bays stay, a change is calm. -/
theorem AtRest.calm_of_bays {s t : State} (h : AtRest s) (bays : t.bays = s.bays) (therm : t.therm = s.therm)
    (cool : t.cool = s.cool) (blocked : t.power.blocked = s.power.blocked) (ev : t.ev = s.ev) (up : t.fwd.up = s.fwd.up)
    (route : t.route = s.route) (held : t.mgmt.held = s.mgmt.held) : Calm t :=
  h.calm therm cool blocked ev up route held (fun _ => .inl (by rw [bays])) fun _ => by rw [bays]

/-! ### Timers of the lights (R149, R154, R158) -/

/-- A change of lights and clock is followed by the pins alone. -/
theorem settle_of_lights {s : State} (h : AtRest s) (n : Nat) (l : LightBlock) :
    settle { s with now := n, light := l } = drivePins { s with now := n, light := l } :=
  Calm.settle (h.calm_of_bays rfl rfl rfl rfl rfl rfl rfl rfl) h.asked

theorem locateEnd_until {b : Bay} {e : Nat} {s : State} (h : AtRest s) (he : (s.light.bays[b]).locate = .until e) :
    exec (.locateEnd b) s = .next (drivePins
      { s with now := max s.now e
               light := { s.light with bays := upd s.light.bays b (fun u => { u with locate := .absent }) } }) := by
  change execLocateEnd b s = _
  unfold execLocateEnd
  rw [he]
  exact congrArg _ (settle_of_lights h _ _)

theorem locateEnd_forever {b : Bay} {s : State} (he : (s.light.bays[b]).locate = .forever) :
    exec (.locateEnd b) s = .next s := by
  change execLocateEnd b s = _
  unfold execLocateEnd
  rw [he]

theorem activityWindowEnd_open {b : Bay} {e : Nat} {s : State} (h : AtRest s) (he : (s.light.bays[b]).window = some e) :
    exec (.activityWindowEnd b) s = .next (drivePins
      { s with now := max s.now e
               light := { s.light with bays := upd s.light.bays b (fun u => { u with window := none }) } }) := by
  change execActivityWindowEnd b s = _
  unfold execActivityWindowEnd
  rw [he]
  exact congrArg _ (settle_of_lights h _ _)

/-! ### Turns of a pattern (R149) -/

/-- A BLINK pattern is lit in the first part of its cycle. -/
theorem patternOutput_blink {p : Pattern} (on : 0 < p.onTime) (off : 0 < p.offTime) (k : Nat) :
    patternOutput k p = if (k - p.clock) % cycleLength p < p.onTime * 10 then .lit else .dark := by
  unfold patternOutput cycleLength
  rw [if_neg (Nat.ne_of_gt on), if_neg (Nat.ne_of_gt off)]

/-- The position in the cycle moves with the clock. -/
theorem position_add {p : Pattern} {now : Nat} (started : p.clock ≤ now) (d : Nat) :
    (now + d - p.clock) % cycleLength p = ((now - p.clock) % cycleLength p + d) % cycleLength p := by
  rw [Nat.mod_add_mod]
  congr 1
  omega

/-- The next turn is the first moment at which the output differs. -/
theorem nextTurn_first {p : Pattern} {now : Nat} (on : 0 < p.onTime) (off : 0 < p.offTime) (started : p.clock ≤ now) :
    now < nextTurn now p ∧ patternOutput (nextTurn now p) p ≠ patternOutput now p ∧
      ∀ k, now ≤ k → k < nextTurn now p → patternOutput k p = patternOutput now p := by
  have cycle : cycleLength p = p.onTime * 10 + p.offTime * 10 := Nat.add_mul _ _ _
  have inside : (now - p.clock) % cycleLength p < cycleLength p := Nat.mod_lt _ (by omega)
  have at' (d : Nat) := patternOutput_blink on off (now + d)
  simp only [position_add started] at at'
  have at0 := patternOutput_blink on off now
  unfold nextTurn
  generalize (now - p.clock) % cycleLength p = position at inside at' at0 ⊢
  dsimp only
  by_cases lit : position < p.onTime * 10
  · rw [if_pos lit] at at0 ⊢
    refine ⟨by omega, ?_, fun k low high => ?_⟩
    · rw [at', at0, Nat.mod_eq_of_lt (by omega), if_neg (by omega)]
      decide
    · obtain ⟨d, rfl⟩ := Nat.exists_eq_add_of_le low
      rw [at', at0, Nat.mod_eq_of_lt (by omega), if_pos (by omega)]
  · rw [if_neg lit] at at0 ⊢
    refine ⟨by omega, ?_, fun k low high => ?_⟩
    · rw [at', at0, Nat.add_sub_cancel' (Nat.le_of_lt inside), Nat.mod_self, if_pos (by omega)]
      decide
    · obtain ⟨d, rfl⟩ := Nat.exists_eq_add_of_le low
      rw [at', at0, Nat.mod_eq_of_lt (by omega), if_neg (by omega)]

theorem patternTurn_next {p : PatternNo} {s : State} (h : AtRest s) (on : 0 < s.light.patterns[p].onTime)
    (off : 0 < s.light.patterns[p].offTime) (later : s.now < nextTurn s.now s.light.patterns[p]) :
    exec (.patternTurn p) s = .next (drivePins { s with now := nextTurn s.now s.light.patterns[p] }) := by
  have blink : blinks s.light.patterns[p] = true := by
    unfold blinks
    rw [decide_eq_true (Nat.ne_of_gt on), decide_eq_true (Nat.ne_of_gt off)]; rfl
  have moment : turnMoment s.now s.light.patterns[p] = nextTurn s.now s.light.patterns[p] :=
    if_pos (((drivePins_eq_self_iff s).1 h.pins).2 p).symm
  have clock : advance (nextTurn s.now s.light.patterns[p]) s = { s with now := nextTurn s.now s.light.patterns[p] } := by
    unfold advance
    rw [Nat.max_eq_right (Nat.le_of_lt later)]
  change execPatternTurn p s = _
  unfold execPatternTurn
  rw [if_pos blink, moment, clock]
  exact congrArg _ (settle_of_lights h _ _)

/-! ### What the light pins show (R1, R3, R153, R155) -/

/-- A light pin in the words of R1 and R3. -/
theorem lightPin_shows (pol : Polarity) (drive : Drive) (dim : Bool) (v : Light) :
    (lightPin pol drive dim v).level = pinLevel pol (decide (v = .lit)) ∧
      (lightPin pol drive dim v).strength =
        if v = .dark then .fixed else if dim = true ∨ drive = .reduced then .reduced else .full := by
  cases v
  · exact ⟨rfl, rfl⟩
  · cases dim <;> cases drive <;> exact ⟨rfl, rfl⟩

/-- Settles O41: the timers of the lights move clock and lights alone, so the pins follow; a turn comes at the end of the
lit part of a cycle or of the cycle. -/
theorem lightsFollowTimersStateAndCauses : Obligations.LightsFollowTimersStateAndCauses := by
  refine ⟨fun b e s h => ⟨locateEnd_until h, locateEnd_forever, activityWindowEnd_open h⟩, fun p s h on off started => ?_,
    fun b s => ?_⟩
  · obtain ⟨later, turned, still⟩ := nextTurn_first on off started
    exact ⟨_, later, patternTurn_next h on off later, turned, still⟩
  · intro lit t u shows green amber
    have la (v : Light) (hv : laValue b s = v) : green v := by
      change _ ∧ _
      rw [drivePins_unit, ← hv]
      exact lightPin_shows _ _ _ _
    have lb (v : Light) (hv : lbValue b s = v) : amber v := by
      change _ ∧ _
      rw [drivePins_unit, ← hv]
      exact lightPin_shows _ _ _ _
    refine ⟨fun h => ⟨la _ ?_, lb _ ?_⟩, fun h => la _ ?_, fun h => la _ ?_, fun h => la _ ?_, fun h => lb _ ?_,
      fun hf ht => lb _ ?_⟩
    · unfold laValue greenShown; rw [h]; rfl
    · unfold lbValue amberShown; rw [h]; rfl
    · unfold laValue greenShown; rcases h with h | h | h <;> rw [h] <;> rfl
    · unfold laValue greenShown
      rw [h]
      change lightValue s _ (if u.window.isSome then _ else _) = _
      cases u.window <;> rfl
    · unfold laValue greenShown; rcases h with h | h | h | h <;> rw [h] <;> rfl
    · unfold lbValue amberShown; rw [h]; rfl
    · have selected : amberShown b s = if u.locate ≠ .absent then .cause .locate
          else if u.controllerFault then .cause .controllerFault
          else if u.predictedFault then .cause .predictedFault
          else if u.rebuild then .cause .rebuild else .dark := by
        unfold amberShown
        cases hx : s.bays[b].state <;> first | rfl | exact absurd hx hf | exact absurd hx ht
      unfold lbValue
      rw [selected]
      repeat' split
      all_goals rfl

end Sys2Proof.Machine

namespace Sys2Proof.Machine

/-! ### One admission (R25, R58, R61) -/

theorem upd_congr {α : Type} {n : Nat} (v : Vector α n) (i : Fin n) (f g : α → α) (h : f v[i] = g v[i]) :
    upd v i f = upd v i g := by
  unfold upd
  rw [h]

/-- The state after the admission of a bay that bears no charge, with a stagger setting. -/
theorem admitBay_of_free (b : Bay) (s : State) (free : s.power.charge[b] = 0) (staggers : 0 < s.power.staggerSetting) :
    admitBay b s =
      { s with
        bays := upd s.bays b (fun r =>
          { r with state := .starting, chargedClass := some r.cfgClass, activeZone := some r.cfgZone,
                   startTimer := some (s.now + 100 * s.power.classes[r.cfgClass].startWindow) })
        power := { s.power with
          stagger := some (s.now + 100 * s.power.staggerSetting)
          queue := dropEntry b s.power.queue
          charge := put s.power.charge b s.power.classes[s.bays[b].cfgClass].startDraw
          ocFilter := put s.power.ocFilter b
            (if s.power.ocIn[b] then .timing (s.now + s.power.ocSetting[b]) else .clear) } } := by
  have record := upd_congr s.bays b
    (fun r => { r with state := .starting, chargedClass := some r.cfgClass, activeZone := some r.cfgZone,
                       startTimer := some (s.now + 100 * (startClass b s).startWindow) })
    (fun r => { r with state := .starting, chargedClass := some r.cfgClass, activeZone := some r.cfgZone,
                       startTimer := some (s.now + 100 * s.power.classes[r.cfgClass].startWindow) }) rfl
  unfold admitBay
  dsimp only
  rw [setCharge_of_rise _ _ _ (by simp only [modBay_power]; exact free ▸ Nat.zero_le _), ← record]
  exact if_pos staggers

theorem attemptLoop_of_not_mayAdmit (n : Nat) (s : State) (h : mayAdmit s = false) : attemptLoop n s = s := by
  cases n with
  | zero => rfl
  | succ n => rw [attemptLoop, if_neg (by rw [h]; exact Bool.false_ne_true)]

theorem mayAdmit_of_stagger {s : State} {e : Nat} (h : s.power.stagger = some e) : mayAdmit s = false := by
  unfold mayAdmit
  rw [h]; rfl

/-- With a stagger setting, an attempt admits one bay: the stagger timer that its admission starts keeps the others out. -/
theorem attempt_admits {s : State} {b : Bay} (may : mayAdmit s = true) (first : walk s s.power.queue = some b)
    (free : s.power.charge[b] = 0) (staggers : 0 < s.power.staggerSetting) : attempt s = admitBay b s := by
  rw [attempt, attemptLoop, if_pos may, first]
  refine attemptLoop_of_not_mayAdmit _ _ (mayAdmit_of_stagger (e := s.now + 100 * s.power.staggerSetting) ?_)
  rw [admitBay_of_free b s free staggers]

/-- The walk stops at the first entry with an open zone (R57). -/
theorem walk_open {s : State} {before after : List QueueEntry} {x : QueueEntry}
    (blocked : ∀ y ∈ before, s.power.blocked[s.bays[y.bay].cfgZone] = true)
    (opened : s.power.blocked[s.bays[x.bay].cfgZone] = false) :
    walk s (before ++ x :: after) =
      if committed s + s.power.classes[s.bays[x.bay].cfgClass].startDraw ≤ s.power.live then some x.bay else none := by
  rw [walk_append s before _ blocked, walk, opened, if_neg Bool.false_ne_true]
  rfl

theorem walk_blocked {s : State} {q : List QueueEntry}
    (blocked : ∀ y ∈ q, s.power.blocked[s.bays[y.bay].cfgZone] = true) : walk s q = none := by
  have := walk_append s q [] blocked
  rwa [List.append_nil] at this

theorem dropEntry_split {before after : List QueueEntry} {x : QueueEntry}
    (once : ((before ++ x :: after).map QueueEntry.bay).Nodup) : dropEntry x.bay (before ++ x :: after) = before ++ after := by
  rw [List.map_append, List.map_cons, List.nodup_middle, List.nodup_cons, List.mem_append] at once
  have others (q : List QueueEntry) (h : x.bay ∉ q.map QueueEntry.bay) : dropEntry x.bay q = q :=
    List.filter_eq_self.2 fun e he => decide_eq_true fun k => h (k ▸ List.mem_map_of_mem he)
  have out := not_or.1 once.1
  unfold dropEntry at others ⊢
  rw [List.filter_append, List.filter_cons_of_neg (by simp), others before out.1, others after out.2]

/-! ### STAGGER_EXPIRY (R59) -/

/-- The state whose attempt a STAGGER_EXPIRY brings: the timer is stopped, at its end time. -/
def staggerOver (e : Nat) (s : State) : State :=
  { s with now := max s.now e, power := { s.power with stagger := none } }

theorem staggerExpiry_attempts {s : State} {e : Nat} (h : AtRest s) (he : s.power.stagger = some e) :
    exec .staggerExpiry s = .next (finish (attempt (staggerOver e s))) := by
  have calm : Calm (ask (staggerOver e s)) := h.calm_of_bays rfl rfl rfl rfl rfl rfl rfl rfl
  have clean : { ask (staggerOver e s) with power := { (ask (staggerOver e s)).power with attemptAsked := false } } =
      staggerOver e s := by
    unfold ask staggerOver
    rw [← h.asked]
  have settled := settle_eq_finish_attempt _ calm.reported.hot calm.reported.blocks rfl
  rw [clean] at settled
  change execStaggerExpiry s = _
  unfold execStaggerExpiry
  rw [he]
  exact congrArg _ settled

theorem staggerExpiry_admits {s : State} {e : Nat} {x : QueueEntry} {before after : List QueueEntry} (h : AtRest s)
    (hb : BaysConsistent s) (hk : BudgetKept s) (he : s.power.stagger = some e) (staggers : 0 < s.power.staggerSetting)
    (place : startingCount s < effectiveLimit s) (queue : s.power.queue = before ++ x :: after)
    (blocked : ∀ y ∈ before, s.power.blocked[s.bays[y.bay].cfgZone] = true)
    (opened : s.power.blocked[s.bays[x.bay].cfgZone] = false)
    (fits : committed s + s.power.classes[s.bays[x.bay].cfgClass].startDraw ≤ s.power.live) :
    exec .staggerExpiry s = .next (drivePins
      { s with
        now := max s.now e
        bays := upd s.bays x.bay (fun r =>
          { r with state := .starting, chargedClass := some r.cfgClass, activeZone := some r.cfgZone,
                   startTimer := some (max s.now e + 100 * s.power.classes[r.cfgClass].startWindow) })
        power := { s.power with
          stagger := some (max s.now e + 100 * s.power.staggerSetting)
          queue := before ++ after
          charge := put s.power.charge x.bay s.power.classes[s.bays[x.bay].cfgClass].startDraw
          ocFilter := put s.power.ocFilter x.bay
            (if s.power.ocIn[x.bay] then .timing (max s.now e + s.power.ocSetting[x.bay]) else .clear) } }) := by
  have member : x.bay ∈ s.power.queue.map QueueEntry.bay := by rw [queue]; simp
  have waiting : s.bays[x.bay].state = .queued := (hb.queue.member x.bay).1 member
  have free : s.power.charge[x.bay] = 0 := hk.unpowered x.bay (by rw [waiting]; rfl)
  have may : mayAdmit (staggerOver e s) = true := decide_eq_true place
  have first : walk (staggerOver e s) (staggerOver e s).power.queue = some x.bay := by
    change walk (staggerOver e s) s.power.queue = _
    rw [queue, walk_open (s := staggerOver e s) blocked opened]
    exact if_pos fits
  have left : dropEntry x.bay s.power.queue = before ++ after := by
    rw [queue]; exact dropEntry_split (queue ▸ hb.queue.once)
  have admitted := admitBay_of_free x.bay (staggerOver e s) free staggers
  rw [staggerExpiry_attempts h he, attempt_admits may first free staggers, ← left]
  have touched (b : Bay) := admitBay_atMostAdmitted x.bay b (staggerOver e s) waiting
  have faults (b : Bay) : (admitBay x.bay (staggerOver e s)).bays[b].state = .faulted ↔ s.bays[b].state = .faulted := by
    rcases touched b with ⟨record, -⟩ | ⟨queued, ⟨_, record⟩, -⟩
    · rw [record, show (staggerOver e s).bays[b] = s.bays[b] from rfl]
    · rw [record, show s.bays[b].state = .queued from queued]; exact iff_of_false BayState.noConfusion (by decide)
  have calm : Calm (admitBay x.bay (staggerOver e s)) := h.calm (by rw [admitBay_therm]; rfl) (by rw [admitBay_cool]; rfl)
    (by rw [(admitBay_powerKept _ _).2.2.2.1]; rfl) (by rw [admitted]; rfl) (by rw [admitBay_fwd]; rfl)
    (by rw [admitBay_route]; rfl) (by rw [admitBay_mgmt]; rfl) (fun b => (touched b).readingKept) faults
  rw [calm.finish, admitted]
  rfl

/-- An attempt that admits no bay. -/
theorem staggerExpiry_idle {s : State} {e : Nat} (h : AtRest s) (he : s.power.stagger = some e)
    (none : attempt (staggerOver e s) = staggerOver e s) :
    exec .staggerExpiry s = .next (drivePins (staggerOver e s)) := by
  have calm : Calm (staggerOver e s) := h.calm_of_bays rfl rfl rfl rfl rfl rfl rfl rfl
  rw [staggerExpiry_attempts h he, none, calm.finish]

theorem attempt_of_no_first {s : State} (h : walk s s.power.queue = none) : attempt s = s := by
  rw [attempt, attemptLoop]
  split
  · rw [h]
  · rfl

/-- Settles O26: the attempt admits the first entry with an open zone, and its stagger timer ends it; or it finds no place,
no open zone or no budget. -/
theorem staggerExpiryBringsOneAttempt : Obligations.StaggerExpiryBringsOneAttempt := by
  refine ⟨fun s e x before after h hb hk he staggers place queue blocked opened fits =>
    staggerExpiry_admits h hb hk he staggers place queue blocked opened fits, fun s e h he stays => ?_⟩
  refine staggerExpiry_idle h he ?_
  rcases stays with full | blocked | ⟨before, x, after, queue, blocked, opened, tight⟩
  · exact attempt_of_not_mayAdmit _ (decide_eq_false (Nat.not_lt.2 full))
  · exact attempt_of_no_first (walk_blocked (s := staggerOver e s) blocked)
  · refine attempt_of_no_first ?_
    change walk (staggerOver e s) s.power.queue = _
    rw [queue, walk_open (s := staggerOver e s) blocked opened]
    exact if_neg (Nat.not_le.2 tight)

end Sys2Proof.Machine

namespace Sys2Proof.Machine

/-! ### Power-on reset, block by block -/

theorem defaultZone_val (b : Bay) : (defaultZone b).val = b.val / 4 := by revert b; decide

theorem defaultFanZone_val (m : FanModule) : (defaultFanZone m).val = m.val / 2 := by revert m; decide

theorem strappedCeiling_eq (bud : BitVec 2) : strappedCeiling bud = [600, 900, 1200, 1800].getD bud.toNat 0 := by
  revert bud; decide

/-- The record of a bay after the scan (R12, R20). -/
theorem bayRecord_reset (b : Bay) (d : PrsDrive) : BayRecord.reset b d =
    { state := if d = .low then .seating else .empty, policy := .auto, cfgClass := 1, cfgZone := defaultZone b
      chargedClass := none, activeZone := none, retriesSetting := 1, retriesLeft := 0, fault := none, hold := none
      driveAddr := none, declClass := none, profile := none, identity := none, prior := none, ocProt := true
      otProt := true, startTimer := none, cycleTimer := none, ocTrip := false, otTrip := false } := by
  cases d <;> rfl

/-- The line unit of a bay after the scan (R1, R12, R14). -/
theorem lineUnit_reset (now : Nat) (prs : Vector PrsDrive 16) (b : Bay) : (LineBlock.reset now prs).bays[b] =
    { record := ⟨.low, .activeHigh, .activeHigh, .full, .activeHigh, .full⟩, prsIn := prs[b]
      presence := if prs[b] = .low then .present else .absent, debounce := none
      inGroup := decide (prs[b] = .low), preloadLA := .dark, preloadLB := .dark, edges := 0, pwrPin := .low
      laPin := ⟨.low, .fixed⟩, lbPin := ⟨.low, .fixed⟩ } := by
  unfold LineBlock.reset
  rw [getElem_tab]
  cases prs[b] <;> rfl

/-- The scan starts the group timer when it finds a drive (R12). -/
theorem groupTimer_reset (now : Nat) (prs : Vector PrsDrive 16) : (LineBlock.reset now prs).groupTimer =
    if ∃ b : Bay, prs[b] = .low then some (now + 500) else none := by
  have found (d : PrsDrive) : decide (scanPresence d = .present) = decide (d = .low) := by cases d <;> rfl
  have any := any_toList_iff prs fun d => decide (d = .low)
  simp only [decide_eq_true_eq] at any
  unfold LineBlock.reset
  simp only [found]
  by_cases h : ∃ b : Bay, prs[b] = .low
  · rw [if_pos h, if_pos (any.2 h)]
  · rw [if_neg h, if_neg fun k => h (any.1 k)]

theorem lightPatterns_reset (now : Nat) : (LightBlock.reset now).patterns.toList.map (fun p => (p.onTime, p.offTime, p.clock)) =
    [(0, 0, now), (1, 0, now), (5, 5, now), (50, 50, now), (25, 25, now), (10, 90, now), (100, 100, now), (0, 0, now)] := rfl

/-- Settles O2: each block's reset value is read off its own definition. -/
theorem powerOnSetsEveryBlock : Obligations.PowerOnSetsEveryBlock := by
  intro pins s
  refine ⟨State.powerOn s.now pins s.pending, rfl, rfl, rfl, rfl,
    fun b => ⟨⟨defaultZone b, defaultZone_val b, (powerOn_bays _ _ _ b).trans (bayRecord_reset b _)⟩,
      lineUnit_reset _ _ b, getElem_tab _ b, getElem_tab _ b, getElem_tab _ b, rfl, getElem_tab _ b, getElem_tab _ b,
      fun k => ?latches, getElem_tab _ b⟩,
    groupTimer_reset _ _, rfl, strappedCeiling_eq _, rfl, rfl, rfl, rfl, rfl, rfl, rfl,
    fun p => ⟨getElem_tab _ _, getElem_tab _ _, getElem_tab _ _, getElem_tab _ _, getElem_tab _ _⟩,
    fun p => ⟨getElem_tab _ _, getElem_tab _ _, getElem_tab _ _, fun k => ?counters⟩,
    fun i => getElem_tab _ i, rfl, fun i => getElem_tab _ i,
    fun n => ⟨n, rfl, getElem_tab _ n⟩, rfl, rfl, rfl, rfl,
    fun z => ⟨getElem_tab _ z, getElem_tab _ z, getElem_tab _ z⟩,
    fun m => ⟨defaultFanZone m, defaultFanZone_val m, getElem_tab _ m⟩,
    rfl, rfl, rfl, rfl, rfl, lightPatterns_reset _, rfl, rfl, rfl, rfl, rfl, rfl,
    fun k => getElem_tab _ _, fun x m => ?sets, rfl, rfl, rfl⟩
  case latches =>
    simp only [State.powerOn, EventBlock.reset, getElem_tab]
  case counters =>
    simp only [State.powerOn, ForwardBlock.reset, getElem_tab]
  case sets =>
    simp only [State.powerOn, EventBlock.reset, getElem_tab]

end Sys2Proof.Machine

namespace Sys2Proof.Machine

/-! ### Presence edges -/

theorem presenceOf_driveOf (x : Level) : presenceOf x (driveOf x) = .present := by cases x <;> rfl
theorem presenceOf_released (x : Level) : presenceOf x .released = .absent := by cases x <;> rfl

/-- A pin that gives the presence that is kept is no edge. -/
theorem judgePresence_same {b : Bay} {s : State}
    (h : presenceOf s.line.bays[b].record.prsActive s.line.bays[b].prsIn = s.line.bays[b].presence) : judgePresence b s = s :=
  if_pos h

/-- A pin that gives another presence is an edge (R2, R7). -/
theorem judgePresence_edge {b : Bay} {s : State} {x : Presence}
    (h : presenceOf s.line.bays[b].record.prsActive s.line.bays[b].prsIn = x) (change : s.line.bays[b].presence ≠ x) :
    judgePresence b s = presenceEdge b (modLine b (fun u => { u with presence := x }) s) := by
  subst h
  exact if_neg fun k => change k.symm

theorem modLine_modLine (b : Bay) (f g : LineUnit → LineUnit) (s : State) :
    modLine b g (modLine b f s) = modLine b (fun u => g (f u)) s := by
  simp only [modLine, upd_upd]

theorem modLine_congr (b : Bay) (f g : LineUnit → LineUnit) (s : State) (h : f s.line.bays[b] = g s.line.bays[b]) :
    modLine b f s = modLine b g s := by
  unfold modLine
  rw [upd_congr _ _ _ _ h]

theorem modLine_modBay (b c : Bay) (f : LineUnit → LineUnit) (g : BayRecord → BayRecord) (s : State) :
    modLine b f (modBay c g s) = modBay c g (modLine b f s) := rfl

theorem presenceAsserted_still {b : Bay} {s : State} (h : s.line.bays[b].presence = .present) :
    setConnector b (driveOf s.line.bays[b].record.prsActive) s =
      modLine b (fun u => { u with prsIn := driveOf u.record.prsActive }) s := by
  unfold setConnector
  rw [judgePresence_same (by rw [modLine_lines, getElem_upd_same]; exact (presenceOf_driveOf _).trans h.symm)]
  exact modLine_congr b _ _ s rfl

theorem presenceAsserted_edge {b : Bay} {s : State} (h : s.line.bays[b].presence = .absent) :
    setConnector b (driveOf s.line.bays[b].record.prsActive) s = presenceEdge b
      (modLine b (fun u => { u with prsIn := driveOf u.record.prsActive, presence := .present }) s) := by
  unfold setConnector
  rw [judgePresence_edge (x := .present) (by rw [modLine_lines, getElem_upd_same]; exact presenceOf_driveOf _)
    (by rw [modLine_lines, getElem_upd_same]; exact fun k => nomatch h.symm.trans k), modLine_modLine]
  exact congrArg _ (modLine_congr b _ _ s rfl)

theorem presenceLost_edge {b : Bay} {s : State} (h : s.line.bays[b].presence = .present) :
    setConnector b .released s =
      presenceEdge b (modLine b (fun u => { u with prsIn := .released, presence := .absent }) s) := by
  unfold setConnector
  rw [judgePresence_edge (x := .absent) (by rw [modLine_lines, getElem_upd_same]; exact presenceOf_released _)
    (by rw [modLine_lines, getElem_upd_same]; exact fun k => nomatch h.symm.trans k), modLine_modLine]

theorem presenceEdge_test {b : Bay} {s : State} (h : s.bays[b].state = .test) :
    presenceEdge b s = modLine b (fun u => { u with edges := min 255 (u.edges + 1) }) s := by
  unfold presenceEdge
  rw [h]

theorem presenceEdge_inserted {b : Bay} {s : State} (h : s.bays[b].state = .empty)
    (hp : s.line.bays[b].presence = .present) : presenceEdge b s = startSeating b s := by
  unfold presenceEdge
  rw [h, hp]

theorem presenceEdge_unseat {b : Bay} {s : State} (h : s.bays[b].state = .seating)
    (hp : s.line.bays[b].presence = .absent) : presenceEdge b s = unseat b s := by
  unfold presenceEdge
  rw [h, hp]

/-- Seating starts by ending the bay's seating timers, so what they were does not matter. -/
theorem seat_congr {b : Bay} {s t : State} (h : modLine b unitSeated s = modLine b unitSeated t) : seat b s = seat b t := by
  have by_unit (u : State) : seat b u = match (modLine b unitSeated u).bays[b].policy with
      | .auto => latchBay b .inserted (enqueueFresh b .normal (modLine b unitSeated u))
      | .manual => latchBay b .inserted
          (modBay b (fun r => { r with state := .off, hold := none }) (modLine b unitSeated u)) := rfl
  rw [by_unit, by_unit, h]

theorem seat_modLine_congr (b : Bay) (f g : LineUnit → LineUnit) (r : BayRecord → BayRecord) (s : State)
    (h : unitSeated (f s.line.bays[b]) = unitSeated (g s.line.bays[b])) :
    seat b (modBay b r (modLine b f s)) = seat b (modBay b r (modLine b g s)) := by
  refine seat_congr ?_
  rw [modLine_modBay, modLine_modBay, modLine_modLine, modLine_modLine]
  exact congrArg (modBay b r) (modLine_congr b _ _ s h)

/-! ### Steps whose settling changes nothing -/

/-- Pins stay driven where neither the unit's pins, record and preloads nor what its lights show changes. -/
theorem driven_congr {s t : State} {b : Bay} (now : t.now = s.now) (light : t.light = s.light)
    (green : greenShown b t = greenShown b s) (amber : amberShown b t = amberShown b s) (power : enabled b t = enabled b s)
    (unit : t.line.bays[b] = { s.line.bays[b] with
      prsIn := t.line.bays[b].prsIn, presence := t.line.bays[b].presence, debounce := t.line.bays[b].debounce
      inGroup := t.line.bays[b].inGroup, edges := t.line.bays[b].edges })
    (h : (s.line.bays[b]).Driven b s) : (t.line.bays[b]).Driven b t := by
  have value (pre : Light) (x : Shown) : lightValue t pre x = lightValue s pre x := by
    simp only [lightValue, now, light]
  unfold LineUnit.Driven laValue lbValue at h ⊢
  rw [green, amber, power, value, value, unit, light]
  exact h

/-- What a bay's lights show and whether it has power turn on its state: EMPTY and SEATING are dark alike. -/
theorem shown_of_dark {s t : State} {b : Bay} (light : t.light = s.light)
    (hs : s.bays[b].state = .empty ∨ s.bays[b].state = .seating) (ht : t.bays[b].state = .empty ∨ t.bays[b].state = .seating) :
    greenShown b t = greenShown b s ∧ amberShown b t = amberShown b s ∧ enabled b t = enabled b s := by
  unfold greenShown amberShown enabled
  rw [light]
  rcases hs with hs | hs <;> rcases ht with ht | ht <;> rw [hs, ht] <;> exact ⟨rfl, rfl, rfl⟩

theorem shown_of_bay {s t : State} {b : Bay} (light : t.light = s.light) (h : t.bays[b] = s.bays[b]) :
    greenShown b t = greenShown b s ∧ amberShown b t = amberShown b s ∧ enabled b t = enabled b s := by
  unfold greenShown amberShown enabled
  rw [light, h]
  exact ⟨rfl, rfl, rfl⟩

/-- A bay between EMPTY and SEATING, or left as it is. -/
def Seats (b : Bay) (s t : State) : Prop := t.bays[b] = s.bays[b] ∨
  (s.bays[b].state = .empty ∨ s.bays[b].state = .seating) ∧ (t.bays[b].state = .empty ∨ t.bays[b].state = .seating)

/-- A change of lines and of seating states alone leaves nothing to do for the step. -/
theorem settle_of_seats {s : State} (h : AtRest s) (l : LineBlock) (r : Vector BayRecord 16)
    (bays : ∀ b, Seats b s { s with line := l, bays := r })
    (units : ∀ b : Bay, l.bays[b] = { s.line.bays[b] with
      prsIn := l.bays[b].prsIn, presence := l.bays[b].presence, debounce := l.bays[b].debounce
      inGroup := l.bays[b].inGroup, edges := l.bays[b].edges }) :
    settle { s with line := l, bays := r } = { s with line := l, bays := r } := by
  have calm : Calm { s with line := l, bays := r } := by
    refine h.calm rfl rfl rfl rfl rfl rfl rfl (fun b => ?_) fun b => ?_
    · rcases bays b with same | ⟨hs, ht⟩
      · exact .inl same
      · refine .inr ⟨?_, ?_⟩
        · rcases hs with hs | hs <;> rw [hs] <;> decide
        · rcases ht with ht | ht <;> rw [ht] <;> decide
    · rcases bays b with same | ⟨hs, ht⟩
      · rw [same]
      · rcases hs with hs | hs <;> rcases ht with ht | ht <;> rw [hs, ht] <;> decide
  rw [calm.settle h.asked]
  obtain ⟨lines, patterns⟩ := (drivePins_eq_self_iff s).1 h.pins
  refine (drivePins_eq_self_iff _).2 ⟨fun b => ?_, patterns⟩
  obtain ⟨green, amber, power⟩ := (bays b).elim (shown_of_bay rfl) fun k => shown_of_dark rfl k.1 k.2
  exact driven_congr (s := s) rfl rfl green amber power (units b) (lines b)

/-- A unit after a change of its presence, timers or edges. -/
theorem units_upd {v : Vector LineUnit 16} {b : Bay} {f : LineUnit → LineUnit}
    (hf : ∀ u, f u = { u with prsIn := (f u).prsIn, presence := (f u).presence, debounce := (f u).debounce
                              inGroup := (f u).inGroup, edges := (f u).edges }) (c : Bay) :
    (upd v b f)[c] = { v[c] with
      prsIn := (upd v b f)[c].prsIn, presence := (upd v b f)[c].presence, debounce := (upd v b f)[c].debounce
      inGroup := (upd v b f)[c].inGroup, edges := (upd v b f)[c].edges } := by
  rw [getElem_upd]
  split
  · next e => rw [e]; exact hf _
  · rfl

theorem settle_of_line {s : State} (h : AtRest s) (b : Bay) (f : LineUnit → LineUnit)
    (hf : ∀ u, f u = { u with prsIn := (f u).prsIn, presence := (f u).presence, debounce := (f u).debounce
                              inGroup := (f u).inGroup, edges := (f u).edges }) :
    settle (modLine b f s) = modLine b f s :=
  settle_of_seats h { s.line with bays := upd s.line.bays b f } s.bays (fun _ => .inl rfl) (units_upd hf)

theorem seats_upd {s : State} {b : Bay} {x : BayState} {l : LineBlock} (hs : s.bays[b].state = .empty ∨ s.bays[b].state = .seating)
    (hx : x = .empty ∨ x = .seating) (c : Bay) :
    Seats c s { s with line := l, bays := upd s.bays b (fun r => { r with state := x }) } := by
  unfold Seats
  dsimp only
  rw [getElem_upd]
  split
  · next e => exact .inr ⟨e ▸ hs, hx⟩
  · exact .inl rfl

/-! ### The edges of an insertion and of a loss in SEATING -/

theorem presenceAsserted_seats {b : Bay} {s : State} (h : AtRest s) (hx : s.bays[b].state = .empty)
    (hp : s.line.bays[b].presence = .absent) (hd : 0 < s.line.debounceSetting) :
    exec (.presenceAsserted b) s = .next
      { s with
        bays := upd s.bays b (fun r => { r with state := .seating })
        line := { s.line with bays := upd s.line.bays b (fun u =>
          { u with prsIn := driveOf u.record.prsActive, presence := .present,
                   debounce := some (s.now + 100 * s.line.debounceSetting) }) } } := by
  change Host.Outcome.next _ = _
  rw [presenceAsserted_edge hp, presenceEdge_inserted (s := modLine b _ s) hx (by rw [modLine_lines, getElem_upd_same]),
    startSeating_of_pos b (modLine b _ s) hd]
  unfold setState
  rw [modLine_modBay, modLine_modLine]
  exact congrArg _ (settle_of_seats h _ _ (seats_upd (.inl hx) (.inr rfl)) (units_upd fun _ => rfl))

theorem presenceAsserted_seated {b : Bay} {s : State} (hx : s.bays[b].state = .empty)
    (hp : s.line.bays[b].presence = .absent) (hd : s.line.debounceSetting = 0) :
    exec (.presenceAsserted b) s = exec (.seatingExpired b)
      { s with
        bays := upd s.bays b (fun r => { r with state := .seating })
        line := { s.line with bays := upd s.line.bays b (fun u =>
          { u with prsIn := driveOf u.record.prsActive, presence := .present, debounce := some s.now }) } } := by
  have right (u : State) (x : u.bays[b].state = .seating) (d : u.line.bays[b].debounce = some u.now) :
      exec (.seatingExpired b) u = .next (settle (seat b u)) := by
    change execSeatingExpired b u = _
    unfold execSeatingExpired
    rw [x, d]
    unfold advance
    dsimp only
    rw [Nat.max_self]
  rw [right _ (by rw [getElem_upd_same]) (by rw [getElem_upd_same])]
  change Host.Outcome.next _ = _
  rw [presenceAsserted_edge hp, presenceEdge_inserted (s := modLine b _ s) hx (by rw [modLine_lines, getElem_upd_same]),
    startSeating_of_zero b (modLine b _ s) hd]
  exact congrArg (fun u => Host.Outcome.next (settle u)) (seat_modLine_congr b _ _ (fun r => { r with state := .seating }) s rfl)

theorem presenceLost_unseats {b : Bay} {s : State} (h : AtRest s) (hp : s.line.bays[b].presence = .present)
    (hx : s.bays[b].state = .seating) :
    exec (.presenceLost b) s = .next
      { s with
        bays := upd s.bays b (fun r => { r with state := .empty })
        line := { s.line with
          bays := upd s.line.bays b (fun u =>
            { u with prsIn := .released, presence := .absent, debounce := none, inGroup := false })
          groupTimer := if ∃ c : Bay, c ≠ b ∧ s.line.bays[c].inGroup = true then s.line.groupTimer else none } } := by
  change Host.Outcome.next _ = _
  rw [presenceLost_edge hp, presenceEdge_unseat (s := modLine b _ s) hx (by rw [modLine_lines, getElem_upd_same])]
  unfold unseat setState
  rw [modLine_modBay, modLine_modLine, cancelEmptyGroup_eq]
  have members : (∃ c : Bay, (upd s.line.bays b fun u =>
      { u with prsIn := PrsDrive.released, presence := Presence.absent, debounce := none, inGroup := false })[c].inGroup = true) ↔
      ∃ c : Bay, c ≠ b ∧ s.line.bays[c].inGroup = true := by
    refine exists_congr fun c => ?_
    rw [getElem_upd]
    split
    · next e => simp [e]
    · next e => simp [e]
  have timer (a c : Option Nat) := if_congr members (rfl : a = a) (rfl : c = c)
  refine Eq.trans ?_ (congrArg Host.Outcome.next (settle_of_seats h _ _ (seats_upd (.inr hx) (.inl rfl))
    (units_upd fun _ => rfl)))
  rw [← timer]
  rfl

/-- Settles O21: an edge in EMPTY, SEATING or TEST changes seating state, timers and edge count, none of which the pins or
the reports turn on. -/
theorem presenceEdgesStartAndStopSeating : Obligations.PresenceEdgesStartAndStopSeating := by
  refine ⟨fun b s h => ⟨presenceAsserted_seats h, presenceAsserted_seated, fun hx hp => ?_, fun hp => ?_⟩,
    fun b s h hp => ⟨presenceLost_unseats h hp, fun hx => ?_⟩⟩
  · change Host.Outcome.next _ = _
    rw [presenceAsserted_edge hp, presenceEdge_test (s := modLine b _ s) hx, modLine_modLine]
    exact congrArg _ (settle_of_line h b _ fun _ => rfl)
  · change Host.Outcome.next _ = _
    rw [presenceAsserted_still hp]
    exact congrArg _ (settle_of_line h b _ fun _ => rfl)
  · change Host.Outcome.next _ = _
    rw [presenceLost_edge hp, presenceEdge_test (s := modLine b _ s) hx, modLine_modLine]
    exact congrArg _ (settle_of_line h b _ fun _ => rfl)

end Sys2Proof.Machine

namespace Sys2Proof.Machine

/-! ### Requests that bring no attempt -/

/-- A request is served only while the endpoint holds no response (R163). -/
theorem nextRequest_free {s : State} {x : UpPort × Frame} (h : nextRequest s = some x) : s.mgmt.held = none := by
  unfold nextRequest at h
  split at h
  · next ready =>
    unfold Machine.ready at ready
    exact Option.isNone_iff_eq_none.1 (Bool.and_eq_true_iff.1 ready).1
  · cases h

/-- What a request may leave behind when it brings no attempt: reports taken, nothing owed, no notice that could go, and
an endpoint that holds no response. -/
structure Waits (s : State) : Prop where
  reported : Reported s
  asked : s.power.attemptAsked = false
  notices : NoticesReleased s
  free : s.mgmt.held = none

/-- A response makes no notice releasable. -/
theorem offerResponse_notices {p : UpPort} {h : Held} {s : State} (released : NoticesReleased s) (free : s.mgmt.held = none) :
    NoticesReleased (offerResponse p h s) := fun q => by
  have before := released q
  rw [← Bool.not_eq_true, releasable_iff] at before ⊢
  rintro ⟨notices, learned, room, unheld⟩
  rw [offerResponse_ev] at notices
  rw [offerResponse_route] at learned
  have freeFor : holdsFor q s = false := by unfold holdsFor; rw [free]
  unfold offerResponse at room unheld
  by_cases hp : priorityRoom p s = true
  · rw [if_pos hp] at room
    refine before ⟨notices, learned, ?_, freeFor⟩
    by_cases e : q = p
    · subst e
      exact hp
    · unfold priorityRoom at room ⊢
      rwa [pushPriority_up, getElem_upd_ne _ _ (upIdx_ne e)] at room
  · rw [if_neg hp] at room unheld
    by_cases e : q = p
    · subst e
      simp [holdsFor] at unheld
    · exact before ⟨notices, learned, room, freeFor⟩

theorem Waits.answered {s : State} (h : Waits s) (p : UpPort) (req : Frame) (r : Result) (data : List Word) :
    settle (answered p req r data s) = drivePins (driveAlert (answered p req r data s)) := by
  have reported : Reported (Machine.answered p req r data s) :=
    h.reported.of_kept (answered_therm _ _ _ _ s) (answered_cool _ _ _ _ s) (by rw [answered_power])
      fun b => .inl (by rw [answered_bays])
  rw [settle_eq_finish _ reported.hot reported.blocks (by rw [answered_power]; exact h.asked)]
  exact finish_of_released _ (offerResponse_notices h.notices h.free)

/-- A request whose effect leaves nothing to do is answered, and the ALERT line and the pins follow. -/
theorem Waits.served {code : BitVec 16} {n : Nat} {p : UpPort} {req : Frame} {s u : State} {r : Reply}
    {body : UpPort → Frame → State → State × Reply} (h : Waits u) (serves : Serves code n p req s)
    (effect : body p req (takeRequest p s) = (u, r)) :
    serveCode code n body s = .next (drivePins (driveAlert (Machine.answered p req r.result r.data u))) := by
  rw [serveCode_of_serves body serves, effect, respond_of_not_releasable _ _ _ _ (h.notices p), h.answered]

theorem answered_driveAlert {p : UpPort} {req : Frame} {r : Result} {data : List Word} {s : State}
    (h : driveAlert s = s) : driveAlert (answered p req r data s) = answered p req r data s := by
  rw [driveAlert_eq_self_iff] at h ⊢
  rw [alertCondition_congr (answered_bays _ _ _ _ s) (answered_cool _ _ _ _ s), answered_ev, h]

theorem answered_drivePins (p : UpPort) (req : Frame) (r : Result) (data : List Word) (s : State) :
    drivePins (answered p req r data s) = answered p req r data (drivePins s) := by
  have room : priorityRoom p (drivePins s) = priorityRoom p s := rfl
  unfold answered offerResponse
  rw [room]
  split <;> rfl

theorem AtRest.waits {s u : State} (h : AtRest s) {x : UpPort × Frame} (next : nextRequest s = some x)
    (therm : u.therm = s.therm) (cool : u.cool = s.cool) (power : u.power = s.power) (ev : u.ev = s.ev)
    (up : u.fwd.up = s.fwd.up) (route : u.route = s.route) (held : u.mgmt.held = s.mgmt.held)
    (bays : ∀ b, ReadingKept b s u) : Waits u where
  reported := h.reported.of_kept therm cool (congrArg PowerBlock.blocked power) bays
  asked := (congrArg PowerBlock.attemptAsked power).trans h.asked
  notices := noticesReleased_congr h.notices ev up route held
  free := held.trans (nextRequest_free next)

/-- The state with another line interface. -/
def withLine (l : LineBlock) (s : State) : State := { s with line := l }

/-- A request that changes the line interface alone. -/
theorem served_lines {code : BitVec 16} {n : Nat} {p : UpPort} {req : Frame} {s : State} {r : Result} {data : List Word}
    {body : UpPort → Frame → State → State × Reply} {l : LineBlock} (h : AtRest s) (serves : Serves code n p req s)
    (effect : body p req (takeRequest p s) = (withLine l (takeRequest p s), ⟨r, data⟩)) :
    serveCode code n body s = .next (drivePins (answered p req r data (withLine l (takeRequest p s)))) := by
  have waits : Waits (withLine l (takeRequest p s)) :=
    h.waits serves.next rfl rfl rfl rfl rfl rfl rfl fun _ => .inl rfl
  have still : driveAlert (withLine l (takeRequest p s)) = withLine l (takeRequest p s) :=
    (driveAlert_eq_self_iff _).2 ((driveAlert_eq_self_iff s).1 h.alert)
  rw [waits.served serves effect, answered_driveAlert still]

/-! ### SET_BAY_LINES without an edge, LINE_PRELOAD, LINE_SAMPLE, SET_SEATING -/

theorem any_allBays_iff (p : Bay → Bool) : allBays.any p = true ↔ ∃ b, p b = true := by
  rw [List.any_eq_true]
  exact ⟨fun ⟨b, _, h⟩ => ⟨b, h⟩, fun ⟨b, h⟩ => ⟨b, mem_allBays b, h⟩⟩

theorem refusal_eq (p : Bay → Bool) (x y : Result) :
    (if allBays.any p then x else y) = if ∃ b : Bay, p b = true then x else y :=
  if_congr (any_allBays_iff p) rfl rfl

/-- Entries changed one by one are changed together. -/
theorem tab_upd_cons {α : Type} {n : Nat} (v : Vector α n) (b : Fin n) (l : List (Fin n)) (hb : b ∉ l) (f : α → α) :
    tab (fun c => if decide (c ∈ l) then f (upd v b f)[c] else (upd v b f)[c]) =
      tab (fun c => if decide (c ∈ b :: l) then f v[c] else v[c]) := by
  refine congrArg tab (funext fun c => ?_)
  simp only [decide_eq_true_eq, List.mem_cons]
  by_cases h : c = b
  · subst h
    rw [getElem_upd_same, if_neg hb, if_pos (.inl rfl)]
  · rw [getElem_upd_ne _ _ h]
    exact if_congr (by simp [h]) rfl rfl

theorem tab_nil {α : Type} {n : Nat} (v : Vector α n) (f : α → α) :
    tab (fun c => if decide (c ∈ ([] : List (Fin n))) then f v[c] else v[c]) = v :=
  tab_ext fun c => by rw [getElem_tab]; simp

theorem modLines_cons (b : Bay) (l : List Bay) (hb : b ∉ l) (f : LineUnit → LineUnit) (s : State) :
    modLines (fun c => decide (c ∈ l)) f (modLine b f s) = modLines (fun c => decide (c ∈ b :: l)) f s := by
  unfold modLines
  rw [modLine_lines, tab_upd_cons s.line.bays b l hb f]
  rfl

theorem modLines_nil (f : LineUnit → LineUnit) (s : State) : modLines (fun c => decide (c ∈ ([] : List Bay))) f s = s := by
  unfold modLines
  rw [tab_nil]

/-- Records written to bays whose presence stays: no edge follows, and the units take the record (R6). -/
theorem writeLines_same (rec : LineRecord) (l : List Bay) (nodup : l.Nodup) (s : State)
    (h : ∀ b ∈ l, presenceOf rec.prsActive s.line.bays[b].prsIn = s.line.bays[b].presence) :
    l.foldl (fun s b => writeLines rec b s) s = modLines (fun c => decide (c ∈ l)) (fun u => { u with record := rec }) s := by
  induction l generalizing s with
  | nil => exact (modLines_nil _ s).symm
  | cons b l ih =>
    obtain ⟨hb, hl⟩ := List.nodup_cons.1 nodup
    have written : writeLines rec b s = modLine b (fun u => { u with record := rec }) s :=
      judgePresence_same (by rw [modLine_lines, getElem_upd_same]; exact h b (by simp))
    rw [List.foldl_cons, written, ih hl, modLines_cons b l hb]
    intro c hc
    have ne : c ≠ b := fun e => hb (e ▸ hc)
    rw [modLine_lines, getElem_upd_ne _ _ ne]
    exact h c (List.mem_cons_of_mem b hc)

theorem mem_taken (bset : Word) (refused : Bay → Bool) (b : Bay) :
    decide (b ∈ (baysOf bset).filter fun b => !refused b) = (inSet bset b && !refused b) := by
  rw [Bool.eq_iff_iff, decide_eq_true_eq, List.mem_filter, baysOf, List.mem_filter, Bool.and_eq_true]
  exact ⟨fun h => ⟨h.1.2, h.2⟩, fun h => ⟨⟨mem_allBays b, h.1⟩, h.2⟩⟩

theorem taken_nodup (bset : Word) (refused : Bay → Bool) : ((baysOf bset).filter fun b => !refused b).Nodup :=
  (allBays_nodup.filter _).filter _

/-- The effect and the answer of SET_BAY_LINES, for a record in its lists and a set that is not empty. -/
theorem setBayLines_eq {p : UpPort} {req : Frame} {rec : LineRecord} (s : State) (hr : lineRecordArg req = some rec)
    (he : emptySet (arg req 0) = false) : setBayLines p req s =
      ((((baysOf (arg req 0)).filter fun b => !(inSet (arg req 0) b && refusesLines s rec b)).foldl
        (fun s b => writeLines rec b s) s),
        ⟨if ∃ b : Bay, (inSet (arg req 0) b && refusesLines s rec b) = true then .refusedState else .ok,
          [wBays fun b => inSet (arg req 0) b && refusesLines s rec b]⟩) := by
  unfold setBayLines
  rw [hr]
  dsimp only
  rw [if_neg (by rw [he]; exact Bool.false_ne_true), refusal_eq]

theorem linePreload_eq {p : UpPort} {req : Frame} {la lb : Bool} (s : State) (ha : twoValued (arg req 1) = some la)
    (hb : twoValued (arg req 2) = some lb) (he : emptySet (arg req 0) = false) : linePreload p req s =
      (modLines (inSet (arg req 0)) (fun u => { u with preloadLA := lightArg la, preloadLB := lightArg lb }) s,
        ⟨.ok, []⟩) := by
  unfold linePreload
  rw [ha, hb]
  exact if_neg (by rw [he]; exact Bool.false_ne_true)

/-- Edge counts and settings of the line interface drive no pin. -/
theorem served_edges {code : BitVec 16} {n : Nat} {p : UpPort} {req : Frame} {s : State} {r : Result} {data : List Word}
    {body : UpPort → Frame → State → State × Reply} {l : LineBlock} (h : AtRest s) (serves : Serves code n p req s)
    (effect : body p req (takeRequest p s) = (withLine l (takeRequest p s), ⟨r, data⟩))
    (units : ∀ b : Bay, l.bays[b] = { s.line.bays[b] with edges := l.bays[b].edges }) :
    serveCode code n body s = .next (answered p req r data (withLine l (takeRequest p s))) := by
  obtain ⟨lines, patterns⟩ := (drivePins_eq_self_iff s).1 h.pins
  have still : drivePins (withLine l (takeRequest p s)) = withLine l (takeRequest p s) := by
    refine (drivePins_eq_self_iff _).2 ⟨fun b => driven_congr (s := s) rfl rfl rfl rfl rfl ?_ (lines b), patterns⟩
    unfold withLine
    dsimp only
    rw [units b]
  rw [served_lines h serves effect, answered_drivePins, still]

theorem lineSample_eq (p : UpPort) (req : Frame) (s : State) : lineSample p req s =
    (modLines (fun b => decide (s.bays[b].state = .test)) (fun u => { u with edges := 0 }) s,
      ⟨if testBays s = [] then .refusedState else .ok,
        [wBays fun b => decide (s.bays[b].state = .test), wNat (testBays s).length] ++ (testBays s).flatMap (captureWords s)⟩) := by
  unfold lineSample
  dsimp only
  rw [if_congr (List.isEmpty_iff (l := testBays s)) rfl rfl]

/-- SET_BAY_LINES where no presence edge follows: the refused bays are reported, the others take the record (R6). -/
theorem setBayLines_still {p : UpPort} {req : Frame} {rec : LineRecord} {s : State} (h : AtRest s)
    (serves : Serves 0x0120 7 p req s) (hr : lineRecordArg req = some rec) (he : emptySet (arg req 0) = false)
    (refused : Bay → Bool) (hf : refused = fun b => inSet (arg req 0) b && refusesLines s rec b)
    (same : ∀ b : Bay, inSet (arg req 0) b = true → refused b = false →
      presenceOf rec.prsActive s.line.bays[b].prsIn = s.line.bays[b].presence) :
    exec .setBayLines s = .next (drivePins (answered p req
      (if ∃ b : Bay, refused b = true then .refusedState else .ok) [wBays refused]
      { takeRequest p s with line := { s.line with bays := tab (fun b =>
        if inSet (arg req 0) b && !refused b then { s.line.bays[b] with record := rec } else s.line.bays[b]) } })) := by
  subst hf
  have written := writeLines_same rec _ (taken_nodup (arg req 0) fun b => inSet (arg req 0) b && refusesLines s rec b)
    (takeRequest p s) fun b hb => by
      rw [← decide_eq_true_eq (p := _ ∈ _), mem_taken, Bool.and_eq_true] at hb
      exact same b hb.1 (Bool.not_eq_true' _ ▸ hb.2)
  rw [funext (mem_taken (arg req 0) _)] at written
  have effect := setBayLines_eq (p := p) (takeRequest p s) hr he
  change _ = (((baysOf (arg req 0)).filter fun b => !(inSet (arg req 0) b && refusesLines s rec b)).foldl
    (fun s b => writeLines rec b s) (takeRequest p s), _) at effect
  rw [written] at effect
  exact served_lines h serves effect

/-- LINE_SAMPLE reports the TEST bays, and sets their edge counts to 0 (R16). -/
theorem lineSample_answers {p : UpPort} {req : Frame} {s : State} (h : AtRest s) (serves : Serves 0x0123 0 p req s) :
    exec .lineSample s = .next (answered p req (if testBays s = [] then .refusedState else .ok)
      ([wBays fun b => decide (s.bays[b].state = .test), wNat (testBays s).length] ++
        (testBays s).flatMap (captureWords s))
      { takeRequest p s with line := { s.line with bays := tab (fun b => if s.bays[b].state = .test then
        { s.line.bays[b] with edges := 0 } else s.line.bays[b]) } }) := by
  have marked : modLines (fun b => decide (s.bays[b].state = .test)) (fun u => { u with edges := 0 }) (takeRequest p s) =
      withLine { s.line with bays := tab (fun b => if s.bays[b].state = .test then
        { s.line.bays[b] with edges := 0 } else s.line.bays[b]) } (takeRequest p s) := by
    unfold modLines withLine
    simp only [decide_eq_true_eq]
    rfl
  have effect := lineSample_eq p req (takeRequest p s)
  change _ = (modLines (fun b => decide (s.bays[b].state = .test)) (fun u => { u with edges := 0 }) (takeRequest p s), _)
    at effect
  rw [marked] at effect
  refine served_edges h serves effect fun b => ?_
  dsimp only
  rw [getElem_tab]
  split <;> rfl

/-- SET_SEATING stores a debounce of at most 50 (R10). -/
theorem setSeating_answers {p : UpPort} {req : Frame} {s : State} (h : AtRest s) (serves : Serves 0x0121 1 p req s) :
    exec .setSeating s = .next (answered p req (if 50 < (arg req 0).toNat then .okClamped else .ok) []
      { takeRequest p s with line := { s.line with debounceSetting := min (arg req 0).toNat 50 } }) := by
  have effect : setSeating p req (takeRequest p s) =
      (withLine { s.line with debounceSetting := min (arg req 0).toNat 50 } (takeRequest p s),
        ⟨if 50 < (arg req 0).toNat then .okClamped else .ok, []⟩) := by
    unfold setSeating okOr
    simp only [decide_eq_true_eq]
    rfl
  exact served_edges h serves effect fun b => rfl

/-- Settles O48: no edge follows, so the requests write the line interface alone and the pins follow. -/
theorem lineSettingsAreWritten : Obligations.LineSettingsAreWritten := by
  refine ⟨?_, fun p req la lb s h => ⟨fun serves he ha hb => ?_, lineSample_answers h, setSeating_answers h⟩⟩
  · intro p req rec s h serves hr he refused same
    exact setBayLines_still h serves hr he refused rfl same
  · exact served_lines h serves (linePreload_eq (takeRequest p s) ha hb he)

end Sys2Proof.Machine

namespace Sys2Proof.Machine

/-! ### LINE_TEST_ENTER (R13, R39) -/

theorem modBays_cons (b : Bay) (l : List Bay) (hb : b ∉ l) (f : BayRecord → BayRecord) (s : State) :
    modBays (fun c => decide (c ∈ l)) f (modBay b f s) = modBays (fun c => decide (c ∈ b :: l)) f s := by
  unfold modBays
  rw [modBay_bays, tab_upd_cons s.bays b l hb f]
  rfl

theorem modBays_nil (f : BayRecord → BayRecord) (s : State) : modBays (fun c => decide (c ∈ ([] : List Bay))) f s = s := by
  unfold modBays
  rw [tab_nil]

/-- The record of a bay that enters TEST. -/
def testRecord (r : BayRecord) : BayRecord := { r with state := .test, prior := some (priorOf r), fault := none }

/-- Bays enter TEST one by one, and so together. -/
theorem enterTest_foldl (l : List Bay) (nodup : l.Nodup) (s : State) : l.foldl (fun s b => enterTest b s) s =
    modLines (fun c => decide (c ∈ l)) (fun u => { u with edges := 0 }) (modBays (fun c => decide (c ∈ l)) testRecord s) := by
  induction l generalizing s with
  | nil => exact ((modLines_nil _ _).trans (modBays_nil _ s)).symm
  | cons b l ih =>
    obtain ⟨hb, hl⟩ := List.nodup_cons.1 nodup
    rw [List.foldl_cons, ih hl, ← modLines_cons b l hb, ← modBays_cons b l hb]
    rfl

theorem enters_iff (r : BayRecord) : decide (enterOutcome r = .entered) =
    (decide (r.state = .empty) || decide (r.state = .faulted) || (decide (r.state = .off) && r.hold.isNone)) := by
  unfold enterOutcome
  cases r.state <;> first | rfl | (cases r.hold <;> rfl)

theorem enterHeld_iff (r : BayRecord) : decide (enterOutcome r = .held) = (decide (r.state = .off) && r.hold.isSome) := by
  unfold enterOutcome
  cases r.state <;> first | rfl | (cases r.hold <;> rfl)

theorem enterAlready_iff (r : BayRecord) : decide (enterOutcome r = .already) = decide (r.state = .test) := by
  unfold enterOutcome
  cases r.state <;> first | rfl | (cases r.hold <;> rfl)

theorem enterRefused_iff (r : BayRecord) : decide (enterOutcome r = .refused) =
    (!decide (enterOutcome r = .entered) && !decide (enterOutcome r = .held) && !decide (enterOutcome r = .already)) := by
  cases enterOutcome r <;> rfl

/-- A bay that enters TEST is EMPTY, FAULTED or OFF. -/
theorem enters_offline {r : BayRecord} (h : enterOutcome r = .entered) : r.state ≠ .online := by
  unfold enterOutcome at h
  intro online
  rw [online] at h
  cases h

theorem lineTestEnter_eq {p : UpPort} {req : Frame} (s : State) (he : emptySet (arg req 0) = false) :
    lineTestEnter p req s =
      (modLines (fun b => inSet (arg req 0) b && decide (enterOutcome s.bays[b] = .entered)) (fun u => { u with edges := 0 })
        (modBays (fun b => inSet (arg req 0) b && decide (enterOutcome s.bays[b] = .entered)) testRecord s),
        ⟨if ∃ b : Bay, (inSet (arg req 0) b && decide (enterOutcome s.bays[b] = .held) ||
            inSet (arg req 0) b && decide (enterOutcome s.bays[b] = .refused)) = true then .refusedState else .ok,
          [wBays fun b => inSet (arg req 0) b && decide (enterOutcome s.bays[b] = .entered),
            wBays fun b => inSet (arg req 0) b && decide (enterOutcome s.bays[b] = .held),
            wBays fun b => inSet (arg req 0) b && decide (enterOutcome s.bays[b] = .already),
            wBays fun b => inSet (arg req 0) b && decide (enterOutcome s.bays[b] = .refused)]⟩) := by
  have member (b : Bay) : decide (b ∈ allBays.filter fun b => inSet (arg req 0) b && decide (enterOutcome s.bays[b] = .entered)) =
      (inSet (arg req 0) b && decide (enterOutcome s.bays[b] = .entered)) := by
    rw [Bool.eq_iff_iff, decide_eq_true_eq, List.mem_filter]
    exact ⟨fun h => h.2, fun h => ⟨mem_allBays b, h⟩⟩
  unfold lineTestEnter
  dsimp only
  rw [if_neg (by rw [he]; exact Bool.false_ne_true), refusal_eq, enterTest_foldl _ (allBays_nodup.filter _),
    funext member]

/-- The state after the bays that `p` names have entered TEST. -/
def withTested (p : Bay → Bool) (s : State) : State :=
  { s with
    bays := tab fun b => if p b then testRecord s.bays[b] else s.bays[b]
    line := { s.line with bays := tab fun b => if p b then { s.line.bays[b] with edges := 0 } else s.line.bays[b] } }

theorem withTested_bays (p : Bay → Bool) (s : State) (b : Bay) :
    (withTested p s).bays[b] = if p b then testRecord s.bays[b] else s.bays[b] := by
  unfold withTested
  rw [getElem_tab]

theorem withTested_frame (p : Bay → Bool) (s : State) :
    (withTested p s).therm = s.therm ∧ (withTested p s).cool = s.cool ∧ (withTested p s).power = s.power ∧
      (withTested p s).ev = s.ev ∧ (withTested p s).fwd = s.fwd ∧ (withTested p s).route = s.route ∧
      (withTested p s).mgmt = s.mgmt := by
  simp only [withTested, and_self]

theorem withTested_waits {p : UpPort} {s : State} {x : UpPort × Frame} (h : AtRest s) (next : nextRequest s = some x)
    (bset : Word) : Waits (withTested (fun b => inSet bset b && decide (enterOutcome s.bays[b] = .entered)) (takeRequest p s)) := by
  obtain ⟨therm, cool, power, ev, fwd, route, mgmt⟩ := withTested_frame
    (fun b => inSet bset b && decide (enterOutcome s.bays[b] = .entered)) (takeRequest p s)
  refine h.waits next therm cool power ev (congrArg ForwardBlock.up fwd) route ((congrArg MgmtBlock.held mgmt).trans rfl) fun b => ?_
  unfold ReadingKept
  rw [withTested_bays]
  split
  · next hb =>
    rw [Bool.and_eq_true, decide_eq_true_eq] at hb
    exact .inr ⟨enters_offline hb.2, by rw [testRecord]; exact BayState.noConfusion⟩
  · exact .inl rfl

/-- Settles O50: the bays enter one by one, each by its own record, and none of them is ONLINE. -/
theorem lineTestEnterKeepsThePriorState : Obligations.LineTestEnterKeepsThePriorState := by
  intro p req s h serves he inS enters held already refused prior
  have effect := lineTestEnter_eq (p := p) (takeRequest p s) he
  change lineTestEnter p req (takeRequest p s) =
    (withTested (fun b => inS b && decide (enterOutcome s.bays[b] = .entered)) (takeRequest p s),
      ⟨if ∃ b : Bay, (inS b && decide (enterOutcome s.bays[b] = .held) ||
          inS b && decide (enterOutcome s.bays[b] = .refused)) = true then .refusedState else .ok,
        [wBays fun b => inS b && decide (enterOutcome s.bays[b] = .entered),
          wBays fun b => inS b && decide (enterOutcome s.bays[b] = .held),
          wBays fun b => inS b && decide (enterOutcome s.bays[b] = .already),
          wBays fun b => inS b && decide (enterOutcome s.bays[b] = .refused)]⟩) at effect
  have served := (withTested_waits (p := p) h serves.next (arg req 0)).served serves effect
  simp only [enterRefused_iff, enters_iff, enterHeld_iff, enterAlready_iff] at served
  have turned : (∃ b : Bay, inS b = true ∧ (held b = true ∨ refused b = true)) ↔
      ∃ b : Bay, (inS b && held b || inS b && refused b) = true := by
    simp only [Bool.or_eq_true, Bool.and_eq_true, and_or_left]
  refine Eq.trans served ?_
  rw [if_congr turned rfl rfl]
  rfl

end Sys2Proof.Machine

namespace Sys2Proof.Machine

/-! ### Words of a response -/

theorem wAddr_eq (a : Addr) : wAddr a = wNat a.toNat := by
  unfold wAddr wNat
  exact BitVec.eq_of_toNat_eq (by simp)

theorem switchAddr_toNat (s : State) : (switchAddr s).toNat = 0xFA0000 + s.addrStrap.toNat := by
  unfold switchAddr
  have := s.addrStrap.isLt
  rw [BitVec.toNat_add, BitVec.toNat_setWidth, Nat.mod_eq_of_lt (a := s.addrStrap.toNat) (by omega)]
  exact Nat.mod_eq_of_lt (by simp; omega)

theorem identityWords_eq (x : Option (BitVec 64)) : identityWords x =
    [wOpt (fun i => wNat (i.toNat / 2 ^ 32)) x, wOpt (fun i => wNat (i.toNat % 2 ^ 32)) x] := by
  cases x with
  | none => rfl
  | some i =>
    have high : i.extractLsb' 32 32 = wNat (i.toNat / 2 ^ 32) := BitVec.eq_of_toNat_eq (by simp [wNat, Nat.shiftRight_eq_div_pow])
    have low : i.extractLsb' 0 32 = wNat (i.toNat % 2 ^ 32) := BitVec.eq_of_toNat_eq (by simp [wNat])
    rw [identityWords, high, low]
    rfl

/-- The words of a bay's place in the queue, counted from `k`. -/
theorem queuePlace_from (b : Bay) (k : Nat) (q : List QueueEntry) : queuePlace b k q =
    [wOpt (fun e => wQueueClass e.cls) (q.find? fun e => decide (e.bay = b)),
      wOpt (fun i => wNat (k + i)) (q.findIdx? fun e => decide (e.bay = b))] := by
  induction q generalizing k with
  | nil => rfl
  | cons e q ih =>
    unfold queuePlace
    by_cases h : e.bay = b
    · rw [if_pos h, List.find?_cons_of_pos (by simpa using h), List.findIdx?_cons, if_pos (by simpa using h)]
      rfl
    · rw [if_neg h, ih, List.find?_cons_of_neg (by simpa using h), List.findIdx?_cons, if_neg (by simpa using h)]
      cases q.findIdx? fun e => decide (e.bay = b) with
      | none => rfl
      | some i => simp [wOpt, Nat.add_comm, Nat.add_left_comm]

theorem queuePlace_eq (b : Bay) (q : List QueueEntry) : queuePlace b 0 q =
    [wOpt (fun e => wQueueClass e.cls) (q.find? fun e => decide (e.bay = b)),
      wOpt wNat (q.findIdx? fun e => decide (e.bay = b))] := by
  rw [queuePlace_from]
  simp only [Nat.zero_add]

theorem wPrior_eq (x : Prior) : wPrior x = match x with
    | .empty => 0
    | .off => 2
    | .faulted _ => 7 := by cases x <;> rfl

theorem keptCause_eq (x : Option Prior) : wOpt wFault (keptCause x) = match x with
    | some (.faulted c) => wFault c
    | _ => 0xFFFFFFFF := by
  rcases x with _ | _ | _ | _ <;> rfl

theorem bayTimerWord_eq (s : State) (r : BayRecord) : bayTimerWord s r =
    wOpt (fun e => wNat (timeLeft 100 s.now e)) (r.startTimer.or r.cycleTimer) := by
  unfold bayTimerWord
  cases r.startTimer <;> cases r.cycleTimer <;> rfl

theorem wZones_eq (v : Vector Bool 4) :
    wZones v = wNat (v[0].toNat + 2 * v[1].toNat + 4 * v[2].toNat + 8 * v[3].toNat) := by
  have entry (k : Nat) (h : k < 4) : v.toList.getD k false = v[k] := by
    rw [List.getD_eq_getElem _ _ (by simpa using h)]
    simp
  unfold wZones
  simp only [maskWord, entry 0 (by decide), entry 1 (by decide), entry 2 (by decide), entry 3 (by decide)]
  generalize v[0] = a
  generalize v[1] = b
  generalize v[2] = c
  generalize v[3] = d
  revert a b c d
  decide

theorem toList_eq_map {α : Type} {n : Nat} (v : Vector α n) : v.toList = (List.finRange n).map fun i => v[i] := by
  refine List.ext_getElem (by simp) fun i _ _ => ?_
  simp

theorem allBays_eq : allBays = List.finRange 16 := by decide
theorem allZones_eq : allZones = List.finRange 4 := by decide
theorem portsBySlot_eq : portsBySlot.map portIdx = List.finRange 18 := by decide

theorem noteWord_eq (n : Note) : noteWord n = wNat (256 * n.slot + (portIdx n.port).val) := by
  unfold noteWord
  rw [Nat.mul_comm]

theorem learnedEntries_eq (s : State) : learnedEntries s = (List.finRange 18).filterMap fun i =>
    (s.route.learned[i]).map fun l => [wNat i.val, 0, wNat i.val, wNat l.addr.toNat,
      wOpt (fun n => wNat (256 * n.slot + (portIdx n.port).val)) l.note] := by
  unfold learnedEntries
  rw [← portsBySlot_eq, List.filterMap_map]
  refine congrArg (fun f => portsBySlot.filterMap f) (funext fun p => congrArg (fun f => (s.route.learned[portIdx p]).map f)
    (funext fun l => ?_))
  rw [wAddr_eq, funext noteWord_eq]
  rfl

theorem thermalBayWords_eq (s : State) : allBays.flatMap (thermalBayWords s) = s.therm.records.toList.flatMap fun r =>
    [wOpt wInt r.reading, wOpt (fun _ => wBool (decide (s.therm.staleLimit < r.age))) r.reading, wNat r.age, wNat r.samples,
      wNat r.bad, wNat r.streak] := by
  have standing (b : Bay) : standingWord s b =
      wOpt (fun _ => wBool (decide (s.therm.staleLimit < s.therm.records[b].age))) s.therm.records[b].reading := by
    have stale : (!fresh s b) = decide (s.therm.staleLimit < s.therm.records[b].age) := by
      unfold fresh
      rw [← decide_not]
      exact decide_eq_decide.2 Nat.not_le
    unfold standingWord
    rw [stale]
    cases s.therm.records[b].reading <;> rfl
  have unit : thermalBayWords s = fun b => [wOpt wInt s.therm.records[b].reading,
      wOpt (fun _ => wBool (decide (s.therm.staleLimit < s.therm.records[b].age))) s.therm.records[b].reading,
      wNat s.therm.records[b].age, wNat s.therm.records[b].samples, wNat s.therm.records[b].bad,
      wNat s.therm.records[b].streak] := funext fun b => by
    unfold thermalBayWords
    dsimp only
    rw [standing]
  rw [toList_eq_map, List.flatMap_map, allBays_eq, unit]

theorem identifier_eq {n : Nat} {w : Word} (i : Fin n) (h : w.toNat = i.val) : identifier n w = some i := by
  unfold identifier
  rw [dif_pos (h ▸ i.isLt)]
  exact congrArg some (Fin.ext h)

theorem identifier_none {n : Nat} {w : Word} (h : n ≤ w.toNat) : identifier n w = none := dif_neg (Nat.not_lt.2 h)

/-! ### The reading requests -/

/-- A reading request is answered, and changes nothing but its queue. -/
theorem served_read {code : BitVec 16} {n : Nat} {p : UpPort} {req : Frame} {s : State} {r : Result} {data : List Word}
    {report : UpPort → Frame → State → Reply} (h : AtRest s) (serves : Serves code n p req s)
    (reply : report p req (takeRequest p s) = ⟨r, data⟩) :
    serveRead code n report s = .next (answered p req r data (takeRequest p s)) :=
  served_edges (l := s.line) h serves (Prod.ext rfl reply) fun _ => rfl

theorem takeRequest_left (p u : UpPort) (s : State) : ((takeRequest p s).mgmt.requests[upIdx u]).length =
    (s.mgmt.requests[upIdx u]).length - if u = p then 1 else 0 := by
  unfold takeRequest
  dsimp only
  by_cases h : u = p
  · subst h
    rw [getElem_upd_same, if_pos rfl, List.length_tail]
  · rw [getElem_upd_ne _ _ (upIdx_ne h), if_neg h, Nat.sub_zero]

theorem identWords_eq (p : UpPort) (s : State) : identWords p (takeRequest p s) =
    [0x54A7, 0x0F16, 1, wNat s.addrStrap.toNat, wNat s.budStrap.toNat, wNat (0xFA0000 + s.addrStrap.toNat),
      wNat ([600, 900, 1200, 1800].getD s.budStrap.toNat 0), wPort (.up p),
      wNat ((s.mgmt.requests[upIdx .u0]).length - if UpPort.u0 = p then 1 else 0),
      wNat ((s.mgmt.requests[upIdx .u1]).length - if UpPort.u1 = p then 1 else 0),
      wOpt (fun h => wPort (.up h.port)) s.mgmt.held] := by
  unfold identWords
  rw [wAddr_eq, switchAddr_toNat, strappedCeiling_eq, takeRequest_left, takeRequest_left]
  rfl

theorem readIdent_answers {p : UpPort} {req : Frame} {s : State} (h : AtRest s) (serves : Serves 0x0101 0 p req s) :
    exec .readIdent s = .next (answered p req .ok (identWords p (takeRequest p s)) (takeRequest p s)) :=
  served_read (report := fun p _ s => ⟨.ok, identWords p s⟩) h serves rfl

theorem readPower_answers {p : UpPort} {req : Frame} {s : State} (h : AtRest s) (serves : Serves 0x0134 0 p req s) :
    exec .readPower s = .next (answered p req .ok (powerWords s) (takeRequest p s)) :=
  served_read (report := fun _ _ s => ⟨.ok, powerWords s⟩) h serves rfl

theorem readRoutes_answers {p : UpPort} {req : Frame} {s : State} (h : AtRest s) (serves : Serves 0x0152 0 p req s) :
    exec .readRoutes s = .next (answered p req .ok (routeWords s) (takeRequest p s)) :=
  served_read (report := fun _ _ s => ⟨.ok, routeWords s⟩) h serves rfl

theorem readThermal_answers {p : UpPort} {req : Frame} {s : State} (h : AtRest s) (serves : Serves 0x0163 0 p req s) :
    exec .readThermal s = .next (answered p req .ok (thermalWords s) (takeRequest p s)) :=
  served_read (report := fun _ _ s => ⟨.ok, thermalWords s⟩) h serves rfl

theorem readCooling_answers {p : UpPort} {req : Frame} {s : State} (h : AtRest s) (serves : Serves 0x0175 0 p req s) :
    exec .readCooling s = .next (answered p req .ok (coolingWords s) (takeRequest p s)) :=
  served_read (report := fun _ _ s => ⟨.ok, coolingWords s⟩) h serves rfl

theorem readBays_answers {p : UpPort} {req : Frame} {s : State} (h : AtRest s) (serves : Serves 0x0103 0 p req s) :
    exec .readBays s = .next (answered p req .ok
      (allBays.flatMap (bayShortWords s) ++ [wNat s.line.debounceSetting, wBool s.light.dim]) (takeRequest p s)) :=
  served_read (report := fun _ _ s =>
    ⟨.ok, allBays.flatMap (bayShortWords s) ++ [wNat s.line.debounceSetting, wBool s.light.dim]⟩) h serves rfl

/-- The answer to READ_BAY. -/
def bayReply (_p : UpPort) (f : Frame) (s : State) : Reply :=
  match identifier 16 (arg f 0) with
  | none => outOfRange
  | some b => ⟨.ok, bayWords b s⟩

theorem readBay_answers {p : UpPort} {req : Frame} {s : State} {b : Bay} (h : AtRest s) (serves : Serves 0x0102 1 p req s)
    (hb : (arg req 0).toNat = b.val) :
    exec .readBay s = .next (answered p req .ok (bayWords b s) (takeRequest p s)) := by
  refine served_read (report := bayReply) h serves ?_
  unfold bayReply
  rw [identifier_eq b hb]
  rfl

theorem readBay_outside {p : UpPort} {req : Frame} {s : State} (h : AtRest s) (serves : Serves 0x0102 1 p req s)
    (hb : 16 ≤ (arg req 0).toNat) : exec .readBay s = .next (answered p req .outOfRange [] (takeRequest p s)) := by
  refine served_read (report := bayReply) h serves ?_
  unfold bayReply
  rw [identifier_none hb]
  rfl

/-- A zone's words, its rotors counted as twice its modules. -/
theorem zoneWords_eq (s : State) (z : Zone) : zoneWords s z =
    [wNat s.cool.zones[z].curve.length] ++ s.cool.zones[z].curve.flatMap breakpointWords ++
      List.replicate (12 - 2 * s.cool.zones[z].curve.length) 0xFFFFFFFF ++
      [wNat s.cool.zones[z].minDuty, wNat s.cool.zones[z].staleFloor, wNat s.cool.zones[z].boost, wNat s.cool.zones[z].slewUp,
        wNat s.cool.zones[z].slewDown, wOpt wNat s.cool.zones[z].output,
        wNat (2 * s.cool.modules.toList.countP (fun m => decide (m.zone = z))), wNat (stalledCount s z),
        wFan s.cool.zones[z].state, wNat s.cool.zones[z].base, wNat s.cool.zones[z].sum, wNat s.cool.zones[z].target] := by
  unfold zoneWords rotorCount zoneModules
  rw [List.countP_eq_length_filter]
  rfl

/-- Settles O43: no reading request changes a pin or brings an attempt, and each list of words is the one its rule gives. -/
theorem readsReportAndChangeNothing : Obligations.ReadsReportAndChangeNothing := by
  refine ⟨?reads, ?frame, ?numbers, by decide, by decide, by decide, by decide, by decide, by decide, by decide, by decide,
    by decide, by decide, by decide, by decide, by decide, by decide, by decide, by decide, by decide⟩
  case frame =>
    intro a req r w hc
    unfold responseFrame
    rw [hc]
    rfl
  case numbers => exact fun n i => ⟨BitVec.toNat_ofNat _ _, BitVec.toInt_ofInt i, rfl, rfl⟩
  case reads =>
    intro p req s h answers left head waiting zones
    have answer (x : Instr) (ws vs : List Word) (served : exec x s = .next (answered p req .ok ws (takeRequest p s)))
        (e : ws = vs) : exec x s = answers vs := by
      rw [served, e]
    refine ⟨fun serves => answer _ _ _ (readIdent_answers h serves) (identWords_eq p s),
      fun serves b hb => answer _ _ _ (readBay_answers h serves hb) ?bay,
      fun serves hb => readBay_outside h serves hb,
      fun serves => answer _ _ _ (readBays_answers h serves) ?bays,
      fun serves => answer _ _ _ (readPower_answers h serves) ?power,
      fun serves => answer _ _ _ (readRoutes_answers h serves) ?routes,
      fun serves => answer _ _ _ (readThermal_answers h serves) ?thermal,
      fun serves => answer _ _ _ (readCooling_answers h serves) ?cooling⟩
    case bay =>
      unfold bayWords
      dsimp only
      rw [identityWords_eq, queuePlace_eq, bayTimerWord_eq, keptCause_eq, funext wPrior_eq, funext wAddr_eq]
      rfl
    case bays =>
      unfold bayShortWords
      rw [allBays_eq, funext wAddr_eq]
      rfl
    case power =>
      unfold powerWords
      dsimp only
      rw [strappedCeiling_eq, wZones_eq, allBays_eq]
      rfl
    case routes =>
      unfold routeWords
      rw [learnedEntries_eq, wAddr_eq, switchAddr_toNat]
      unfold staticEntries
      simp only [wAddr_eq]
      rfl
    case thermal =>
      unfold thermalWords
      rw [thermalBayWords_eq, wZones_eq]
      rfl
    case cooling =>
      unfold coolingWords
      rw [allZones_eq, funext (zoneWords_eq s)]
      rfl

end Sys2Proof.Machine

namespace Sys2Proof.Machine

/-! ### What work on one bay leaves of another -/

/-- A line unit without its output pins. -/
def LineUnit.core (u : LineUnit) : LineUnit := { u with pwrPin := .low, laPin := ⟨.low, .fixed⟩, lbPin := ⟨.low, .fixed⟩ }

/-- Between `s` and `t` nothing is done to bay `b` but that it may be admitted: its line unit stays but for the pins, its
latches stay set, it does not join the queue, and a port with nothing standing at it stays so. -/
structure Aside (b : Bay) (s t : State) : Prop where
  bay : AtMostAdmitted b s t
  classes : t.power.classes = s.power.classes
  unit : (t.line.bays[b]).core = (s.line.bays[b]).core
  setting : t.line.debounceSetting = s.line.debounceSetting
  now : t.now = s.now
  latches : ∀ k : BayEvent, (s.ev.bayLatches[b])[k.idx] = true → (t.ev.bayLatches[b])[k.idx] = true
  queue : b ∉ s.power.queue.map QueueEntry.bay → b ∉ t.power.queue.map QueueEntry.bay
  port : DisabledQuiet s b → DisabledQuiet t b

theorem Aside.refl (b : Bay) (s : State) : Aside b s s :=
  ⟨.of_eq rfl rfl, rfl, rfl, rfl, rfl, fun _ h => h, fun h => h, fun h => h⟩

theorem Aside.trans {b : Bay} {s t u : State} (h : Aside b s t) (k : Aside b t u) : Aside b s u where
  bay := h.bay.trans k.bay h.classes
  classes := k.classes.trans h.classes
  unit := k.unit.trans h.unit
  setting := k.setting.trans h.setting
  now := k.now.trans h.now
  latches x hx := k.latches x (h.latches x hx)
  queue hb := k.queue (h.queue hb)
  port hb := k.port (h.port hb)

/-- The record of a bay that is not QUEUED stays. -/
theorem Aside.record {b : Bay} {s t : State} (h : Aside b s t) (state : s.bays[b].state ≠ .queued) : t.bays[b] = s.bays[b] :=
  (h.bay.eq state).1

theorem DisabledQuiet.congr {b : Bay} {s t : State} (h : DisabledQuiet s b) (queue : t.fwd.bayQueue[b] = s.fwd.bayQueue[b])
    (transmitting : t.fwd.transmitting[portIdx (.bay b)] = s.fwd.transmitting[portIdx (.bay b)])
    (waiting : t.fwd.waiting[portIdx (.bay b)] = s.fwd.waiting[portIdx (.bay b)]) : DisabledQuiet t b :=
  ⟨queue.trans h.queue, transmitting.trans h.transmitting, waiting.trans h.waiting⟩

/-- A change outside the power admission unit, the lines, the ports and the clock. -/
theorem Aside.of_frame {b : Bay} {s t : State} (bays : t.bays[b] = s.bays[b]) (power : t.power = s.power)
    (line : t.line = s.line) (now : t.now = s.now) (fwd : t.fwd = s.fwd)
    (latches : ∀ k : BayEvent, (s.ev.bayLatches[b])[k.idx] = true → (t.ev.bayLatches[b])[k.idx] = true) : Aside b s t where
  bay := .of_eq bays (by rw [power])
  classes := by rw [power]
  unit := by rw [line]
  setting := by rw [line]
  now := now
  latches := latches
  queue := by rw [power]; exact id
  port h := h.congr (by rw [fwd]) (by rw [fwd]) (by rw [fwd])

/-- A change of the power admission unit that leaves a bay's charge, and takes it into the queue no more than it was. -/
theorem Aside.of_power {b : Bay} {s t : State} (bays : t.bays = s.bays) (line : t.line = s.line) (now : t.now = s.now)
    (fwd : t.fwd = s.fwd) (latches : t.ev.bayLatches = s.ev.bayLatches) (classes : t.power.classes = s.power.classes)
    (charge : t.power.charge[b] = s.power.charge[b])
    (queue : b ∉ s.power.queue.map QueueEntry.bay → b ∉ t.power.queue.map QueueEntry.bay) : Aside b s t where
  bay := .of_eq (by rw [bays]) charge
  classes := classes
  unit := by rw [line]
  setting := by rw [line]
  now := now
  latches k hk := by rw [latches]; exact hk
  queue := queue
  port h := h.congr (by rw [fwd]) (by rw [fwd]) (by rw [fwd])

/-- A change of the ports' frames alone. -/
theorem Aside.of_fwd {b : Bay} {s t : State} (bays : t.bays = s.bays) (power : t.power = s.power) (line : t.line = s.line)
    (now : t.now = s.now) (latches : t.ev.bayLatches = s.ev.bayLatches) (port : DisabledQuiet s b → DisabledQuiet t b) :
    Aside b s t where
  bay := .of_eq (by rw [bays]) (by rw [power])
  classes := by rw [power]
  unit := by rw [line]
  setting := by rw [line]
  now := now
  latches k hk := by rw [latches]; exact hk
  queue := by rw [power]; exact id
  port := port

theorem modBay_aside {b c : Bay} (h : b ≠ c) (f : BayRecord → BayRecord) (s : State) : Aside b s (modBay c f s) :=
  .of_frame (by rw [modBay_bays, getElem_upd_ne _ _ h]) rfl rfl rfl rfl fun _ h => h

theorem modLight_aside (b c : Bay) (f : LightUnit → LightUnit) (s : State) : Aside b s (modLight c f s) :=
  .of_frame rfl rfl rfl rfl rfl fun _ h => h

theorem modTherm_aside (b c : Bay) (f : ThermalRecord → ThermalRecord) (s : State) : Aside b s (modTherm c f s) :=
  .of_frame rfl rfl rfl rfl rfl fun _ h => h

theorem clearLearned_aside (b : Bay) (p : Port) (s : State) : Aside b s (clearLearned p s) :=
  .of_frame rfl rfl rfl rfl rfl fun _ h => h

theorem modLine_aside {b c : Bay} (h : b ≠ c) (f : LineUnit → LineUnit) (s : State) : Aside b s (modLine c f s) where
  bay := .of_eq rfl rfl
  classes := rfl
  unit := by rw [modLine_lines, getElem_upd_ne _ _ h]
  setting := rfl
  now := rfl
  latches _ h := h
  queue h := h
  port h := ⟨h.queue, h.transmitting, h.waiting⟩

theorem latchBay_aside (b c : Bay) (k : BayEvent) (s : State) : Aside b s (latchBay c k s) := by
  refine .of_frame (by rw [latchBay_bays]) (latchBay_power c k s) (latchBay_line c k s) (latchBay_now c k s)
    (latchBay_fwd c k s) fun j h => ?_
  rw [latchBay_latches, getElem_upd]
  split
  · next e =>
    subst e
    rw [getElem_put]
    split
    · rfl
    · exact h
  · exact h

theorem ask_aside (b : Bay) (s : State) : Aside b s (ask s) :=
  .of_power rfl rfl rfl rfl rfl rfl rfl fun h => h

theorem leaveQueue_aside (b c : Bay) (s : State) : Aside b s (leaveQueue c s) := by
  refine .of_power rfl rfl rfl rfl rfl rfl rfl fun h k => h ?_
  obtain ⟨e, he, rfl⟩ := List.mem_map.1 k
  exact List.mem_map_of_mem (mem_dropEntry.1 he).1

theorem joinQueue_aside {b c : Bay} (hb : b ≠ c) (x : QueueClass) (s : State) : Aside b s (joinQueue c x s) := by
  refine .of_power rfl rfl rfl rfl rfl rfl rfl fun h k => h ?_
  obtain ⟨e, he, rfl⟩ := List.mem_map.1 k
  rcases mem_joinClass he with rfl | he
  · exact absurd rfl hb
  · exact List.mem_map_of_mem (mem_dropEntry.1 he).1

theorem enqueueFresh_aside {b c : Bay} (hb : b ≠ c) (x : QueueClass) (s : State) : Aside b s (enqueueFresh c x s) :=
  (modBay_aside hb _ s).trans (joinQueue_aside hb x _)

theorem seat_aside {b c : Bay} (hb : b ≠ c) (s : State) : Aside b s (seat c s) := by
  unfold seat
  dsimp only
  split
  · exact ((modLine_aside hb _ s).trans (enqueueFresh_aside hb .normal _)).trans (latchBay_aside b c .inserted _)
  · exact ((modLine_aside hb _ s).trans (modBay_aside hb _ _)).trans (latchBay_aside b c .inserted _)

theorem startSeating_aside {b c : Bay} (hb : b ≠ c) (s : State) : Aside b s (startSeating c s) := by
  rcases Nat.eq_zero_or_pos s.line.debounceSetting with hd | hd
  · rw [startSeating_of_zero c s hd]
    exact (modBay_aside hb _ s).trans (seat_aside hb _)
  · rw [startSeating_of_pos c s hd]
    exact (modBay_aside hb _ s).trans (modLine_aside hb _ _)

theorem cancelEmptyGroup_aside (b : Bay) (s : State) : Aside b s (cancelEmptyGroup s) := by
  rw [cancelEmptyGroup_eq]
  exact ⟨.of_eq rfl rfl, rfl, rfl, rfl, rfl, fun _ h => h, fun h => h, fun h => ⟨h.queue, h.transmitting, h.waiting⟩⟩

theorem unseat_aside {b c : Bay} (hb : b ≠ c) (s : State) : Aside b s (unseat c s) :=
  ((modBay_aside hb _ s).trans (modLine_aside hb _ _)).trans (cancelEmptyGroup_aside b _)

/-! ### The ports through a flush (R84) -/

/-- Nothing at the bay port of `b` changes: its frames, and its light flags and window. -/
def PortKept (b : Bay) (s t : State) : Prop :=
  t.fwd.bayQueue[b] = s.fwd.bayQueue[b] ∧
    t.fwd.transmitting[portIdx (.bay b)] = s.fwd.transmitting[portIdx (.bay b)] ∧
    t.fwd.waiting[portIdx (.bay b)] = s.fwd.waiting[portIdx (.bay b)] ∧ t.light.bays[b] = s.light.bays[b]

theorem PortKept.refl (b : Bay) (s : State) : PortKept b s s := ⟨rfl, rfl, rfl, rfl⟩

theorem PortKept.trans {b : Bay} {s t u : State} (h : PortKept b s t) (k : PortKept b t u) : PortKept b s u := by
  obtain ⟨h1, h2, h3, h4⟩ := h
  obtain ⟨k1, k2, k3, k4⟩ := k
  exact ⟨k1.trans h1, k2.trans h2, k3.trans h3, k4.trans h4⟩

theorem PortKept.quiet {b : Bay} {s t : State} (h : PortKept b s t) (k : DisabledQuiet s b) : DisabledQuiet t b :=
  k.congr h.1 h.2.1 h.2.2.1

/-- What stands in the priority queues stays, and frames join behind it. -/
def Grows (s t : State) : Prop := ∀ p : UpPort, s.fwd.up[upIdx p].priority <+: t.fwd.up[upIdx p].priority

theorem Grows.of_up {s t : State} (h : t.fwd.up = s.fwd.up) : Grows s t := fun p => by rw [h]

theorem Grows.trans {s t u : State} (h : Grows s t) (k : Grows t u) : Grows s u := fun p => (h p).trans (k p)

theorem Grows.foldl {α : Type} (f : State → α → State) (h : ∀ s x, Grows s (f s x)) (l : List α) (s : State) :
    Grows s (l.foldl f s) := by
  induction l generalizing s with
  | nil => exact .of_up rfl
  | cons x l ih => exact (h s x).trans (ih _)

theorem pushPriority_grows (p : UpPort) (h : Held) (s : State) : Grows s (pushPriority p h s) := fun q => by
  rw [pushPriority_up]
  by_cases e : q = p
  · subst e
    rw [getElem_upd_same]
    exact List.prefix_append _ _
  · rw [getElem_upd_ne _ _ (upIdx_ne e)]

theorem portIdx_bay (b : Bay) : (portIdx (.bay b)).val = b.val := rfl
theorem portIdx_up (u : UpPort) : (portIdx (.up u)).val = 16 + (upIdx u).val := by cases u <;> rfl

theorem portIdx_ne {p q : Port} (h : p ≠ q) : portIdx p ≠ portIdx q := by
  intro e
  have val : (portIdx p).val = (portIdx q).val := congrArg Fin.val e
  cases p with
  | bay a =>
    have := a.isLt
    cases q with
    | bay b => exact h (congrArg Port.bay (Fin.ext val))
    | up v => rw [portIdx_bay, portIdx_up] at val; omega
  | up u =>
    cases q with
    | bay b => have := b.isLt; rw [portIdx_bay, portIdx_up] at val; omega
    | up v =>
      rw [portIdx_up, portIdx_up] at val
      exact upIdx_ne (fun k => h (congrArg Port.up k)) (Fin.ext (Nat.add_left_cancel val))

theorem count_portKept (b : Bay) (p : Port) (k : CounterKind) (n : Nat) (s : State) : PortKept b s (count p k n s) :=
  ⟨rfl, rfl, rfl, rfl⟩

theorem sendStatus_portKept {b : Bay} (c : StatusCode) {p : Port} (hp : p ≠ .bay b) (f : Frame) (s : State) :
    PortKept b s (sendStatus c p f s) := by
  unfold sendStatus
  split
  · exact .refl b s
  · cases p with
    | up u =>
      dsimp only
      split
      · exact PortKept.trans (t := pushPriority u ⟨statusFrame (switchAddr s) c f, .built⟩ s) ⟨rfl, rfl, rfl, rfl⟩
          (count_portKept b _ _ _ _)
      · exact count_portKept b _ _ _ _
    | bay a =>
      have ne : b ≠ a := fun e => hp (by rw [e])
      dsimp only
      split
      · refine ⟨?_, rfl, rfl, ?_⟩
        · change (upd s.fwd.bayQueue a _)[b] = _
          exact getElem_upd_ne _ _ ne
        · change (upd s.light.bays a _)[b] = _
          exact getElem_upd_ne _ _ ne
      · exact count_portKept b _ _ _ _

theorem sendStatus_grows (c : StatusCode) (p : Port) (f : Frame) (s : State) : Grows s (sendStatus c p f s) := by
  unfold sendStatus
  split
  · exact .of_up rfl
  · cases p with
    | up u =>
      dsimp only
      split
      · exact (pushPriority_grows u _ s).trans (.of_up rfl)
      · exact .of_up rfl
    | bay a =>
      dsimp only
      split <;> exact .of_up rfl

theorem bayGone_portKept (b : Bay) (h : Held) (s : State) : PortKept b s (bayGone h s) := by
  unfold bayGone
  split
  · exact sendStatus_portKept _ Port.noConfusion _ s
  · exact .refl b s

theorem bayGone_grows (h : Held) (s : State) : Grows s (bayGone h s) := by
  unfold bayGone
  split
  · exact sendStatus_grows _ _ _ s
  · exact .of_up rfl

theorem PortKept.foldl {α : Type} {b : Bay} (f : State → α → State) (l : List α)
    (h : ∀ x ∈ l, ∀ s, PortKept b s (f s x)) (s : State) : PortKept b s (l.foldl f s) := by
  induction l generalizing s with
  | nil => exact .refl b s
  | cons x l ih => exact (h x (by simp) s).trans (ih (fun y hy => h y (List.mem_cons_of_mem x hy)) _)

theorem clearSlot_portKept {b : Bay} {p : Port} (hp : p ≠ .bay b) (s : State) : PortKept b s (clearSlot p s) := by
  refine ⟨rfl, rfl, ?_, rfl⟩
  rw [clearSlot_waiting, getElem_put_ne _ _ (portIdx_ne hp.symm)]

theorem endWait_portKept {b : Bay} (c : StatusCode) {x : Port × Waiting} (hx : x.1 ≠ .bay b) (s : State) :
    PortKept b s (endWait c x s) :=
  ((clearSlot_portKept hx s).trans (count_portKept b _ _ _ _)).trans (sendStatus_portKept c hx _ _)

theorem endWait_grows (c : StatusCode) (x : Port × Waiting) (s : State) : Grows s (endWait c x s) :=
  Grows.trans (t := count x.1 .discarded 1 (clearSlot x.1 s)) (.of_up rfl) (sendStatus_grows c _ _ _)

theorem flushQueue_quiet (b : Bay) (s : State) : (flushQueue b s).fwd.bayQueue[b] = [] ∧
    (flushQueue b s).light.bays[b] = s.light.bays[b] := by
  have kept := PortKept.foldl (b := b) (fun s h => bayGone h s) (s.fwd.bayQueue[b]) (fun h _ s => bayGone_portKept b h s)
    (count (.bay b) .discarded (s.fwd.bayQueue[b]).length { s with fwd := { s.fwd with bayQueue := put s.fwd.bayQueue b [] } })
  exact ⟨kept.1.trans (getElem_put_same _ _ _), kept.2.2.2⟩

theorem flushQueue_portKept {b c : Bay} (h : c ≠ b) (s : State) : PortKept c s (flushQueue b s) := by
  have kept := PortKept.foldl (b := c) (fun s h => bayGone h s) (s.fwd.bayQueue[b]) (fun h _ s => bayGone_portKept c h s)
    (count (.bay b) .discarded (s.fwd.bayQueue[b]).length { s with fwd := { s.fwd with bayQueue := put s.fwd.bayQueue b [] } })
  exact ⟨kept.1.trans (getElem_put_ne _ _ h), kept.2⟩

theorem flushQueue_grows (b : Bay) (s : State) : Grows s (flushQueue b s) :=
  Grows.trans (t := count (.bay b) .discarded (s.fwd.bayQueue[b]).length
    { s with fwd := { s.fwd with bayQueue := put s.fwd.bayQueue b [] } }) (.of_up rfl)
    (Grows.foldl _ (fun u h => bayGone_grows h u) _ _)

theorem abandon_eq (p : Port) (s : State) : (abandon p s).fwd.transmitting = put s.fwd.transmitting (portIdx p) none ∧
    (abandon p s).fwd.bayQueue = s.fwd.bayQueue ∧ (abandon p s).fwd.waiting = s.fwd.waiting ∧
    (abandon p s).fwd.up = s.fwd.up := by
  unfold abandon
  split
  · next h =>
    refine ⟨tab_ext fun i => ?_, rfl, rfl, rfl⟩
    rw [getElem_put]
    split
    · next e => rw [e, h]
    · rfl
  · exact ⟨rfl, rfl, rfl, rfl⟩

theorem abandon_portKept {b : Bay} {p : Port} (hp : p ≠ .bay b) (s : State) : PortKept b s (abandon p s) := by
  obtain ⟨transmitting, queue, waiting, -⟩ := abandon_eq p s
  exact ⟨by rw [queue], by rw [transmitting, getElem_put_ne _ _ (portIdx_ne hp.symm)], by rw [waiting], by rw [abandon_light]⟩

theorem dropOwnWait_eq (p : Port) (s : State) : (dropOwnWait p s).fwd.waiting = put s.fwd.waiting (portIdx p) none ∧
    (dropOwnWait p s).fwd.bayQueue = s.fwd.bayQueue ∧ (dropOwnWait p s).fwd.transmitting = s.fwd.transmitting ∧
    (dropOwnWait p s).fwd.up = s.fwd.up := by
  unfold dropOwnWait
  split
  · next h =>
    refine ⟨tab_ext fun i => ?_, rfl, rfl, rfl⟩
    rw [getElem_put]
    split
    · next e => rw [e, h]
    · rfl
  · exact ⟨rfl, rfl, rfl, rfl⟩

theorem dropOwnWait_portKept {b : Bay} {p : Port} (hp : p ≠ .bay b) (s : State) : PortKept b s (dropOwnWait p s) := by
  obtain ⟨waiting, queue, transmitting, -⟩ := dropOwnWait_eq p s
  exact ⟨by rw [queue], by rw [transmitting], by rw [waiting, getElem_put_ne _ _ (portIdx_ne hp.symm)],
    by rw [dropOwnWait_light]⟩

theorem mem_insertWaiting {x y : Port × Waiting} {l : List (Port × Waiting)} (h : y ∈ insertWaiting x l) : y = x ∨ y ∈ l := by
  induction l with
  | nil => exact .inl (List.mem_singleton.1 h)
  | cons z l ih =>
    unfold insertWaiting at h
    split at h
    · rcases List.mem_cons.1 h with rfl | h
      · exact .inr (by simp)
      · exact (ih h).imp id (List.mem_cons_of_mem z)
    · exact (List.mem_cons.1 h).imp id id

theorem mem_insertAll {y : Port × Waiting} (l acc : List (Port × Waiting))
    (h : y ∈ l.foldl (fun acc x => insertWaiting x acc) acc) : y ∈ l ∨ y ∈ acc := by
  induction l generalizing acc with
  | nil => exact .inr h
  | cons x l ih =>
    rcases ih _ h with h | h
    · exact .inl (List.mem_cons_of_mem x h)
    · exact (mem_insertWaiting h).imp (fun e => by simp [e]) id

/-- A port in the list of waiters has a frame in its wait slot. -/
theorem mem_waitersFor {q : Port} {s : State} {x : Port × Waiting} (h : x ∈ waitersFor q s) :
    s.fwd.waiting[portIdx x.1] = some x.2 := by
  rcases mem_insertAll _ _ h with h | h
  · obtain ⟨p, -, hp⟩ := List.mem_filterMap.1 h
    split at hp
    · next w hw =>
      split at hp
      · cases hp
        exact hw
      · cases hp
    · cases hp
  · cases h

theorem flushWaiters_portKept {b c : Bay} (s : State) (h : c = b ∨ s.fwd.waiting[portIdx (.bay c)] = none) :
    PortKept c s (flushWaiters b s) := by
  refine PortKept.foldl _ _ (fun x hx u => endWait_portKept _ (fun e => ?_) u) s
  obtain ⟨q, w⟩ := x
  obtain ⟨member, other⟩ := List.mem_filter.1 hx
  rcases h with rfl | free
  · exact of_decide_eq_true other e
  · obtain rfl : q = .bay c := e
    cases free.symm.trans (mem_waitersFor member)

theorem flush_grows (b : Bay) (s : State) : Grows s (flush b s) :=
  (((flushQueue_grows b s).trans (.of_up (abandon_eq _ _).2.2.2)).trans
    (Grows.foldl _ (fun u x => endWait_grows _ x u) _ _)).trans (.of_up (dropOwnWait_eq _ _).2.2.2)

/-- A bay port with nothing standing at it stays as it is when another port is flushed. -/
theorem flush_portKept {b c : Bay} (h : c ≠ b) (s : State) (free : s.fwd.waiting[portIdx (.bay c)] = none) :
    PortKept c s (flush b s) := by
  have ne : Port.bay b ≠ .bay c := fun e => h (Port.bay.inj e).symm
  have first := (flushQueue_portKept h s).trans (abandon_portKept ne (flushQueue b s))
  exact (first.trans (flushWaiters_portKept _ (.inr (first.2.2.1.trans free)))).trans (dropOwnWait_portKept ne _)

/-- After a flush nothing stands at the port (R84). -/
theorem flush_quiet (b : Bay) (s : State) : DisabledQuiet (flush b s) b ∧ (flush b s).light.bays[b] = s.light.bays[b] := by
  obtain ⟨emptied, lights⟩ := flushQueue_quiet b s
  obtain ⟨stopped, queue, -⟩ := abandon_eq (.bay b) (flushQueue b s)
  obtain ⟨waitQueue, waitTransmits, -, waitLights⟩ :=
    flushWaiters_portKept (b := b) (c := b) (abandon (.bay b) (flushQueue b s)) (.inl rfl)
  obtain ⟨cleared, same, still, -⟩ := dropOwnWait_eq (.bay b) (flushWaiters b (abandon (.bay b) (flushQueue b s)))
  unfold flush
  refine ⟨⟨?_, ?_, ?_⟩, ?_⟩
  · rw [same, waitQueue, queue, emptied]
  · rw [still, waitTransmits, stopped, getElem_put_same]
  · rw [cleared, getElem_put_same]
  · rw [dropOwnWait_light, waitLights, abandon_light, lights]

end Sys2Proof.Machine

namespace Sys2Proof.Machine

/-! ### Leaving power (R22) -/

theorem setCharge_bayLatches (b : Bay) (x : Nat) (s : State) : (setCharge b x s).ev.bayLatches = s.ev.bayLatches := by
  unfold setCharge stepDown
  dsimp only
  repeat' split
  all_goals first | rfl | exact latchEncl_bayLatches _ _ _

theorem setCharge_aside {b c : Bay} (h : b ≠ c) (x : Nat) (s : State) : Aside b s (setCharge c x s) :=
  .of_power (setCharge_bays c x s) (setCharge_line c x s) (setCharge_now c x s) (setCharge_fwd c x s)
    (setCharge_bayLatches c x s) (setCharge_powerKept c x s).1 (by rw [setCharge_charge, getElem_put_ne _ _ h])
    (by rw [setCharge_queue]; exact id)

theorem setFilter_aside (b c : Bay) (x : OcFilter) (s : State) : Aside b s (setFilter c x s) :=
  .of_power rfl rfl rfl rfl rfl rfl rfl fun h => h

theorem flush_aside {b c : Bay} (h : b ≠ c) (s : State) : Aside b s (flush c s) :=
  .of_fwd (flush_bays c s) (flush_power c s) (flush_line c s) (flush_now c s) (by rw [flush_ev])
    fun k => (flush_portKept h s k.waiting).quiet k

theorem Aside.ite {b : Bay} {s t u : State} {p : Prop} [Decidable p] (h : Aside b s t) (k : Aside b s u) :
    Aside b s (if p then t else u) := by
  split
  · exact h
  · exact k

/-- The first part of leaving power: the record, the charge, the filter and the port. -/
def unpowered (b : Bay) (s : State) : State := flush b (setFilter b .clear (setCharge b 0 (modBay b unpowerRecord s)))

theorem leavePower_eq (b : Bay) (s : State) : leavePower b s =
    (fun u => if s.bays[b].state = .starting then ask u else u) (modLight b (fun u => { u with window := none })
      (if s.bays[b].state = .online then modTherm b clearReading (clearLearned (.bay b) (unpowered b s))
        else unpowered b s)) := rfl

theorem unpowered_aside {b c : Bay} (h : b ≠ c) (s : State) : Aside b s (unpowered c s) :=
  (((modBay_aside h unpowerRecord s).trans (setCharge_aside h 0 _)).trans (setFilter_aside b c .clear _)).trans (flush_aside h _)

theorem leavePower_aside {b c : Bay} (h : b ≠ c) (s : State) : Aside b s (leavePower c s) := by
  have port := unpowered_aside h s
  have offline : Aside b s (if s.bays[c].state = .online
      then modTherm c clearReading (clearLearned (.bay c) (unpowered c s)) else unpowered c s) :=
    .ite ((port.trans (clearLearned_aside b _ _)).trans (modTherm_aside b c _ _)) port
  have dark := offline.trans (modLight_aside b c (fun u => { u with window := none }) _)
  rw [leavePower_eq]
  exact .ite (dark.trans (ask_aside b _)) dark

/-- What leaving power does past its first part. -/
theorem leavePower_parts (b : Bay) (s : State) :
    (leavePower b s).fwd = (unpowered b s).fwd ∧ (leavePower b s).ev = (unpowered b s).ev ∧
      (leavePower b s).power.classes = (unpowered b s).power.classes ∧
      (leavePower b s).power.ocFilter = (unpowered b s).power.ocFilter ∧
      (leavePower b s).power.queue = (unpowered b s).power.queue ∧
      (leavePower b s).light.bays = upd (unpowered b s).light.bays b (fun u => { u with window := none }) ∧
      (leavePower b s).route.statics = (unpowered b s).route.statics := by
  rw [leavePower_eq]
  generalize unpowered b s = u
  dsimp only
  split <;> split <;> exact ⟨rfl, rfl, rfl, rfl, rfl, rfl, rfl⟩

theorem leavePower_quiet (b : Bay) (s : State) : DisabledQuiet (leavePower b s) b := by
  obtain ⟨fwd, -⟩ := leavePower_parts b s
  have quiet : DisabledQuiet (unpowered b s) b := (flush_quiet b _).1
  exact quiet.congr (by rw [fwd]) (by rw [fwd]) (by rw [fwd])

theorem leavePower_lights (b : Bay) (s : State) :
    (leavePower b s).light.bays[b] = { s.light.bays[b] with window := none } := by
  obtain ⟨-, -, -, -, -, lights, -⟩ := leavePower_parts b s
  have same : (unpowered b s).light.bays[b] = s.light.bays[b] := by
    unfold unpowered
    rw [(flush_quiet b _).2, setFilter_light, setCharge_light, modBay_light]
  rw [lights, getElem_upd_same, same]

theorem leavePower_filter (b : Bay) (s : State) : (leavePower b s).power.ocFilter[b] = .clear := by
  obtain ⟨-, -, -, filter, -⟩ := leavePower_parts b s
  rw [filter]
  unfold unpowered
  rw [flush_power]
  exact getElem_put_same _ _ _

theorem leavePower_classes (b : Bay) (s : State) : (leavePower b s).power.classes = s.power.classes := by
  obtain ⟨-, -, classes, -⟩ := leavePower_parts b s
  rw [classes]
  unfold unpowered
  rw [flush_power]
  exact (setCharge_powerKept b 0 _).1

theorem leavePower_queue (b : Bay) (s : State) : (leavePower b s).power.queue = s.power.queue := by
  obtain ⟨-, -, -, -, queue, -⟩ := leavePower_parts b s
  rw [queue]
  unfold unpowered
  rw [flush_power, setFilter_queue, setCharge_queue, modBay_power]

/-- An ONLINE bay loses its learned slot and its reading; no other slot or reading changes (R93, R114). -/
theorem leavePower_routes (b : Bay) (s : State) :
    (leavePower b s).route.statics = s.route.statics ∧
      (leavePower b s).route.learned =
        (if s.bays[b].state = .online then put s.route.learned (portIdx (.bay b)) none else s.route.learned) ∧
      (leavePower b s).therm.records =
        if s.bays[b].state = .online then upd s.therm.records b clearReading else s.therm.records := by
  have route : (unpowered b s).route = s.route := by
    unfold unpowered; rw [flush_route, setFilter_route, setCharge_route, modBay_route]
  have therm : (unpowered b s).therm = s.therm := by
    unfold unpowered; rw [flush_therm, setFilter_therm, setCharge_therm, modBay_therm]
  rw [leavePower_eq, ← route, ← therm]
  generalize unpowered b s = u
  dsimp only
  split <;> split <;> exact ⟨rfl, rfl, rfl⟩

theorem leavePower_grows (b : Bay) (s : State) : Grows s (leavePower b s) := by
  obtain ⟨fwd, -⟩ := leavePower_parts b s
  have up : (setFilter b .clear (setCharge b 0 (modBay b unpowerRecord s))).fwd.up = s.fwd.up := by
    rw [setFilter_fwd, setCharge_fwd, modBay_fwd]
  have flushed : Grows s (unpowered b s) := (Grows.of_up up).trans (flush_grows b _)
  exact flushed.trans (.of_up (by rw [fwd]))

/-! ### Removal (R11, R23) -/

/-- A bay that is about to be emptied: out of power, out of the queue. -/
def evicted (b : Bay) (s : State) : State :=
  (fun u => if s.bays[b].state = .queued then leaveQueue b u else u) (if powered s.bays[b].state then leavePower b s else s)

theorem remove_eq (b : Bay) (s : State) :
    remove b s = latchBay b .removed (modLight b clearDriveFlags (modBay b emptyRecord (evicted b s))) := rfl

theorem evicted_aside {b c : Bay} (h : b ≠ c) (s : State) : Aside b s (evicted c s) :=
  have out : Aside b s (if powered s.bays[c].state then leavePower c s else s) := .ite (leavePower_aside h s) (.refl b s)
  .ite (out.trans (leaveQueue_aside b c _)) out

theorem remove_aside {b c : Bay} (h : b ≠ c) (s : State) : Aside b s (remove c s) := by
  rw [remove_eq]
  exact (((evicted_aside h s).trans (modBay_aside h _ _)).trans (modLight_aside b c _ _)).trans (latchBay_aside b c _ _)

theorem evicted_of_powered {b : Bay} {s : State} (h : powered s.bays[b].state = true) : evicted b s = leavePower b s := by
  unfold evicted
  dsimp only
  rw [if_neg (fun e => by rw [e] at h; cases h), if_pos h]

theorem evicted_of_queued {b : Bay} {s : State} (h : s.bays[b].state = .queued) : evicted b s = leaveQueue b s := by
  unfold evicted
  dsimp only
  rw [if_pos h, if_neg (by rw [h]; exact Bool.false_ne_true)]

theorem evicted_of_other {b : Bay} {s : State} (h : powered s.bays[b].state = false) (hq : s.bays[b].state ≠ .queued) :
    evicted b s = s := by
  unfold evicted
  dsimp only
  rw [if_neg hq, if_neg (by rw [h]; exact Bool.false_ne_true)]

/-- The three ways to be evicted. -/
theorem evicted_cases (b : Bay) (s : State) : (powered s.bays[b].state = true ∧ evicted b s = leavePower b s) ∨
    (powered s.bays[b].state = false ∧ s.bays[b].state = .queued ∧ evicted b s = leaveQueue b s) ∨
    (powered s.bays[b].state = false ∧ s.bays[b].state ≠ .queued ∧ evicted b s = s) := by
  by_cases hp : powered s.bays[b].state = true
  · exact .inl ⟨hp, evicted_of_powered hp⟩
  · have off : powered s.bays[b].state = false := Bool.not_eq_true _ ▸ hp
    by_cases hq : s.bays[b].state = .queued
    · exact .inr (.inl ⟨off, hq, evicted_of_queued hq⟩)
    · exact .inr (.inr ⟨off, hq, evicted_of_other off hq⟩)

theorem remove_record (b : Bay) (s : State) : (remove b s).bays[b] =
    emptyRecord (if powered s.bays[b].state then unpowerRecord s.bays[b] else s.bays[b]) := by
  rw [remove_eq, latchBay_bays, modLight_bays, modBay_bays, getElem_upd_same]
  rcases evicted_cases b s with ⟨hp, e⟩ | ⟨hp, -, e⟩ | ⟨hp, -, e⟩
  · rw [e, hp, leavePower_bays, getElem_upd_same]; rfl
  · rw [e, hp]; rfl
  · rw [e, hp]; rfl

theorem remove_latch (b : Bay) (s : State) : ((remove b s).ev.bayLatches[b])[BayEvent.removed.idx] = true :=
  latchBay_sets b .removed _

/-- A removed bay is out of the queue, unless it stood there in a state that is not QUEUED. -/
theorem remove_unqueued (b : Bay) (s : State)
    (h : s.bays[b].state = .queued ∨ b ∉ s.power.queue.map QueueEntry.bay) :
    b ∉ (remove b s).power.queue.map QueueEntry.bay := by
  rw [remove_eq, latchBay_power, modLight_power, modBay_power]
  have dropped : b ∉ (leaveQueue b s).power.queue.map QueueEntry.bay := fun k => by
    obtain ⟨e, he, eq⟩ := List.mem_map.1 k
    exact (mem_dropEntry.1 he).2 eq
  rcases evicted_cases b s with ⟨hp, e⟩ | ⟨-, -, e⟩ | ⟨-, hq, e⟩
  · rw [e, leavePower_queue]
    exact h.resolve_left fun hq => by rw [hq] at hp; cases hp
  · rw [e]; exact dropped
  · rw [e]; exact h.resolve_left hq

theorem remove_lights (b : Bay) (s : State) : (remove b s).light.bays[b] = clearDriveFlags
    (if powered s.bays[b].state then { s.light.bays[b] with window := none } else s.light.bays[b]) := by
  rw [remove_eq, latchBay_light, modLight_lights, getElem_upd_same, modBay_light]
  rcases evicted_cases b s with ⟨hp, e⟩ | ⟨hp, -, e⟩ | ⟨hp, -, e⟩
  · rw [e, hp, leavePower_lights]; rfl
  · rw [e, hp]; rfl
  · rw [e, hp]; rfl

theorem remove_grows (b : Bay) (s : State) : Grows s (remove b s) := by
  have out : Grows s (evicted b s) := by
    rcases evicted_cases b s with ⟨-, e⟩ | ⟨-, -, e⟩ | ⟨-, -, e⟩
    · rw [e]; exact leavePower_grows b s
    · rw [e]; exact .of_up rfl
    · rw [e]; exact .of_up rfl
  rw [remove_eq]
  exact out.trans (.of_up (by rw [latchBay_fwd, modLight_fwd, modBay_fwd]))

end Sys2Proof.Machine

namespace Sys2Proof.Machine

/-! ### The end of a step, seen from one bay -/

theorem setCharge_filter (b : Bay) (x : Nat) (s : State) : (setCharge b x s).power.ocFilter = s.power.ocFilter := by
  have lowered (k : EnclEvent) (y : Nat) (u : State) : (ask (latchEncl k y u)).power.ocFilter = u.power.ocFilter :=
    (show (latchEncl k y u).power.ocFilter = u.power.ocFilter by rw [latchEncl_power])
  unfold setCharge stepDown
  dsimp only
  repeat' split
  all_goals first | rfl | exact lowered _ _ _

theorem admitBay_bayLatches (b : Bay) (s : State) : (admitBay b s).ev.bayLatches = s.ev.bayLatches := by
  have charged (x : Nat) (f : BayRecord → BayRecord) (q : List QueueEntry) :
      (setCharge b x (modBay b f { s with power := { s.power with queue := q } })).ev.bayLatches = s.ev.bayLatches :=
    setCharge_bayLatches b x _
  unfold admitBay
  dsimp only
  split <;> exact charged _ _ _

theorem admitBay_filter_ne {a b : Bay} (h : b ≠ a) (s : State) :
    (admitBay a s).power.ocFilter[b] = s.power.ocFilter[b] := by
  have kept (x : Nat) (y : OcFilter) (f : BayRecord → BayRecord) (q : List QueueEntry) :
      (put (setCharge a x (modBay a f { s with power := { s.power with queue := q } })).power.ocFilter a y)[b] =
        s.power.ocFilter[b] := by
    rw [getElem_put_ne _ _ h, setCharge_filter]
    rfl
  unfold admitBay
  dsimp only
  split <;> exact kept _ _ _ _

theorem attempt_bayLatches (s : State) : (attempt s).ev.bayLatches = s.ev.bayLatches :=
  attempt_induction (fun t => t.ev.bayLatches = s.ev.bayLatches) (fun t b _ _ h => (admitBay_bayLatches b t).trans h) s rfl

theorem attempt_unqueued (b : Bay) (s : State) (h : b ∉ s.power.queue.map QueueEntry.bay) :
    b ∉ (attempt s).power.queue.map QueueEntry.bay :=
  attempt_induction (fun t => b ∉ t.power.queue.map QueueEntry.bay) (fun t a _ _ h k => h (by
    rw [admitBay_queue] at k
    obtain ⟨e, he, rfl⟩ := List.mem_map.1 k
    exact List.mem_map_of_mem (mem_dropEntry.1 he).1)) s h

/-- An attempt leaves the filter of a bay that is not QUEUED. -/
theorem attempt_filter (b : Bay) (s : State) (hq : (view s).Queued) (hb : s.bays[b].state ≠ .queued) :
    (attempt s).power.ocFilter[b] = s.power.ocFilter[b] := by
  refine (attempt_induction (fun t => (view t).Queued ∧ t.bays[b] = s.bays[b] ∧ t.power.ocFilter[b] = s.power.ocFilter[b])
    (fun t a _ hw h => ?_) s ⟨hq, rfl, rfl⟩).2.2
  obtain ⟨queued, record, filter⟩ := h
  obtain ⟨e, he, rfl⟩ := List.mem_map.1 (walk_mem hw)
  have ne : b ≠ e.bay := fun k => hb (by rw [← record, k]; exact queued e he)
  exact ⟨(admitBay_runs _ t hw).1.keep (fun _ _ => Effect.keeps_queued) queued,
    by rw [admitBay_bays, getElem_upd_ne _ _ ne, record], (admitBay_filter_ne ne t).trans filter⟩

theorem attempt_aside (b : Bay) (s : State) (hq : (view s).Queued) : Aside b s (attempt s) where
  bay := attempt_atMostAdmitted b s hq
  classes := (attempt_powerKept s).1
  unit := by rw [attempt_line]
  setting := by rw [attempt_line]
  now := attempt_now s
  latches k hk := by rw [attempt_bayLatches]; exact hk
  queue := attempt_unqueued b s
  port h := h.congr (by rw [attempt_fwd]) (by rw [attempt_fwd]) (by rw [attempt_fwd])

theorem attemptIfAsked_aside (b : Bay) (s : State) (hq : (view s).Queued) : Aside b s (attemptIfAsked s) := by
  have unasked : Aside b s { s with power := { s.power with attemptAsked := false } } :=
    .of_power rfl rfl rfl rfl rfl rfl rfl fun h => h
  exact .ite (unasked.trans (attempt_aside b { s with power := { s.power with attemptAsked := false } } hq)) (.refl b s)

theorem refresh_aside (b : Bay) (s : State) : Aside b s (refreshBlocks (refreshHot s)) := by
  have hot : Aside b s (refreshHot s) := .of_frame rfl rfl rfl rfl rfl fun _ h => h
  have blocked (v : Vector Bool 4) (u : State) : Aside b u { u with power := { u.power with blocked := v } } :=
    .of_power rfl rfl rfl rfl rfl rfl rfl fun h => h
  exact hot.trans (.ite ((blocked _ _).trans (ask_aside b _)) (blocked _ _))

theorem releaseLoop_bay (b : Bay) (n : Nat) (p : UpPort) (s : State) :
    PortKept b s (releaseLoop n p s) ∧ (releaseLoop n p s).ev.bayLatches = s.ev.bayLatches ∧ Grows s (releaseLoop n p s) := by
  induction n generalizing s with
  | zero => exact ⟨.refl b s, rfl, .of_up rfl⟩
  | succ n ih =>
    rw [releaseLoop]
    split
    · next x rest l _ _ =>
      split
      · obtain ⟨port, latches, grows⟩ := ih (pushPriority p ⟨noticeFrame (switchAddr s) l.addr x, .built⟩
          { s with ev := { s.ev with notices := put s.ev.notices (upIdx p) rest } })
        exact ⟨PortKept.trans ⟨rfl, rfl, rfl, rfl⟩ port, latches,
          Grows.trans (pushPriority_grows p _ { s with ev := { s.ev with notices := put s.ev.notices (upIdx p) rest } }) grows⟩
      · exact ⟨.refl b s, rfl, .of_up rfl⟩
    · exact ⟨.refl b s, rfl, .of_up rfl⟩

theorem release_aside (b : Bay) (p : UpPort) (s : State) : Aside b s (release p s) := by
  obtain ⟨port, latches, -⟩ := releaseLoop_bay b (s.ev.notices[upIdx p].length) p s
  exact .of_fwd (release_bays p s) (release_power p s) (release_line p s) (release_now p s) latches port.quiet

theorem release_grows (p : UpPort) (s : State) : Grows s (release p s) :=
  (releaseLoop_bay 0 (s.ev.notices[upIdx p].length) p s).2.2

theorem drivePins_aside (b : Bay) (s : State) : Aside b s (drivePins s) where
  bay := .of_eq rfl rfl
  classes := rfl
  unit := by rw [drivePins_unit]; rfl
  setting := rfl
  now := rfl
  latches _ h := h
  queue h := h
  port h := ⟨h.queue, h.transmitting, h.waiting⟩

theorem finish_aside (b : Bay) (s : State) : Aside b s (finish s) := by
  have alert (u : State) : Aside b u (driveAlert u) := .of_frame rfl rfl rfl rfl rfl fun _ h => h
  exact (((release_aside b .u0 s).trans (release_aside b .u1 _)).trans (alert _)).trans (drivePins_aside b _)

theorem finish_grows (s : State) : Grows s (finish s) :=
  ((release_grows .u0 s).trans (release_grows .u1 _)).trans (.of_up rfl)

theorem refresh_queued {s : State} (hq : (view s).Queued) : (view (refreshBlocks (refreshHot s))).Queued :=
  ((quiet_refreshHot s).trans (quiet_refreshBlocks _)).1 ▸ hq

/-- The end of a step may bring the admission of a bay, and does nothing else to it. -/
theorem settle_aside (b : Bay) (s : State) (hq : (view s).Queued) : Aside b s (settle s) := by
  rw [settle_eq]
  exact ((refresh_aside b s).trans (attemptIfAsked_aside b _ (refresh_queued hq))).trans (finish_aside b _)

theorem settle_grows (s : State) : Grows s (settle s) := by
  rw [settle_eq]
  exact (Grows.of_up (by simp)).trans (finish_grows _)

theorem attemptIfAsked_filter (b : Bay) (s : State) (hq : (view s).Queued) (hb : s.bays[b].state ≠ .queued) :
    (attemptIfAsked s).power.ocFilter[b] = s.power.ocFilter[b] := by
  unfold attemptIfAsked
  split
  · exact attempt_filter b { s with power := { s.power with attemptAsked := false } } hq hb
  · rfl

theorem refresh_filter (s : State) : (refreshBlocks (refreshHot s)).power.ocFilter = s.power.ocFilter := by
  unfold refreshBlocks
  dsimp only
  split <;> rfl

theorem settle_filter (b : Bay) (s : State) (hq : (view s).Queued) (hb : s.bays[b].state ≠ .queued) :
    (settle s).power.ocFilter[b] = s.power.ocFilter[b] := by
  have bays : (refreshBlocks (refreshHot s)).bays[b] = s.bays[b] := by simp
  have tried := attemptIfAsked_filter b _ (refresh_queued hq) (by rw [bays]; exact hb)
  rw [settle_eq, finish_power, tried, refresh_filter]

theorem pinLevel_inactive {x : Level} {pol : Polarity} (h : x ≠ pinLevel pol true) : x = pinLevel pol false := by
  revert h
  cases x <;> cases pol <;> decide

/-- A bay without power has its PWR line inactive. -/
theorem PwrKept.inactive {s : State} (h : PwrKept s) {b : Bay} (off : powered s.bays[b].state = false) :
    s.line.bays[b].pwrPin = pinLevel s.line.bays[b].record.pwrPol false :=
  pinLevel_inactive fun e => by rw [(powered_iff _).2 ((h b).1 e)] at off; cases off

theorem settle_lightBays (s : State) : (settle s).light.bays = s.light.bays := by
  rw [settle_eq]
  unfold finish
  simp

theorem settle_records (s : State) : (settle s).therm.records = s.therm.records := by
  rw [settle_eq]
  unfold finish
  simp

theorem finish_alert (s : State) : (finish s).ev.alert = alertCondition (finish s) := by
  have same : alertCondition (finish s) = (finish s).ev.alert := alertCondition_congr (by simp [finish]) (by simp [finish])
  exact same.symm

theorem settle_alert (s : State) : (settle s).ev.alert = alertCondition (settle s) := by
  rw [settle_eq]
  exact finish_alert _

end Sys2Proof.Machine

namespace Sys2Proof.Machine

/-! ### A removal takes a bay out of power (R22, R23) -/

/-- What a removal does to a bay with power is done by leaving power. -/
theorem remove_of_powered {b : Bay} {s : State} (h : powered s.bays[b].state = true) :
    (remove b s).power = (leavePower b s).power ∧ (remove b s).fwd = (leavePower b s).fwd ∧
      (remove b s).route = (leavePower b s).route ∧ (remove b s).therm = (leavePower b s).therm := by
  rw [remove_eq, evicted_of_powered h]
  generalize leavePower b s = u
  exact ⟨(latchBay_power b .removed _).trans rfl, (latchBay_fwd b .removed _).trans rfl,
    (latchBay_route b .removed _).trans rfl, (latchBay_therm b .removed _).trans rfl⟩

theorem remove_charge {b : Bay} {s : State} (h : powered s.bays[b].state = true) : (remove b s).power.charge[b] = 0 := by
  rw [(remove_of_powered h).1, leavePower_charge, getElem_put_same]

theorem remove_quiet {b : Bay} {s : State} (h : powered s.bays[b].state = true) : DisabledQuiet (remove b s) b := by
  have fwd := (remove_of_powered h).2.1
  exact (leavePower_quiet b s).congr (by rw [fwd]) (by rw [fwd]) (by rw [fwd])

theorem remove_state (b : Bay) (s : State) : (remove b s).bays[b].state = .empty := by rw [remove_record]; rfl

theorem presenceEdge_remove {b : Bay} {s : State} (h : s.line.bays[b].presence = .absent) (empty : s.bays[b].state ≠ .empty)
    (seating : s.bays[b].state ≠ .seating) (test : s.bays[b].state ≠ .test) : presenceEdge b s = remove b s := by
  unfold presenceEdge
  rw [h]
  generalize s.bays[b].state = x at *
  cases x <;> first | rfl | contradiction

/-- A bay that is EMPTY before the end of a step stays as it is. -/
theorem settle_record {b : Bay} {s : State} (hq : (view s).Queued) (hb : s.bays[b].state ≠ .queued) :
    (settle s).bays[b] = s.bays[b] ∧ (settle s).power.charge[b] = s.power.charge[b] :=
  (settle_aside b s hq).bay.eq hb

/-- The step of a removal takes the bay out of power. -/
theorem leftPower_remove {b : Bay} {s : State} (h : powered s.bays[b].state = true) (hq : (view (remove b s)).Queued) :
    LeftPower b s (settle (remove b s)) := by
  have empty : (remove b s).bays[b].state ≠ .queued := by rw [remove_state]; exact BayState.noConfusion
  obtain ⟨record, charge⟩ := settle_record hq empty
  rw [remove_record, if_pos h] at record
  obtain ⟨power, -, route, therm⟩ := remove_of_powered h
  obtain ⟨statics, learned, records⟩ := leavePower_routes b s
  exact
    { charge := charge.trans (remove_charge h)
      record := by simp only [record, emptyRecord, unpowerRecord, and_self]
      trips := by simp only [record, emptyRecord, unpowerRecord, and_self]
      settings := by simp only [record, emptyRecord, unpowerRecord, and_self]
      filter := by rw [settle_filter b _ hq empty, power, leavePower_filter]
      port := (settle_aside b _ hq).port (remove_quiet h)
      slot := fun online => by rw [settle_route, route, learned, if_pos online, getElem_put_same]
      reading := fun online => by rw [settle_records, therm, records, if_pos online, getElem_upd_same]
      window := by rw [settle_lightBays, remove_lights, if_pos h]; rfl
      pwr := (settle_pwrKept _).inactive (by rw [record]; rfl)
      others := fun c hc => ((remove_aside hc s).trans (settle_aside c _ hq)).bay.untouchedOrAdmitted
      otherSlots := fun q hq => by
        rw [settle_route, route, learned]
        split
        · exact getElem_put_ne _ _ (portIdx_ne hq)
        · rfl
      otherReadings := fun c hc => by
        rw [settle_records, therm, records]
        split
        · exact getElem_upd_ne _ _ hc
        · rfl
      statics := by rw [settle_route, route, statics]
      classes := by rw [(settle_aside b _ hq).classes, power, leavePower_classes]
      cooling := by rw [settle_cool, remove_cool] }

theorem LeftPower.of_line {b c : Bay} {f : LineUnit → LineUnit} {s t : State} (h : LeftPower b (modLine c f s) t) :
    LeftPower b s t := { h with }

/-- The unit of a bay whose drive is pulled out. -/
def unitLost (u : LineUnit) : LineUnit := { u with prsIn := .released, presence := .absent }

theorem presenceLost_eq {b : Bay} {s : State} (present : s.line.bays[b].presence = .present) (empty : s.bays[b].state ≠ .empty)
    (seating : s.bays[b].state ≠ .seating) (test : s.bays[b].state ≠ .test) :
    setConnector b .released s = remove b (modLine b unitLost s) :=
  (presenceLost_edge present).trans
    (presenceEdge_remove (by rw [modLine_lines, getElem_upd_same]) empty seating test)

theorem exec_presenceLost (b : Bay) (s : State) : exec (.presenceLost b) s = .next (settle (setConnector b .released s)) := rfl

/-- The lights of a removed bay: the drive's flags are out, LOCATE stays (R159). -/
theorem remove_flags (b : Bay) (s : State) : (remove b s).light.bays[b].locate = s.light.bays[b].locate ∧
    (remove b s).light.bays[b].controllerFault = false ∧ (remove b s).light.bays[b].rebuild = false ∧
    (remove b s).light.bays[b].predictedFault = false := by
  rw [remove_lights]
  split <;> exact ⟨rfl, rfl, rfl, rfl⟩

/-- Settles O22: the edge is a removal; what it leaves of its bay and of the others, the end of the step keeps. -/
theorem removalEmptiesTheBay : Obligations.RemovalEmptiesTheBay := by
  intro b s h present empty seating test
  have edge := presenceLost_eq present empty seating test
  have hq : (view (remove b (modLine b unitLost s))).Queued :=
    edge ▸ (setConnector_runs b .released s).1.keep (fun _ _ => Effect.keeps_queued) h.queued
  have member : s.bays[b].state = .queued ∨ b ∉ s.power.queue.map QueueEntry.bay :=
    or_iff_not_imp_left.2 fun other joined => other ((h.queue.member b).1 joined)
  have lost : (modLine b unitLost s).line.bays[b].presence = .absent := by rw [modLine_lines, getElem_upd_same]; rfl
  have others (c : Bay) (hc : c ≠ b) := ((modLine_aside hc unitLost s).trans (remove_aside hc _)).trans (settle_aside c _ hq)
  have keeps := settle_aside b _ hq
  obtain ⟨record, -⟩ := settle_record (b := b) hq (by rw [remove_state]; exact BayState.noConfusion)
  rw [remove_record] at record
  have absent := congrArg LineUnit.presence keeps.unit
  rw [remove_line] at absent
  have flags := remove_flags b (modLine b unitLost s)
  rw [← settle_lightBays] at flags
  obtain ⟨locate, controllerFault, rebuild, predictedFault⟩ := flags
  have unqueued := keeps.queue (remove_unqueued b _ member)
  have latched := keeps.latches .removed (remove_latch b _)
  have requests := settle_mgmt (remove b (modLine b unitLost s))
  rw [remove_mgmt] at requests
  have left (on : powered s.bays[b].state = true) := (leftPower_remove (s := modLine b unitLost s) on hq).of_line
  refine ⟨_, exec_presenceLost b s, ?_⟩
  rw [edge]
  generalize settle (remove b (modLine b unitLost s)) = t at *
  exact ⟨by rw [record]; rfl, by rw [record]; rfl, by rw [record]; rfl, by rw [record]; rfl, by rw [record]; rfl,
    absent.trans lost, unqueued, latched, locate, controllerFault, rebuild, predictedFault, congrArg MgmtBlock.requests requests,
    left, fun c hc => (others c hc).bay.untouchedOrAdmitted⟩

end Sys2Proof.Machine

namespace Sys2Proof.Machine

/-! ### Work on one bay after another -/

/-- What holds of each bay while the bays of a list are worked on one by one, each work leaving the other bays aside. -/
theorem foldl_aside (f : State → Bay → State) (ready : State → Bay → Prop)
    (keep : ∀ s t b, Aside b s t → ready s b → ready t b)
    (one : ∀ s b, (view s).Queued → ready s b → (view (f s b)).Queued ∧ ∀ c, c ≠ b → Aside c s (f s b))
    (l : List Bay) (nodup : l.Nodup) (s : State) (hq : (view s).Queued) (h : ∀ b ∈ l, ready s b) :
    (view (l.foldl f s)).Queued ∧ (∀ c, c ∉ l → Aside c s (l.foldl f s)) ∧
      ∀ b ∈ l, ∃ u, (view u).Queued ∧ ready u b ∧ Aside b s u ∧ Aside b (f u b) (l.foldl f s) := by
  induction l generalizing s with
  | nil => exact ⟨hq, fun c _ => .refl c s, by simp⟩
  | cons b l ih =>
    obtain ⟨hb, hl⟩ := List.nodup_cons.1 nodup
    have here : ready s b := h b (by simp)
    obtain ⟨queued, others⟩ := one s b hq here
    have apart (c : Bay) (hc : c ∈ l) : c ≠ b := fun e => hb (e ▸ hc)
    obtain ⟨final, aside, worked⟩ := ih hl (f s b) queued
      fun c hc => keep _ _ c (others c (apart c hc)) (h c (List.mem_cons_of_mem b hc))
    refine ⟨final, fun c hc => ?_, fun c hc => ?_⟩
    · rw [List.mem_cons, not_or] at hc
      exact (others c hc.1).trans (aside c hc.2)
    · rcases List.mem_cons.1 hc with rfl | hc
      · exact ⟨s, hq, here, .refl c s, aside c hb⟩
      · obtain ⟨u, uq, ur, before, after⟩ := worked c hc
        exact ⟨u, uq, ur, (others c (apart c hc)).trans before, after⟩

/-- What the unit of a bay that is left aside keeps. -/
theorem Aside.unit_kept {b : Bay} {s t : State} (h : Aside b s t) : t.line.bays[b].record = s.line.bays[b].record ∧
    t.line.bays[b].presence = s.line.bays[b].presence ∧ t.line.bays[b].debounce = s.line.bays[b].debounce ∧
    t.line.bays[b].inGroup = s.line.bays[b].inGroup ∧ t.line.bays[b].edges = s.line.bays[b].edges ∧
    t.line.bays[b].prsIn = s.line.bays[b].prsIn := by
  have core := h.unit
  simp only [LineUnit.core, LineUnit.mk.injEq] at core
  simp only [core, and_self]

theorem Aside.inGroup {b : Bay} {s t : State} (h : Aside b s t) : t.line.bays[b].inGroup = s.line.bays[b].inGroup :=
  h.unit_kept.2.2.2.1

/-! ### A bay that is seated (R24) -/

/-- A bay whose record was `r` is seated by its policy; under AUTO it may have been admitted since. -/
structure SeatedBy (b : Bay) (r : BayRecord) (t : State) : Prop where
  latch : (t.ev.bayLatches[b])[BayEvent.inserted.idx] = true
  manual : r.policy = .manual → t.bays[b] = { r with state := .off, hold := none }
  auto : r.policy = .auto → (t.bays[b].state = .queued ∨ t.bays[b].state = .starting) ∧ t.bays[b].retriesLeft = r.retriesSetting ∧
    t.bays[b].prior = r.prior ∧ t.bays[b].hold = r.hold

theorem seat_manual {b : Bay} {s : State} (h : s.bays[b].policy = .manual) : seat b s =
    latchBay b .inserted (modBay b (fun r => { r with state := .off, hold := none }) (modLine b unitSeated s)) := by
  unfold seat
  dsimp only
  rw [modLine_bays, h]
  rfl

theorem seat_auto {b : Bay} {s : State} (h : s.bays[b].policy = .auto) : seat b s =
    latchBay b .inserted (enqueueFresh b .normal (modLine b unitSeated s)) := by
  unfold seat
  dsimp only
  rw [modLine_bays, h]
  rfl

theorem enqueueFresh_record (b : Bay) (c : QueueClass) (s : State) : (enqueueFresh b c s).bays[b] =
    { s.bays[b] with state := .queued, retriesLeft := s.bays[b].retriesSetting } :=
  getElem_upd_same _ _ _

theorem seat_latch (b : Bay) (s : State) : ((seat b s).ev.bayLatches[b])[BayEvent.inserted.idx] = true := by
  unfold seat
  dsimp only
  split <;> exact latchBay_sets b .inserted _

/-- What a seated bay shows after work that leaves it aside. -/
theorem Aside.seatedBy {b : Bay} {s t : State} (h : Aside b (seat b s) t) : SeatedBy b s.bays[b] t where
  latch := h.latches .inserted (seat_latch b s)
  manual hm := by
    have record : (seat b s).bays[b] = { s.bays[b] with state := .off, hold := none } := by
      rw [seat_manual hm, latchBay_bays, modBay_bays, getElem_upd_same, modLine_bays]
    rw [h.record (by rw [record]; exact BayState.noConfusion), record]
  auto ha := by
    have record : (seat b s).bays[b] = { s.bays[b] with state := .queued, retriesLeft := s.bays[b].retriesSetting } := by
      rw [seat_auto ha, latchBay_bays, enqueueFresh_record, modLine_bays]
    rcases h.bay with ⟨e, -⟩ | ⟨-, ⟨x, e⟩, -⟩
    · rw [e, record]; exact ⟨.inl rfl, rfl, rfl, rfl⟩
    · rw [e, record]; exact ⟨.inr rfl, rfl, rfl, rfl⟩

/-- The queue holds QUEUED bays alone after a bay that was not QUEUED is seated. -/
theorem seat_queued {b : Bay} {s : State} (hq : (view s).Queued) (hb : s.bays[b].state ≠ .queued) : (view (seat b s)).Queued := by
  intro e he
  have state (c : Bay) (hc : c ≠ b) : (seat b s).bays[c].state = s.bays[c].state := by rw [seat_bays_ne b c s hc]
  have other (he : e ∈ s.power.queue) : (seat b s).bays[e.bay].state = .queued :=
    (state e.bay fun k => hb (k ▸ hq e he)).trans (hq e he)
  cases h : s.bays[b].policy with
  | auto =>
    have queue : (seat b s).power.queue = joinClass ⟨b, .normal⟩ (dropEntry b s.power.queue) := by
      rw [seat_auto h, latchBay_power]; rfl
    change e ∈ (seat b s).power.queue at he
    rw [queue] at he
    rcases mem_joinClass he with rfl | he
    · show (seat b s).bays[b].state = .queued
      rw [seat_auto h, latchBay_bays, enqueueFresh_record]
    · exact other (mem_dropEntry.1 he).1
  | manual =>
    have queue : (seat b s).power.queue = s.power.queue := by rw [seat_manual h, latchBay_power]; rfl
    change e ∈ (seat b s).power.queue at he
    rw [queue] at he
    exact other he

/-! ### SCAN_GROUP_EXPIRY (R12) -/

/-- The bays of the group are seated in turn, with an attempt after each. -/
def seatGroup (l : List Bay) (s : State) : State := l.foldl (fun s b => attemptIfAsked (seat b s)) s

/-- Each bay of the group is seated, and stands aside while the others are. -/
theorem seatGroup_aside (l : List Bay) (nodup : l.Nodup) (s : State) (hq : (view s).Queued)
    (seating : ∀ b ∈ l, s.bays[b].state = .seating) :
    (view (seatGroup l s)).Queued ∧ (∀ c, c ∉ l → Aside c s (seatGroup l s)) ∧
      ∀ b ∈ l, ∃ u, u.bays[b] = s.bays[b] ∧ Aside b (seat b u) (seatGroup l s) := by
  have queued (s : State) (b : Bay) (hq : (view s).Queued) (hb : s.bays[b].state = .seating) : (view (seat b s)).Queued :=
    seat_queued hq (by rw [hb]; exact BayState.noConfusion)
  obtain ⟨final, aside, worked⟩ := foldl_aside (fun s b => attemptIfAsked (seat b s)) (fun s b => s.bays[b].state = .seating)
    (fun s t b h hb => by rw [h.record (by rw [hb]; exact BayState.noConfusion), hb])
    (fun s b hq hb => ⟨(attemptIfAsked_runs _).1.keep (fun _ _ => Effect.keeps_queued) (queued s b hq hb),
      fun c hc => (seat_aside hc s).trans (attemptIfAsked_aside c _ (queued s b hq hb))⟩) l nodup s hq seating
  refine ⟨final, aside, fun b hb => ?_⟩
  obtain ⟨u, uq, ub, before, after⟩ := worked b hb
  exact ⟨u, before.record (by rw [seating b hb]; exact BayState.noConfusion),
    (attemptIfAsked_aside b _ (queued u b uq ub)).trans after⟩

theorem seatGroup_frame (l : List Bay) (s : State) : (seatGroup l s).now = s.now ∧
    (seatGroup l s).line.groupTimer = s.line.groupTimer ∧ (seatGroup l s).mgmt = s.mgmt ∧ (seatGroup l s).route = s.route ∧
    (seatGroup l s).cool = s.cool ∧ (seatGroup l s).light = s.light := by
  unfold seatGroup
  refine ⟨foldl_keeps State.now _ (fun s b => ?_) l s, foldl_keeps (fun s => s.line.groupTimer) _ (fun s b => ?_) l s,
    foldl_keeps State.mgmt _ (fun s b => ?_) l s, foldl_keeps State.route _ (fun s b => ?_) l s,
    foldl_keeps State.cool _ (fun s b => ?_) l s, foldl_keeps State.light _ (fun s b => ?_) l s⟩
  case refine_2 => rw [attemptIfAsked_line, seat_line]; rfl
  all_goals simp

theorem settle_groupTimer (s : State) : (settle s).line.groupTimer = s.line.groupTimer := by
  rw [settle_eq]
  unfold finish
  simp [drivePins]

/-- The state in which the group's bays are seated: the timer is over. -/
def groupDue (e : Nat) (s : State) : State := advance e { s with line := { s.line with groupTimer := none } }

theorem exec_scanGroupExpiry {s : State} {e : Nat} (h : s.line.groupTimer = some e) :
    exec .scanGroupExpiry s = .next (settle (seatGroup (groupBays (groupDue e s)) (groupDue e s))) := by
  change execScanGroupExpiry s = _
  unfold execScanGroupExpiry
  rw [h]
  rfl

theorem mem_groupBays {s : State} {b : Bay} :
    b ∈ groupBays s ↔ s.line.bays[b].inGroup = true ∧ s.bays[b].state = .seating := by
  unfold groupBays
  rw [List.mem_filter, Bool.and_eq_true, decide_eq_true_eq]
  exact and_iff_right (mem_allBays b)

theorem seat_inGroup (b : Bay) (s : State) : (seat b s).line.bays[b].inGroup = false := by
  rw [seat_line, modLine_lines, getElem_upd_same]
  rfl

/-- Settles O24: the members of the group are the bays in it, each is seated once, and the rest of the step leaves it aside. -/
theorem scanGroupExpirySeatsTheGroup : Obligations.ScanGroupExpirySeatsTheGroup := by
  intro s e h lines timer
  have member (b : Bay) : b ∈ groupBays (groupDue e s) ↔ s.line.bays[b].inGroup = true :=
    mem_groupBays.trans (and_iff_left_of_imp fun hb => (lines.group b hb).1)
  obtain ⟨queued, aside, seated⟩ := seatGroup_aside (groupBays (groupDue e s)) (allBays_nodup.filter _) (groupDue e s)
    h.queued fun b hb => (mem_groupBays.1 hb).2
  obtain ⟨now, ended, mgmt, route, cool, light⟩ := seatGroup_frame (groupBays (groupDue e s)) (groupDue e s)
  refine ⟨_, exec_scanGroupExpiry timer, ?_⟩
  generalize seatGroup (groupBays (groupDue e s)) (groupDue e s) = u at *
  refine ⟨by rw [settle_now, now]; rfl, by rw [settle_groupTimer, ended]; rfl, by rw [settle_mgmt, mgmt]; rfl,
    by rw [settle_route, route]; rfl, by rw [settle_cool, cool]; rfl, by rw [settle_lightBays, light]; rfl, fun b => ?_⟩
  have last := settle_aside b u queued
  by_cases hb : s.line.bays[b].inGroup = true
  · obtain ⟨v, record, rest⟩ := seated b ((member b).2 hb)
    have total := rest.trans last
    have out := total.seatedBy
    rw [record] at out
    refine ⟨total.inGroup.trans (seat_inGroup b v), fun _ => ⟨out.latch, out.manual, fun ha => ?_⟩,
      fun k => ?_⟩
    · obtain ⟨state, retries, -⟩ := out.auto ha
      exact ⟨state, retries⟩
    · cases hb.symm.trans k
  · have total := (aside b fun k => hb ((member b).1 k)).trans last
    have free : s.line.bays[b].inGroup = false := Bool.not_eq_true _ ▸ hb
    exact ⟨total.inGroup.trans free, fun k => absurd k hb, fun _ => total.bay.untouchedOrAdmitted⟩

end Sys2Proof.Machine

namespace Sys2Proof.Machine

/-! ### The response of a serving behind what stood at its port (R169, R170) -/

theorem offerResponse_aside (b : Bay) (p : UpPort) (h : Held) (s : State) : Aside b s (offerResponse p h s) := by
  have kept : (offerResponse p h s).fwd.bayQueue = s.fwd.bayQueue ∧ (offerResponse p h s).fwd.transmitting = s.fwd.transmitting ∧
      (offerResponse p h s).fwd.waiting = s.fwd.waiting := by
    unfold offerResponse
    split <;> exact ⟨rfl, rfl, rfl⟩
  obtain ⟨queue, transmitting, waiting⟩ := kept
  exact .of_fwd (offerResponse_bays p h s) (offerResponse_power p h s) (offerResponse_line p h s) (offerResponse_now p h s)
    (by rw [offerResponse_ev]) fun k => k.congr (by rw [queue]) (by rw [transmitting]) (by rw [waiting])

theorem respond_aside (b : Bay) (p : UpPort) (req : Frame) (x : State × Reply) : Aside b x.1 (respond p req x) :=
  (Aside.ite (release_aside b p x.1) (.refl b x.1)).trans (offerResponse_aside b p _ _)

theorem respond_mgmt_requests (p : UpPort) (req : Frame) (x : State × Reply) :
    (respond p req x).mgmt.requests = x.1.mgmt.requests := by
  have released : (if (releasable p x.1 && Config.noticesBeforeResponse) = true then release p x.1 else x.1).mgmt = x.1.mgmt := by
    split
    · exact release_mgmt p x.1
    · rfl
  unfold respond offerResponse
  dsimp only
  generalize (if (releasable p x.1 && Config.noticesBeforeResponse) = true then release p x.1 else x.1) = w at *
  rw [← released]
  split <;> rfl

theorem Grows.length_le {s t : State} (h : Grows s t) (p : UpPort) :
    s.fwd.up[upIdx p].priority.length ≤ t.fwd.up[upIdx p].priority.length := (h p).length_le

/-- A response that is offered joins the priority queue, or is the held response. -/
theorem offered {p : UpPort} {h : Held} {s w t : State} (before : Grows s w) (free : w.mgmt.held = none)
    (after : Grows (offerResponse p h w) t) (mgmt : t.mgmt = (offerResponse p h w).mgmt) :
    (∃ l r : List Held, t.mgmt.held = none ∧
      t.fwd.up[upIdx p].priority = s.fwd.up[upIdx p].priority ++ l ++ h :: r) ∨
    (16 ≤ t.fwd.up[upIdx p].priority.length ∧ t.mgmt.held = some ⟨p, h⟩) := by
  unfold offerResponse at after mgmt
  by_cases room : priorityRoom p w = true
  · rw [if_pos room] at after mgmt
    obtain ⟨l, hl⟩ := before p
    obtain ⟨r, hr⟩ := after p
    rw [pushPriority_up, getElem_upd_same] at hr
    refine .inl ⟨l, r, by rw [mgmt, pushPriority_mgmt, free], ?_⟩
    rw [← hr, ← hl]
    simp
  · rw [if_neg room] at after mgmt
    have full : 16 ≤ w.fwd.up[upIdx p].priority.length := Nat.not_lt.1 fun k => room (decide_eq_true k)
    exact .inr ⟨full.trans (after.length_le p), by rw [mgmt]⟩

theorem switchAddr_congr {s t : State} (h : t.addrStrap = s.addrStrap) : switchAddr t = switchAddr s := by
  unfold switchAddr
  rw [h]

theorem respond_responded {p : UpPort} {req : Frame} {s u : State} {r : Result} {data : List Word} (grows : Grows s u)
    (free : u.mgmt.held = none) (strap : u.addrStrap = s.addrStrap) :
    Responded p req r data s (settle (respond p req (u, ⟨r, data⟩))) := by
  have released (x : Prop) [Decidable x] : Grows u (if x then release p u else u) ∧
      (if x then release p u else u).mgmt.held = none ∧ (if x then release p u else u).addrStrap = s.addrStrap := by
    split
    · exact ⟨release_grows p u, by rw [release_mgmt, free], by rw [release_addrStrap, strap]⟩
    · exact ⟨.of_up rfl, free, strap⟩
  obtain ⟨joined, still, named⟩ := released ((releasable p u && Config.noticesBeforeResponse) = true)
  unfold Responded respond
  dsimp only
  generalize (if (releasable p u && Config.noticesBeforeResponse) = true then release p u else u) = w at *
  rw [← switchAddr_congr named]
  exact offered (grows.trans joined) still (settle_grows _) (settle_mgmt _)

/-- What the state after a serving is, by the state `u` after its effect. -/
structure ServedFrom (p : UpPort) (req : Frame) (r : Result) (data : List Word) (s u t : State) : Prop where
  responded : Responded p req r data s t
  requests : t.mgmt.requests = (takeRequest p s).mgmt.requests
  cool : t.cool = u.cool
  aside : ∀ b : Bay, Aside b u t
  alert : t.ev.alert = alertCondition t

theorem serveCode_served {code : BitVec 16} {n : Nat} {p : UpPort} {req : Frame} {s u : State} {r : Result} {data : List Word}
    {body : UpPort → Frame → State → State × Reply} (serves : Serves code n p req s)
    (effect : body p req (takeRequest p s) = (u, ⟨r, data⟩)) (queued : (view u).Queued) (grows : Grows s u)
    (mgmt : u.mgmt = (takeRequest p s).mgmt) (strap : u.addrStrap = s.addrStrap) :
    ∃ t, serveCode code n body s = .next t ∧ ServedFrom p req r data s u t := by
  refine ⟨_, serveCode_of_serves body serves, ?_⟩
  rw [effect]
  have free : u.mgmt.held = none := by
    have taken : (takeRequest p s).mgmt.held = s.mgmt.held := rfl
    rw [mgmt, taken, nextRequest_free serves.next]
  have still : (view (respond p req (u, ⟨r, data⟩))).Queued := (quiet_respond p req (u, ⟨r, data⟩)).1 ▸ queued
  exact
    { responded := respond_responded grows free strap
      requests := by rw [settle_mgmt, respond_mgmt_requests, mgmt]
      cool := by rw [settle_cool, respond_cool]
      aside := fun b => (respond_aside b p req (u, ⟨r, data⟩)).trans (settle_aside b _ still)
      alert := settle_alert _ }

theorem takeRequest_aside (b : Bay) (p : UpPort) (s : State) : Aside b s (takeRequest p s) :=
  .of_frame rfl rfl rfl rfl rfl fun _ h => h

end Sys2Proof.Machine

namespace Sys2Proof.Machine

/-! ### LINE_TEST_EXIT (R17) -/

/-- The record of a bay that leaves TEST for a state, with the cause that it then has. -/
def leftTest (x : BayState) (cause : Option FaultCause) (r : BayRecord) : BayRecord :=
  { r with state := x, fault := cause, hold := none, prior := none }

/-! The ways out of TEST, as the prior state and the presence name them. -/

section
variable {b : Bay} {s : State}

theorem exitTest_still (prior : s.bays[b].prior = none) : exitTest b s = s := by
  unfold exitTest
  rw [prior]

theorem exitTest_inserted (prior : s.bays[b].prior = some .empty) (x : s.line.bays[b].presence = .present) :
    exitTest b s = startSeating b (modBay b (leftTest .seating none) s) := by
  unfold exitTest
  rw [prior, x]
  rfl

theorem exitTest_empty (prior : s.bays[b].prior = some .empty) (x : s.line.bays[b].presence = .absent) :
    exitTest b s = modBay b (leftTest .empty none) s := by
  unfold exitTest
  rw [prior, x]
  rfl

theorem exitTest_off (prior : s.bays[b].prior = some .off) (x : s.line.bays[b].presence = .present) :
    exitTest b s = modBay b (leftTest .off none) s := by
  unfold exitTest
  rw [prior, x]
  rfl

theorem exitTest_faulted {c : FaultCause} (prior : s.bays[b].prior = some (.faulted c))
    (x : s.line.bays[b].presence = .present) : exitTest b s = modBay b (leftTest .faulted (some c)) s := by
  unfold exitTest
  rw [prior, x]
  rfl

theorem exitTest_removed (prior : s.bays[b].prior.isSome = true) (notEmpty : s.bays[b].prior ≠ some .empty)
    (x : s.line.bays[b].presence = .absent) : exitTest b s = remove b s := by
  unfold exitTest
  rw [x]
  cases hp : s.bays[b].prior with
  | none => rw [hp] at prior; cases prior
  | some y =>
    cases y with
    | empty => exact absurd hp notEmpty
    | off => rfl
    | faulted c => rfl

/-- Nothing, a new state, the start of seating, or a removal. -/
theorem exitTest_cases : exitTest b s = s ∧ s.bays[b].prior = none ∨
    (∃ x c, x ≠ .queued ∧ exitTest b s = modBay b (leftTest x c) s) ∨
    exitTest b s = startSeating b (modBay b (leftTest .seating none) s) ∨ exitTest b s = remove b s := by
  cases hp : s.bays[b].prior with
  | none => exact .inl ⟨exitTest_still hp, rfl⟩
  | some y =>
    cases x : s.line.bays[b].presence with
    | absent =>
      by_cases he : s.bays[b].prior = some .empty
      · exact .inr (.inl ⟨_, _, BayState.noConfusion, exitTest_empty he x⟩)
      · exact .inr (.inr (.inr (exitTest_removed (by rw [hp]; rfl) he x)))
    | present =>
      cases y with
      | empty => exact .inr (.inr (.inl (exitTest_inserted hp x)))
      | off => exact .inr (.inl ⟨_, _, BayState.noConfusion, exitTest_off hp x⟩)
      | faulted c => exact .inr (.inl ⟨_, _, BayState.noConfusion, exitTest_faulted hp x⟩)

end

/-- What every way out of TEST shares holds of leaving it. -/
theorem exitTest_induction {P : State → Prop} {b : Bay} {s : State} (still : P s) (moved : ∀ f, P (modBay b f s))
    (seated : ∀ f, P (startSeating b (modBay b f s))) (removed : P (remove b s)) : P (exitTest b s) := by
  rcases exitTest_cases (b := b) (s := s) with ⟨e, -⟩ | ⟨x, c, -, e⟩ | e | e <;> rw [e]
  · exact still
  · exact moved _
  · exact seated _
  · exact removed

theorem exitTest_aside {b c : Bay} (h : b ≠ c) (s : State) : Aside b s (exitTest c s) :=
  exitTest_induction (.refl b s) (fun f => modBay_aside h f s)
    (fun f => (modBay_aside h f s).trans (startSeating_aside h _)) (remove_aside h s)

theorem exitTest_grows (b : Bay) (s : State) : Grows s (exitTest b s) :=
  exitTest_induction (P := Grows s) (.of_up rfl) (fun _ => .of_up rfl) (fun _ => .of_up (by rw [startSeating_fwd]; rfl))
    (remove_grows b s)

theorem exitTest_frame (b : Bay) (s : State) : (exitTest b s).mgmt = s.mgmt ∧ (exitTest b s).cool = s.cool ∧
    (exitTest b s).addrStrap = s.addrStrap :=
  exitTest_induction (P := fun t => t.mgmt = s.mgmt ∧ t.cool = s.cool ∧ t.addrStrap = s.addrStrap) ⟨rfl, rfl, rfl⟩
    (fun _ => ⟨rfl, rfl, rfl⟩) (fun _ => by simp) (by simp)

theorem lineTestExit_eq {p : UpPort} {req : Frame} (s : State) (he : emptySet (arg req 0) = false) :
    lineTestExit p req s =
      ((allBays.filter fun b => inSet (arg req 0) b && decide (s.bays[b].state = .test)).foldl (fun s b => exitTest b s) s,
        ⟨if ∃ b : Bay, (inSet (arg req 0) b && decide (s.bays[b].state ≠ .test)) = true then .refusedState else .ok,
          [wBays fun b => inSet (arg req 0) b && decide (s.bays[b].state = .test),
            wBays fun b => inSet (arg req 0) b && decide (s.bays[b].state ≠ .test)]⟩) := by
  unfold lineTestExit
  dsimp only
  rw [if_neg (by rw [he]; exact Bool.false_ne_true), refusal_eq]

/-- A bay that has left TEST without a timer, an insertion or a removal. -/
theorem Aside.left {b : Bay} {x : BayState} {cause : Option FaultCause} {u t : State} (h : Aside b (modBay b (leftTest x cause) u) t)
    (hx : x ≠ .queued) : t.bays[b] = leftTest x cause u.bays[b] := by
  have record : (modBay b (leftTest x cause) u).bays[b] = leftTest x cause u.bays[b] := by rw [modBay_bays, getElem_upd_same]
  rw [h.record (by rw [record]; exact hx), record]

/-- A bay in which seating starts waits for its debounce timer. -/
theorem Aside.seating {b : Bay} {u t : State} (h : Aside b (startSeating b u) t) (hd : 0 < u.line.debounceSetting) :
    t.bays[b] = { u.bays[b] with state := .seating } ∧
      t.line.bays[b].debounce = some (u.now + 100 * u.line.debounceSetting) := by
  rw [startSeating_of_pos b u hd] at h
  have record : (setState b .seating u).bays[b] = { u.bays[b] with state := .seating } := by
    rw [setState_bays, getElem_upd_same]
  constructor
  · rw [h.record (by rw [modLine_bays, record]; exact BayState.noConfusion), modLine_bays, record]
  · obtain ⟨-, -, debounce, -⟩ := h.unit_kept
    rw [debounce, modLine_lines, getElem_upd_same]

/-- With a debounce setting of 0 the bay is seated at once. -/
theorem Aside.seated {b : Bay} {u t : State} (h : Aside b (startSeating b u) t) (hd : u.line.debounceSetting = 0) :
    SeatedBy b { u.bays[b] with state := .seating } t := by
  rw [startSeating_of_zero b u hd] at h
  have record : (setState b .seating u).bays[b] = { u.bays[b] with state := .seating } := by
    rw [setState_bays, getElem_upd_same]
  exact record ▸ h.seatedBy

/-- A removed bay is EMPTY from then on. -/
theorem Aside.removed {b : Bay} {u t : State} (h : Aside b (remove b u) t) :
    t.bays[b] = emptyRecord (if powered u.bays[b].state then unpowerRecord u.bays[b] else u.bays[b]) ∧
      (t.ev.bayLatches[b])[BayEvent.removed.idx] = true :=
  ⟨by rw [h.record (by rw [remove_state]; exact BayState.noConfusion), remove_record], h.latches .removed (remove_latch b u)⟩

/-- A seated bay keeps neither hold nor prior state, when it came with none. -/
theorem SeatedBy.cleared {b : Bay} {r : BayRecord} {t : State} (h : SeatedBy b r t) (hold : r.hold = none)
    (prior : r.prior = none) : t.bays[b].prior = none ∧ t.bays[b].hold = none := by
  cases hp : r.policy with
  | auto =>
    obtain ⟨-, -, kept, held⟩ := h.auto hp
    exact ⟨kept.trans prior, held.trans hold⟩
  | manual =>
    rw [h.manual hp]
    exact ⟨prior, rfl⟩

section
variable {b : Bay} {u t : State} (h : Aside b (exitTest b u) t)
include h

/-- No bay that leaves TEST keeps a hold or a prior state. -/
theorem Aside.test_cleared (prior : u.bays[b].prior.isSome = true) : t.bays[b].prior = none ∧ t.bays[b].hold = none := by
  rcases exitTest_cases (b := b) (s := u) with ⟨-, none⟩ | ⟨x, c, hx, e⟩ | e | e
  · rw [none] at prior; cases prior
  · rw [(e ▸ h : Aside b _ t).left hx]
    exact ⟨rfl, rfl⟩
  · have seated : Aside b (startSeating b (modBay b (leftTest .seating none) u)) t := e ▸ h
    have record : (modBay b (leftTest .seating none) u).bays[b] = leftTest .seating none u.bays[b] := by
      rw [modBay_bays, getElem_upd_same]
    rcases Nat.eq_zero_or_pos u.line.debounceSetting with hd | hd
    · exact (seated.seated hd).cleared (by rw [record]; rfl) (by rw [record]; rfl)
    · rw [(seated.seating hd).1, record]
      exact ⟨rfl, rfl⟩
  · rw [(e ▸ h : Aside b _ t).removed.1]
    exact ⟨rfl, rfl⟩

/-- Without a drive the bay is EMPTY; REMOVED is latched unless it came EMPTY to TEST. -/
theorem Aside.test_absent (prior : u.bays[b].prior.isSome = true) (x : u.line.bays[b].presence = .absent) :
    t.bays[b].state = .empty ∧ t.bays[b].fault = none ∧
      (u.bays[b].prior ≠ some .empty → (t.ev.bayLatches[b])[BayEvent.removed.idx] = true) := by
  by_cases he : u.bays[b].prior = some .empty
  · rw [exitTest_empty he x] at h
    rw [h.left BayState.noConfusion]
    exact ⟨rfl, rfl, fun k => absurd he k⟩
  · rw [exitTest_removed prior he x] at h
    obtain ⟨record, latch⟩ := h.removed
    rw [record]
    exact ⟨rfl, rfl, fun _ => latch⟩

/-- A drive found in a bay that was EMPTY is seated. -/
theorem Aside.test_inserted (prior : u.bays[b].prior = some .empty) (x : u.line.bays[b].presence = .present) :
    (0 < u.line.debounceSetting → t.bays[b].state = .seating ∧
      t.line.bays[b].debounce = some (u.now + 100 * u.line.debounceSetting)) ∧
    (u.line.debounceSetting = 0 → SeatedBy b (leftTest .seating none u.bays[b]) t) := by
  rw [exitTest_inserted prior x] at h
  have record : (modBay b (leftTest .seating none) u).bays[b] = leftTest .seating none u.bays[b] := by
    rw [modBay_bays, getElem_upd_same]
  refine ⟨fun hd => ?_, fun hd => ?_⟩
  · obtain ⟨state, debounce⟩ := h.seating hd
    exact ⟨congrArg BayRecord.state state, debounce⟩
  · have seated := h.seated hd
    rw [record] at seated
    exact seated

end

/-- The bays of the set in TEST leave it one by one. -/
def exitTests (l : List Bay) (s : State) : State := l.foldl (fun s b => exitTest b s) s

theorem exitTests_aside (l : List Bay) (nodup : l.Nodup) (s : State) (hq : (view s).Queued)
    (test : ∀ b ∈ l, s.bays[b].state = .test) :
    (view (exitTests l s)).Queued ∧ (∀ c, c ∉ l → Aside c s (exitTests l s)) ∧
      ∀ b ∈ l, ∃ u, u.bays[b].state = .test ∧ Aside b s u ∧ Aside b (exitTest b u) (exitTests l s) := by
  obtain ⟨final, aside, worked⟩ := foldl_aside (fun s b => exitTest b s) (fun s b => s.bays[b].state = .test)
    (fun s t b h hb => by rw [h.record (by rw [hb]; exact BayState.noConfusion), hb])
    (fun s b hq hb => ⟨(exitTest_runs b s hb).1.keep (fun _ _ => Effect.keeps_queued) hq, fun c hc => exitTest_aside hc s⟩)
    l nodup s hq test
  refine ⟨final, aside, fun b hb => ?_⟩
  obtain ⟨u, -, ready, rest⟩ := worked b hb
  exact ⟨u, ready, rest⟩

theorem exitTests_frame (l : List Bay) (s : State) : Grows s (exitTests l s) ∧ (exitTests l s).mgmt = s.mgmt ∧
    (exitTests l s).cool = s.cool ∧ (exitTests l s).addrStrap = s.addrStrap :=
  ⟨Grows.foldl _ (fun s b => exitTest_grows b s) l s, foldl_keeps State.mgmt _ (fun s b => (exitTest_frame b s).1) l s,
    foldl_keeps State.cool _ (fun s b => (exitTest_frame b s).2.1) l s,
    foldl_keeps State.addrStrap _ (fun s b => (exitTest_frame b s).2.2) l s⟩

/-- Settles O51: each bay leaves TEST in its turn, and neither the other bays' turns nor the end of the step touch it but by
an admission. -/
theorem lineTestExitFollowsPresence : Obligations.LineTestExitFollowsPresence := by
  intro p req s h serves he
  have effect := lineTestExit_eq (p := p) (takeRequest p s) he
  have member (b : Bay) : b ∈ allBays.filter (fun b => inSet (arg req 0) b && decide (s.bays[b].state = .test)) ↔
      inSet (arg req 0) b = true ∧ s.bays[b].state = .test := by
    rw [List.mem_filter, Bool.and_eq_true, decide_eq_true_eq]
    exact and_iff_right (mem_allBays b)
  obtain ⟨queued, others, left⟩ := exitTests_aside (allBays.filter fun b => inSet (arg req 0) b && decide (s.bays[b].state = .test))
    (allBays_nodup.filter _) (takeRequest p s) h.queued fun b hb => ((member b).1 hb).2
  obtain ⟨grows, mgmt, cool, strap⟩ := exitTests_frame
    (allBays.filter fun b => inSet (arg req 0) b && decide (s.bays[b].state = .test)) (takeRequest p s)
  obtain ⟨t, run, served⟩ := serveCode_served serves effect queued grows mgmt strap
  refine ⟨t, run, served.requests, served.cool.trans cool, fun b inside inTest => ?_, served.responded, fun b hb => ?_⟩
  · obtain ⟨u, -, before, after⟩ := left b ((member b).2 ⟨inside, inTest⟩)
    have total := after.trans (served.aside b)
    have record : u.bays[b] = s.bays[b] :=
      before.record (by rw [takeRequest_bays, inTest]; exact BayState.noConfusion)
    obtain ⟨-, presence, -⟩ := before.unit_kept
    rw [takeRequest_line] at presence
    have setting : u.line.debounceSetting = s.line.debounceSetting := before.setting
    have now : u.now = s.now := before.now
    have prior : u.bays[b].prior.isSome = true := by rw [record, (h.record b).prior, inTest]; rfl
    obtain ⟨noPrior, noHold⟩ := total.test_cleared prior
    refine ⟨noPrior, noHold, fun x => record ▸ total.test_absent prior (presence.trans x), fun x hp => ?_, fun c x hp => ?_,
      fun x hp hd => ?_, fun x hp hd => ?_⟩
    all_goals rw [← presence] at x
    all_goals rw [← record] at hp
    · rw [exitTest_off hp x] at total
      rw [total.left BayState.noConfusion]
      rfl
    · rw [exitTest_faulted hp x] at total
      have left := total.left BayState.noConfusion
      have faulted : t.bays[b].state = .faulted := by rw [left]; rfl
      exact ⟨faulted, by rw [left]; rfl, served.alert.trans ((alertCondition_iff t).2 (.inl ⟨b, faulted⟩))⟩
    · rw [← setting, ← now]
      exact (total.test_inserted hp x).1 (by rw [setting]; exact hd)
    · have seated := (total.test_inserted hp x).2 (setting.trans hd)
      rw [record] at seated
      refine ⟨seated.latch, fun hm => by rw [seated.manual hm], fun ha => ?_⟩
      obtain ⟨state, retries, -⟩ := seated.auto ha
      exact ⟨state, retries⟩
  · have total := (others b fun k => ?_).trans (served.aside b)
    · exact total.bay.untouchedOrAdmitted
    · obtain ⟨inside, test⟩ := (member b).1 k
      rcases hb with out | other
      · cases inside.symm.trans out
      · exact other test

end Sys2Proof.Machine

namespace Sys2Proof.Machine

/-! ### SET_BAY_LINES with presence edges (R6, R7) -/

/-- A presence edge changes nothing, counts, starts or ends seating, or removes. -/
theorem presenceEdge_induction {P : State → Prop} {b : Bay} {s : State} (still : P s) (counted : ∀ f : LineUnit → LineUnit,
    (∀ u, (f u).record = u.record ∧ (f u).presence = u.presence) → P (modLine b f s)) (seating : P (startSeating b s))
    (unseated : P (unseat b s)) (removed : P (remove b s)) : P (presenceEdge b s) := by
  unfold presenceEdge
  split
  · exact counted _ fun _ => ⟨rfl, rfl⟩
  · exact seating
  · exact still
  · exact unseated
  · exact removed
  · exact still

theorem presenceEdge_aside {b c : Bay} (h : b ≠ c) (s : State) : Aside b s (presenceEdge c s) :=
  presenceEdge_induction (.refl b s) (fun f _ => modLine_aside h f s) (startSeating_aside h s) (unseat_aside h s)
    (remove_aside h s)

theorem presenceEdge_grows (b : Bay) (s : State) : Grows s (presenceEdge b s) :=
  presenceEdge_induction (P := Grows s) (.of_up rfl) (fun _ _ => .of_up rfl) (.of_up (by rw [startSeating_fwd]))
    (.of_up (by rw [unseat_fwd])) (remove_grows b s)

/-- A bay's line record and its presence through an edge. -/
def SameLine (b : Bay) (s t : State) : Prop :=
  t.line.bays[b].record = s.line.bays[b].record ∧ t.line.bays[b].presence = s.line.bays[b].presence

theorem modLine_sameLine {b : Bay} {f : LineUnit → LineUnit} {s : State}
    (h : ∀ u, (f u).record = u.record ∧ (f u).presence = u.presence) : SameLine b s (modLine b f s) := by
  obtain ⟨record, presence⟩ := h s.line.bays[b]
  exact ⟨by rw [modLine_lines, getElem_upd_same, record], by rw [modLine_lines, getElem_upd_same, presence]⟩

theorem seat_sameLine (b : Bay) (s : State) : SameLine b s (seat b s) := by
  unfold SameLine
  rw [seat_line]
  exact modLine_sameLine fun _ => ⟨rfl, rfl⟩

theorem startSeating_sameLine (b : Bay) (s : State) : SameLine b s (startSeating b s) := by
  rcases Nat.eq_zero_or_pos s.line.debounceSetting with hd | hd
  · rw [startSeating_of_zero b s hd]
    exact seat_sameLine b (setState b .seating s)
  · rw [startSeating_of_pos b s hd]
    exact modLine_sameLine (s := setState b .seating s) fun _ => ⟨rfl, rfl⟩

theorem unseat_units (b : Bay) (s : State) :
    (unseat b s).line.bays = upd s.line.bays b (fun u => { u with debounce := none, inGroup := false }) := by
  unfold unseat
  rw [cancelEmptyGroup_eq]
  rfl

theorem unseat_bays (b : Bay) (s : State) :
    (unseat b s).bays = upd s.bays b (fun r => { r with state := .empty }) := by
  unfold unseat
  rw [cancelEmptyGroup_eq]
  rfl

theorem presenceEdge_sameLine (b : Bay) (s : State) : SameLine b s (presenceEdge b s) :=
  presenceEdge_induction (P := SameLine b s) ⟨rfl, rfl⟩ (fun _ h => modLine_sameLine h) (startSeating_sameLine b s)
    (by unfold SameLine; rw [unseat_units, getElem_upd_same]; exact ⟨rfl, rfl⟩) (by unfold SameLine; rw [remove_line]; exact ⟨rfl, rfl⟩)

/-- A unit that has taken a line record, and shows a presence under it. -/
def unitJudged (rec : LineRecord) (x : Presence) (u : LineUnit) : LineUnit := { u with record := rec, presence := x }

theorem writeLines_still {rec : LineRecord} {b : Bay} {s : State}
    (h : presenceOf rec.prsActive s.line.bays[b].prsIn = s.line.bays[b].presence) :
    writeLines rec b s = modLine b (fun u => { u with record := rec }) s :=
  judgePresence_same (by rw [modLine_lines, getElem_upd_same]; exact h)

theorem writeLines_edge {rec : LineRecord} {b : Bay} {s : State}
    (h : presenceOf rec.prsActive s.line.bays[b].prsIn ≠ s.line.bays[b].presence) : writeLines rec b s =
      presenceEdge b (modLine b (unitJudged rec (presenceOf rec.prsActive s.line.bays[b].prsIn)) s) := by
  have edge := judgePresence_edge (b := b) (s := modLine b (fun u => { u with record := rec }) s)
    (x := presenceOf rec.prsActive s.line.bays[b].prsIn) (by rw [modLine_lines, getElem_upd_same])
    (by rw [modLine_lines, getElem_upd_same]; exact h.symm)
  rw [modLine_modLine] at edge
  exact edge

theorem writeLines_aside (rec : LineRecord) {b c : Bay} (h : b ≠ c) (s : State) : Aside b s (writeLines rec c s) := by
  by_cases same : presenceOf rec.prsActive s.line.bays[c].prsIn = s.line.bays[c].presence
  · rw [writeLines_still same]
    exact modLine_aside h _ s
  · rw [writeLines_edge same]
    exact (modLine_aside h _ s).trans (presenceEdge_aside h _)

theorem writeLines_grows (rec : LineRecord) (b : Bay) (s : State) : Grows s (writeLines rec b s) := by
  by_cases same : presenceOf rec.prsActive s.line.bays[b].prsIn = s.line.bays[b].presence
  · rw [writeLines_still same]
    exact .of_up rfl
  · rw [writeLines_edge same]
    exact Grows.trans (t := modLine b (unitJudged rec _) s) (.of_up rfl) (presenceEdge_grows b _)

theorem writeLines_frame (rec : LineRecord) (b : Bay) (s : State) : (writeLines rec b s).mgmt = s.mgmt ∧
    (writeLines rec b s).cool = s.cool ∧ (writeLines rec b s).addrStrap = s.addrStrap := by
  unfold writeLines
  simp

/-- The record and the presence of a bay that takes a line record. -/
theorem writeLines_line (rec : LineRecord) (b : Bay) (s : State) : (writeLines rec b s).line.bays[b].record = rec ∧
    (writeLines rec b s).line.bays[b].presence = presenceOf rec.prsActive s.line.bays[b].prsIn := by
  by_cases same : presenceOf rec.prsActive s.line.bays[b].prsIn = s.line.bays[b].presence
  · rw [writeLines_still same, modLine_lines, getElem_upd_same]
    exact ⟨rfl, same.symm⟩
  · obtain ⟨record, presence⟩ := presenceEdge_sameLine b
      (modLine b (unitJudged rec (presenceOf rec.prsActive s.line.bays[b].prsIn)) s)
    rw [writeLines_edge same, record, presence, modLine_lines, getElem_upd_same]
    exact ⟨rfl, rfl⟩

/-- A bay left aside keeps its state, or it is admitted and so STARTING. -/
theorem Aside.state_ne {b : Bay} {s t : State} (h : Aside b s t) {x : BayState} (hs : s.bays[b].state ≠ x)
    (starting : x ≠ .starting) : t.bays[b].state ≠ x := by
  rcases h.bay with ⟨record, -⟩ | ⟨-, ⟨e, record⟩, -⟩
  · rw [record]; exact hs
  · rw [record]; exact starting.symm

/-- A bay that keeps its presence under the new record is touched by admissions alone. -/
theorem wrote_still {rec : LineRecord} {b : Bay} {s u t : State} (before : Aside b s u) (after : Aside b (writeLines rec b u) t)
    (same : presenceOf rec.prsActive u.line.bays[b].prsIn = u.line.bays[b].presence) : UntouchedOrAdmitted b s t ∧
      t.line.bays[b].debounce = s.line.bays[b].debounce ∧ t.line.bays[b].edges = s.line.bays[b].edges := by
  rw [writeLines_still same] at after
  have written : AtMostAdmitted b u (modLine b (fun u => { u with record := rec }) u) := .of_eq rfl rfl
  obtain ⟨-, -, debounce, -, edges, -⟩ := after.unit_kept
  obtain ⟨-, -, debounce', -, edges', -⟩ := before.unit_kept
  rw [modLine_lines, getElem_upd_same] at debounce edges
  exact ⟨((before.bay.trans written before.classes).trans after.bay before.classes).untouchedOrAdmitted,
    debounce.trans debounce', edges.trans edges'⟩

/-- A bay that read PRESENT reads ABSENT after its edge. -/
theorem wrote_lost {rec : LineRecord} {b : Bay} {u : State}
    (edge : presenceOf rec.prsActive u.line.bays[b].prsIn ≠ u.line.bays[b].presence)
    (present : u.line.bays[b].presence = .present) :
    (modLine b (unitJudged rec (presenceOf rec.prsActive u.line.bays[b].prsIn)) u).line.bays[b].presence = .absent := by
  rw [modLine_lines, getElem_upd_same]
  cases x : presenceOf rec.prsActive u.line.bays[b].prsIn with
  | absent => rfl
  | present => exact absurd (x.trans present.symm) edge

section
variable {rec : LineRecord} {b : Bay} {u t : State} (h : Aside b (writeLines rec b u) t)
  (edge : presenceOf rec.prsActive u.line.bays[b].prsIn ≠ u.line.bays[b].presence)
include h edge

/-- In TEST an edge is counted. -/
theorem wrote_test (test : u.bays[b].state = .test) :
    t.bays[b] = u.bays[b] ∧ t.line.bays[b].edges = min 255 (u.line.bays[b].edges + 1) := by
  rw [writeLines_edge edge, presenceEdge_test (by rw [modLine_bays, test]), modLine_modLine] at h
  obtain ⟨-, -, -, -, edges, -⟩ := h.unit_kept
  rw [modLine_lines, getElem_upd_same] at edges
  exact ⟨h.record (by rw [modLine_bays, test]; exact BayState.noConfusion), edges⟩

/-- In EMPTY an edge starts seating. -/
theorem wrote_empty (empty : u.bays[b].state = .empty) (absent : u.line.bays[b].presence = .absent) :
    (0 < u.line.debounceSetting → t.bays[b] = { u.bays[b] with state := .seating } ∧
      t.line.bays[b].debounce = some (u.now + 100 * u.line.debounceSetting)) ∧
    (u.line.debounceSetting = 0 → SeatedBy b { u.bays[b] with state := .seating } t) := by
  have present : presenceOf rec.prsActive u.line.bays[b].prsIn = .present := by
    cases x : presenceOf rec.prsActive u.line.bays[b].prsIn with
    | absent => exact absurd (x.trans absent.symm) edge
    | present => rfl
  rw [writeLines_edge edge, presenceEdge_inserted (by rw [modLine_bays, empty]) (by rw [modLine_lines, getElem_upd_same]; exact present)] at h
  exact ⟨h.seating, h.seated⟩

/-- In SEATING an edge ends it. -/
theorem wrote_seating (seating : u.bays[b].state = .seating) (present : u.line.bays[b].presence = .present) :
    t.bays[b] = { u.bays[b] with state := .empty } ∧ t.line.bays[b].debounce = none ∧ t.line.bays[b].inGroup = false := by
  have lost := wrote_lost edge present
  rw [writeLines_edge edge, presenceEdge_unseat (by rw [modLine_bays, seating]) lost] at h
  obtain ⟨-, -, debounce, inGroup, -⟩ := h.unit_kept
  rw [unseat_units, getElem_upd_same] at debounce inGroup
  have record := h.record (by rw [unseat_bays, getElem_upd_same]; exact BayState.noConfusion)
  rw [unseat_bays, getElem_upd_same] at record
  exact ⟨record, debounce, inGroup⟩

/-- Elsewhere an edge is a removal. -/
theorem wrote_removed (queued : (view u).Queued) (present : u.line.bays[b].presence = .present)
    (test : u.bays[b].state ≠ .test) (empty : u.bays[b].state ≠ .empty) (seating : u.bays[b].state ≠ .seating) :
    t.bays[b].state = .empty ∧ t.bays[b].hold = none ∧ t.bays[b].fault = none ∧ t.bays[b].cycleTimer = none ∧
      b ∉ t.power.queue.map QueueEntry.bay ∧ (t.ev.bayLatches[b])[BayEvent.removed.idx] = true ∧
      (powered u.bays[b].state = true → t.power.charge[b] = 0 ∧ DisabledQuiet t b) := by
  have lost := wrote_lost edge present
  have member : u.bays[b].state = .queued ∨ b ∉ u.power.queue.map QueueEntry.bay := by
    refine or_iff_not_imp_left.2 fun other joined => ?_
    obtain ⟨e, he, rfl⟩ := List.mem_map.1 joined
    exact other (queued e he)
  rw [writeLines_edge edge, presenceEdge_remove lost (by rw [modLine_bays]; exact empty) (by rw [modLine_bays]; exact seating)
    (by rw [modLine_bays]; exact test)] at h
  obtain ⟨record, latch⟩ := h.removed
  obtain ⟨-, charge⟩ := h.bay.eq (by rw [remove_state]; exact BayState.noConfusion)
  refine ⟨by rw [record]; rfl, by rw [record]; rfl, by rw [record]; rfl, by rw [record]; rfl,
    h.queue (remove_unqueued b _ member), latch, fun on => ⟨charge.trans (remove_charge on), h.port (remove_quiet on)⟩⟩

end

/-- The bays that take the record are written one by one. -/
def writeAll (rec : LineRecord) (l : List Bay) (s : State) : State := l.foldl (fun s b => writeLines rec b s) s

theorem writeAll_aside (rec : LineRecord) (l : List Bay) (nodup : l.Nodup) (s : State) (hq : (view s).Queued) :
    (view (writeAll rec l s)).Queued ∧ (∀ c, c ∉ l → Aside c s (writeAll rec l s)) ∧
      ∀ b ∈ l, ∃ u, (view u).Queued ∧ Aside b s u ∧ Aside b (writeLines rec b u) (writeAll rec l s) := by
  obtain ⟨final, aside, worked⟩ := foldl_aside (fun s b => writeLines rec b s) (fun _ _ => True) (fun _ _ _ _ h => h)
    (fun s b hq _ => ⟨(writeLines_runs rec b s).1.keep (fun _ _ => Effect.keeps_queued) hq,
      fun c hc => writeLines_aside rec hc s⟩) l nodup s hq fun _ _ => trivial
  refine ⟨final, aside, fun b hb => ?_⟩
  obtain ⟨u, queued, -, rest⟩ := worked b hb
  exact ⟨u, queued, rest⟩

theorem writeAll_frame (rec : LineRecord) (l : List Bay) (s : State) : Grows s (writeAll rec l s) ∧
    (writeAll rec l s).mgmt = s.mgmt ∧ (writeAll rec l s).cool = s.cool ∧ (writeAll rec l s).addrStrap = s.addrStrap :=
  ⟨Grows.foldl _ (fun s b => writeLines_grows rec b s) l s, foldl_keeps State.mgmt _ (fun s b => (writeLines_frame rec b s).1) l s,
    foldl_keeps State.cool _ (fun s b => (writeLines_frame rec b s).2.1) l s,
    foldl_keeps State.addrStrap _ (fun s b => (writeLines_frame rec b s).2.2) l s⟩

/-- Settles O49: each bay of the set is written in its turn; its edge, if there is one, does what its state says, and neither
the other bays' turns nor the end of the step touch it but by an admission. -/
theorem presenceFollowsNewLineSettings : Obligations.PresenceFollowsNewLineSettings := by
  intro p req rec s h lines serves hr he refused takes judged
  have effect : setBayLines p req (takeRequest p s) =
      (writeAll rec ((baysOf (arg req 0)).filter fun b => !refused b) (takeRequest p s),
        ⟨if ∃ b : Bay, refused b = true then .refusedState else .ok, [wBays refused]⟩) := setBayLines_eq _ hr he
  have member (b : Bay) : b ∈ (baysOf (arg req 0)).filter (fun b => !refused b) ↔ takes b = true := by
    rw [← decide_eq_true_iff (p := _ ∈ _), mem_taken]
  obtain ⟨queued, others, written⟩ := writeAll_aside rec ((baysOf (arg req 0)).filter fun b => !refused b)
    (taken_nodup _ _) (takeRequest p s) h.queued
  obtain ⟨grows, mgmt, cool, strap⟩ := writeAll_frame rec ((baysOf (arg req 0)).filter fun b => !refused b) (takeRequest p s)
  obtain ⟨t, run, served⟩ := serveCode_served serves effect queued grows mgmt strap
  have passed (b : Bay) (hb : takes b = false) : Aside b s t ∧ judged b = s.line.bays[b].presence :=
    ⟨((takeRequest_aside b p s).trans (others b fun k => by rw [(member b).1 k] at hb; cases hb)).trans (served.aside b),
      if_neg (by rw [hb]; exact Bool.false_ne_true)⟩
  have wrote (b : Bay) (hb : takes b = true) : ∃ u, (view u).Queued ∧ Aside b s u ∧ Aside b (writeLines rec b u) t ∧
      judged b = presenceOf rec.prsActive u.line.bays[b].prsIn ∧ u.line.bays[b].presence = s.line.bays[b].presence := by
    obtain ⟨u, queued, before, after⟩ := written b ((member b).2 hb)
    have start := (takeRequest_aside b p s).trans before
    obtain ⟨-, presence, -, -, -, prsIn⟩ := start.unit_kept
    exact ⟨u, queued, start, after.trans (served.aside b), by rw [prsIn]; exact if_pos hb, presence⟩
  refine ⟨t, run, served.responded, served.requests, served.cool.trans cool, fun b => ?_, fun b change => ?_⟩
  · cases hb : takes b with
    | false =>
      obtain ⟨aside, still⟩ := passed b hb
      obtain ⟨record, presence, debounce, -, edges, -⟩ := aside.unit_kept
      exact ⟨record, presence.trans still.symm, fun _ => ⟨aside.bay.untouchedOrAdmitted, debounce, edges⟩⟩
    | true =>
      obtain ⟨u, queued, before, after, x, presence⟩ := wrote b hb
      obtain ⟨record, shown, -⟩ := after.unit_kept
      obtain ⟨newRecord, newPresence⟩ := writeLines_line rec b u
      exact ⟨record.trans newRecord, (shown.trans newPresence).trans x.symm,
        fun same => wrote_still before after (by rw [← x, same, presence])⟩
  · have hb : takes b = true := Bool.of_not_eq_false fun hb => change (passed b hb).2
    obtain ⟨u, queued, before, after, x, presence⟩ := wrote b hb
    rw [x, ← presence] at change
    have same (hq : s.bays[b].state ≠ .queued) : u.bays[b] = s.bays[b] := before.record hq
    have present (hx : s.bays[b].state ≠ .empty) (ht : s.bays[b].state ≠ .test) : u.line.bays[b].presence = .present :=
      presence.trans (lines.seated b hx ht)
    have setting := before.setting
    have now := before.now
    refine ⟨fun test => ?_, fun empty hd => ?_, fun empty hd => ?_, fun seating => ?_, fun test empty seating => ?_⟩
    · have record := same (by rw [test]; exact BayState.noConfusion)
      obtain ⟨kept, edges⟩ := wrote_test after change (by rw [record, test])
      obtain ⟨-, -, -, -, counted, -⟩ := before.unit_kept
      exact ⟨kept.trans record, by rw [edges, counted]⟩
    · have record := same (by rw [empty]; exact BayState.noConfusion)
      have waits := (wrote_empty after change (by rw [record, empty]) (presence.trans (lines.empty b empty))).1
      rw [record, setting, now] at waits
      exact waits hd
    · have record := same (by rw [empty]; exact BayState.noConfusion)
      have enters := (wrote_empty after change (by rw [record, empty]) (presence.trans (lines.empty b empty))).2
      rw [record, setting] at enters
      refine ⟨(enters hd).latch, (enters hd).manual, fun ha => ?_⟩
      obtain ⟨state, retries, -⟩ := (enters hd).auto ha
      exact ⟨state, retries⟩
    · have record := same (by rw [seating]; exact BayState.noConfusion)
      have ended := wrote_seating after change (by rw [record, seating])
        (present (by rw [seating]; exact BayState.noConfusion) (by rw [seating]; exact BayState.noConfusion))
      rw [record] at ended
      exact ended
    · obtain ⟨state, hold, fault, cycle, unqueued, latch, power⟩ := wrote_removed after change queued (present empty test)
        (before.state_ne test BayState.noConfusion) (before.state_ne empty BayState.noConfusion)
        (before.state_ne seating BayState.noConfusion)
      refine ⟨state, hold, fault, cycle, unqueued, latch, fun on => power ?_⟩
      rw [same fun hq => by rw [hq] at on; cases on]
      exact on

end Sys2Proof.Machine

namespace Sys2Proof.Machine

/-! ### What a record holds in each state (R19, R21, R36) -/

/-- Nothing that power gives a bay stands in the record. -/
structure BayRecord.Bare (r : BayRecord) : Prop where
  chargedClass : r.chargedClass = none
  activeZone : r.activeZone = none
  driveAddr : r.driveAddr = none
  declClass : r.declClass = none
  profile : r.profile = none
  identity : r.identity = none
  startTimer : r.startTimer = none
  ocTrip : r.ocTrip = false
  otTrip : r.otTrip = false

theorem unpowerRecord_bare (r : BayRecord) : (unpowerRecord r).Bare := ⟨rfl, rfl, rfl, rfl, rfl, rfl, rfl, rfl, rfl⟩

section
variable {r : BayRecord}

theorem eq_none_of_isSome {α : Type} {o : Option α} {p : Prop} [Decidable p] (h : o.isSome = decide p) (hp : ¬p) :
    o = none := by
  rw [decide_eq_false hp] at h
  exact Option.isNone_iff_eq_none.1 (by rw [← Option.not_isSome, h]; rfl)

theorem BayRecord.Consistent.noFault (h : r.Consistent) (hx : r.state ≠ .faulted) : r.fault = none :=
  eq_none_of_isSome h.fault hx

theorem BayRecord.Consistent.noPrior (h : r.Consistent) (hx : r.state ≠ .test) : r.prior = none :=
  eq_none_of_isSome h.prior hx

theorem BayRecord.Consistent.noCycle (h : r.Consistent) (hx : r.state ≠ .cycling) : r.cycleTimer = none :=
  eq_none_of_isSome h.cycleTimer hx

theorem BayRecord.Consistent.noHold (h : r.Consistent) (hx : r.state ≠ .off) : r.hold = none := by
  by_contra hn
  exact hx (h.hold (Option.isSome_iff_ne_none.2 hn))

theorem BayRecord.Consistent.bare (h : r.Consistent) (hx : powered r.state = false) : r.Bare := by
  have starting : r.state ≠ .starting := fun e => by rw [e] at hx; cases hx
  have online : r.state ≠ .online := fun e => by rw [e] at hx; cases hx
  have off {o : Bool} (k : o = true → powered r.state = true) : o = false :=
    Bool.not_eq_true _ ▸ fun e => by rw [k e] at hx; cases hx
  have none_of {α : Type} {o : Option α} (k : o.isSome = powered r.state) : o = none :=
    Option.isNone_iff_eq_none.1 (by rw [← Option.not_isSome, k, hx]; rfl)
  exact ⟨none_of h.chargedClass, none_of h.activeZone, eq_none_of_isSome h.driveAddr online,
    eq_none_of_isSome h.declClass online, eq_none_of_isSome h.profile online, eq_none_of_isSome h.identity online,
    eq_none_of_isSome h.startTimer starting, off h.ocTrip, off h.otTrip⟩

/-- A bare record is consistent in a state without power, when the rest of its fields suit that state. -/
theorem BayRecord.Bare.consistent (h : r.Bare) (hx : powered r.state = false)
    (fault : r.fault.isSome = decide (r.state = .faulted)) (hold : r.hold.isSome = true → r.state = .off)
    (prior : r.prior.isSome = decide (r.state = .test)) (cycle : r.cycleTimer.isSome = decide (r.state = .cycling)) :
    r.Consistent := by
  have starting : r.state ≠ .starting := fun e => by rw [e] at hx; cases hx
  have online : r.state ≠ .online := fun e => by rw [e] at hx; cases hx
  exact
    { chargedClass := by rw [h.chargedClass, hx]; rfl
      activeZone := by rw [h.activeZone, hx]; rfl
      fault := fault, hold := hold, prior := prior, cycleTimer := cycle
      driveAddr := by rw [h.driveAddr, decide_eq_false online]; rfl
      declClass := by rw [h.declClass, decide_eq_false online]; rfl
      profile := by rw [h.profile, decide_eq_false online]; rfl
      identity := by rw [h.identity, decide_eq_false online]; rfl
      startTimer := by rw [h.startTimer, decide_eq_false starting]; rfl
      ocTrip := fun e => by rw [h.ocTrip] at e; cases e
      otTrip := fun e => by rw [h.otTrip] at e; cases e }

end

/-! ### The spin-up queue as its entries come and go (R50, R51, R52) -/

/-- Each bay once, and every PRIORITY entry before every NORMAL one. -/
structure Ordered (q : List QueueEntry) : Prop where
  once : (q.map QueueEntry.bay).Nodup
  order : q.Pairwise (fun x y => x.cls = .normal → y.cls = .normal)

theorem mem_bays_dropEntry {b c : Bay} {q : List QueueEntry} :
    c ∈ (dropEntry b q).map QueueEntry.bay ↔ c ∈ q.map QueueEntry.bay ∧ c ≠ b := by
  simp only [List.mem_map, mem_dropEntry]
  constructor
  · rintro ⟨e, ⟨he, hb⟩, rfl⟩
    exact ⟨⟨e, he, rfl⟩, hb⟩
  · rintro ⟨⟨e, he, rfl⟩, hb⟩
    exact ⟨e, ⟨he, hb⟩, rfl⟩

theorem Ordered.drop {q : List QueueEntry} (h : Ordered q) (b : Bay) : Ordered (dropEntry b q) where
  once := h.once.sublist (List.filter_sublist.map _)
  order := h.order.sublist List.filter_sublist

/-- A queue without an entry of the bay is left as it is. -/
theorem dropEntry_of_not_mem {b : Bay} {q : List QueueEntry} (h : b ∉ q.map QueueEntry.bay) : dropEntry b q = q :=
  List.filter_eq_self.2 fun _ he => decide_eq_true fun k => h (k ▸ List.mem_map_of_mem he)

theorem notPriority_iff (x : QueueEntry) : (!decide (x.cls = .priority)) = decide (x.cls = .normal) := by
  cases x.cls <;> rfl

/-- The entries after a join are the entry that joins and those that stood there. -/
theorem joinClass_perm (e : QueueEntry) (q : List QueueEntry) : (joinClass e q).Perm (e :: q) := by
  have classes : (q.filter (fun x => x.cls = .priority) ++ q.filter (fun x => x.cls = .normal)).Perm q := by
    have := List.filter_append_perm (fun x : QueueEntry => decide (x.cls = .priority)) q
    simpa only [notPriority_iff] using this
  unfold joinClass
  split
  · exact List.perm_append_singleton e q
  · rw [List.append_assoc]
    exact List.perm_middle.trans (classes.cons e)

theorem Ordered.join {q : List QueueEntry} {e : QueueEntry} (h : Ordered q) (new : e.bay ∉ q.map QueueEntry.bay) :
    Ordered (joinClass e q) where
  once := ((joinClass_perm e q).map QueueEntry.bay).nodup_iff.2 (List.nodup_cons.2 ⟨new, h.once⟩)
  order := by
    unfold joinClass
    split
    · next hc =>
      refine List.pairwise_append.2 ⟨h.order, List.pairwise_singleton _ _, fun x _ y hy _ => ?_⟩
      rw [List.mem_singleton.1 hy, hc]
    · next hc =>
      have normals : ∀ x ∈ q.filter (fun x => x.cls = .normal), x.cls = .normal := fun x hx =>
        of_decide_eq_true (List.mem_filter.1 hx).2
      have front : ∀ x ∈ q.filter (fun x => x.cls = .priority) ++ [e], x.cls = .priority := fun x hx => by
        rcases List.mem_append.1 hx with hx | hx
        · exact of_decide_eq_true (List.mem_filter.1 hx).2
        · rw [List.mem_singleton.1 hx, hc]
      refine List.pairwise_append.2 ⟨?_, h.order.filter _, fun x _ y hy _ => normals y hy⟩
      exact List.pairwise_of_forall_mem_list fun x hx y _ k => by rw [front x hx] at k; cases k

/-! ### Changes that keep records and queue consistent -/

/-- A change that leaves consistent bay records and a consistent queue. -/
def Keeps (s t : State) : Prop := BaysConsistent s → BaysConsistent t

/-- A change that leaves every bay record and the spin-up queue as they were. -/
def Still (s t : State) : Prop := t.bays = s.bays ∧ t.power.queue = s.power.queue

theorem Still.refl (s : State) : Still s s := ⟨rfl, rfl⟩

theorem Still.of_eq {s t : State} (bays : t.bays = s.bays) (power : t.power = s.power) : Still s t :=
  ⟨bays, by rw [power]⟩

theorem ask_still (s : State) : Still s (ask s) := ⟨rfl, rfl⟩

theorem modLines_still (p : Bay → Bool) (f : LineUnit → LineUnit) (s : State) : Still s (modLines p f s) :=
  .of_eq (modLines_bays p f s) (modLines_power p f s)

theorem modLights_still (p : Bay → Bool) (f : LightUnit → LightUnit) (s : State) : Still s (modLights p f s) :=
  .of_eq (modLights_bays p f s) (modLights_power p f s)

theorem modTherm_still (b : Bay) (f : ThermalRecord → ThermalRecord) (s : State) : Still s (modTherm b f s) :=
  .of_eq (modTherm_bays b f s) (modTherm_power b f s)

theorem refreshZoneStates_still (s : State) : Still s (refreshZoneStates s) :=
  .of_eq (refreshZoneStates_bays s) (refreshZoneStates_power s)

theorem Still.trans {s t u : State} (h : Still s t) (k : Still t u) : Still s u := ⟨k.1.trans h.1, k.2.trans h.2⟩

theorem Still.foldl {α : Type} (f : State → α → State) (h : ∀ s x, Still s (f s x)) (l : List α) (s : State) :
    Still s (l.foldl f s) := by
  induction l generalizing s with
  | nil => exact .refl s
  | cons x l ih => exact (h s x).trans (ih _)

theorem Keeps.trans {s t u : State} (h : Keeps s t) (k : Keeps t u) : Keeps s u := fun c => k (h c)

theorem Keeps.refl (s : State) : Keeps s s := id

theorem Still.keeps {s t : State} (h : Still s t) : Keeps s t := fun c => by
  obtain ⟨bays, queue⟩ := h
  exact
    { record := fun b => by rw [bays]; exact c.record b
      queue := ⟨fun b => by rw [bays, queue]; exact c.queue.member b, by rw [queue]; exact c.queue.once,
        by rw [queue]; exact c.queue.order⟩ }

theorem Keeps.foldl {α : Type} (f : State → α → State) (h : ∀ s x, Keeps s (f s x)) (l : List α) (s : State) :
    Keeps s (l.foldl f s) := by
  induction l generalizing s with
  | nil => exact .refl s
  | cons x l ih => exact (h s x).trans (ih _)

/-- What a change of one bay does to the queue: nothing, with the bay QUEUED as it was; its entry leaves; or it joins. -/
inductive Requeued (b : Bay) (s t : State) : Prop
  | stays (queue : t.power.queue = s.power.queue) (state : t.bays[b].state = .queued ↔ s.bays[b].state = .queued)
  | leaves (queue : t.power.queue = dropEntry b s.power.queue) (state : t.bays[b].state ≠ .queued)
  | joins (c : QueueClass) (queue : t.power.queue = joinClass ⟨b, c⟩ (dropEntry b s.power.queue))
      (state : t.bays[b].state = .queued)

theorem QueueConsistent.ordered {s : State} (h : QueueConsistent s) : Ordered s.power.queue := ⟨h.once, h.order⟩

/-- The queue follows the one bay that changes. -/
theorem QueueConsistent.requeue {b : Bay} {s t : State} (h : QueueConsistent s)
    (others : ∀ c : Bay, c ≠ b → t.bays[c] = s.bays[c]) (moves : Requeued b s t) : QueueConsistent t := by
  have elsewhere (c : Bay) (hc : c ≠ b) : c ∈ s.power.queue.map QueueEntry.bay ↔ t.bays[c].state = .queued := by
    rw [others c hc]; exact h.member c
  cases moves with
  | stays queue state =>
    refine ⟨fun c => ?_, by rw [queue]; exact h.once, by rw [queue]; exact h.order⟩
    rw [queue]
    by_cases hc : c = b
    · rw [hc, state]; exact h.member b
    · exact elsewhere c hc
  | leaves queue state =>
    have left := h.ordered.drop b
    refine ⟨fun c => ?_, by rw [queue]; exact left.once, by rw [queue]; exact left.order⟩
    rw [queue, mem_bays_dropEntry]
    by_cases hc : c = b
    · rw [hc]; exact iff_of_false (fun k => k.2 rfl) state
    · rw [elsewhere c hc]; exact and_iff_left hc
  | joins x queue state =>
    have joined := (h.ordered.drop b).join (e := ⟨b, x⟩) fun k => (mem_bays_dropEntry.1 k).2 rfl
    refine ⟨fun c => ?_, by rw [queue]; exact joined.once, by rw [queue]; exact joined.order⟩
    rw [queue, ((joinClass_perm _ _).map QueueEntry.bay).mem_iff, List.map_cons, List.mem_cons, mem_bays_dropEntry]
    by_cases hc : c = b
    · rw [hc]; exact iff_of_true (.inl rfl) state
    · rw [elsewhere c hc]; simp [hc]

/-- One bay changes to another consistent record, and the queue follows. -/
theorem Keeps.one (b : Bay) {s t : State} (others : ∀ c : Bay, c ≠ b → t.bays[c] = s.bays[c])
    (record : (s.bays[b]).Consistent → (t.bays[b]).Consistent) (moves : Requeued b s t) : Keeps s t := fun h =>
  { record := fun c => by
      by_cases hc : c = b
      · rw [hc]; exact record (h.record b)
      · rw [others c hc]; exact h.record c
    queue := h.queue.requeue others moves }

/-- The record of one bay changes and it is QUEUED as it was. -/
theorem modBay_keeps (b : Bay) (f : BayRecord → BayRecord) (s : State)
    (record : (s.bays[b]).Consistent → (f s.bays[b]).Consistent)
    (state : (f s.bays[b]).state = .queued ↔ s.bays[b].state = .queued) : Keeps s (modBay b f s) :=
  .one b (fun c hc => by rw [modBay_bays, getElem_upd_ne _ _ hc]) (by rw [modBay_bays, getElem_upd_same]; exact record)
    (.stays rfl (by rw [modBay_bays, getElem_upd_same]; exact state))

theorem modBays_keeps (p : Bay → Bool) (f : BayRecord → BayRecord) (s : State)
    (h : ∀ b : Bay, p b = true → ((s.bays[b]).Consistent → (f s.bays[b]).Consistent) ∧
      ((f s.bays[b]).state = .queued ↔ s.bays[b].state = .queued)) : Keeps s (modBays p f s) := fun c => by
  have record (b : Bay) : (modBays p f s).bays[b] = if p b then f s.bays[b] else s.bays[b] := getElem_tab _ b
  refine ⟨fun b => ?_, fun b => ?_, c.queue.once, c.queue.order⟩
  · rw [record]
    split
    · next hb => exact (h b hb).1 (c.record b)
    · exact c.record b
  · rw [record]
    split
    · next hb => rw [(h b hb).2]; exact c.queue.member b
    · exact c.queue.member b

end Sys2Proof.Machine

namespace Sys2Proof.Machine

/-! ### The end of a step (R25, R56) -/

theorem refreshHot_still (s : State) : Still s (refreshHot s) := ⟨rfl, rfl⟩

theorem refreshBlocks_still (s : State) : Still s (refreshBlocks s) := by
  refine ⟨refreshBlocks_bays s, ?_⟩
  unfold refreshBlocks
  dsimp only
  split <;> rfl

theorem latchBay_still (b : Bay) (k : BayEvent) (s : State) : Still s (latchBay b k s) :=
  ⟨latchBay_bays b k s, by rw [latchBay_power]⟩

theorem sendStatus_still (c : StatusCode) (p : Port) (f : Frame) (s : State) : Still s (sendStatus c p f s) :=
  ⟨sendStatus_bays c p f s, by rw [sendStatus_power]⟩

theorem refuseFrame_still (c : StatusCode) (p : Port) (f : Frame) (s : State) : Still s (refuseFrame c p f s) :=
  ⟨refuseFrame_bays c p f s, by rw [refuseFrame_power]⟩

theorem finish_still (s : State) : Still s (finish s) := ⟨finish_bays s, by rw [finish_power]⟩

/-- An admission takes a QUEUED bay out of the queue, with what STARTING gives it (R25). -/
theorem admitBay_keeps (b : Bay) (s : State) (waiting : s.bays[b].state = .queued) : Keeps s (admitBay b s) := by
  refine .one b (fun c hc => by rw [admitBay_bays, getElem_upd_ne _ _ hc]) (fun h => ?_)
    (.leaves (admitBay_queue b s) (by rw [admitBay_bays, getElem_upd_same]; exact BayState.noConfusion))
  have bare := h.bare (by rw [waiting]; rfl)
  rw [admitBay_bays, getElem_upd_same]
  exact
    { chargedClass := rfl, activeZone := rfl, startTimer := rfl
      fault := by rw [h.noFault (by rw [waiting]; exact BayState.noConfusion)]; rfl
      hold := fun k => by rw [h.noHold (by rw [waiting]; exact BayState.noConfusion)] at k; cases k
      driveAddr := by rw [bare.driveAddr]; rfl
      declClass := by rw [bare.declClass]; rfl
      profile := by rw [bare.profile]; rfl
      identity := by rw [bare.identity]; rfl
      prior := by rw [h.noPrior (by rw [waiting]; exact BayState.noConfusion)]; rfl
      cycleTimer := by rw [h.noCycle (by rw [waiting]; exact BayState.noConfusion)]; rfl
      ocTrip := fun _ => rfl
      otTrip := fun _ => rfl }

theorem attempt_keeps (s : State) : Keeps s (attempt s) :=
  attempt_induction (Keeps s) (fun t b _ hw h c =>
    admitBay_keeps b t (((h c).queue.member b).1 (walk_mem hw)) (h c)) s (.refl s)

theorem attemptIfAsked_keeps (s : State) : Keeps s (attemptIfAsked s) := by
  unfold attemptIfAsked
  split
  · exact Keeps.trans (t := { s with power := { s.power with attemptAsked := false } }) (Still.keeps ⟨rfl, rfl⟩)
      (attempt_keeps _)
  · exact .refl s

theorem settle_keeps (s : State) : Keeps s (settle s) := by
  rw [settle_eq]
  exact (((refreshHot_still s).trans (refreshBlocks_still _)).keeps.trans (attemptIfAsked_keeps _)).trans
    (finish_still _).keeps

/-! ### Moves of one bay: power, queue, faults -/

/-- The record of a bay with power, out of power in another state. -/
theorem BayRecord.Consistent.unpower {r : BayRecord} (h : r.Consistent) (hp : powered r.state = true) :
    (unpowerRecord r).Bare ∧ (unpowerRecord r).fault = none ∧ (unpowerRecord r).hold = none ∧
      (unpowerRecord r).prior = none ∧ (unpowerRecord r).cycleTimer = none := by
  have state (x : BayState) (hx : powered x = false) : r.state ≠ x := fun e => by rw [e, hx] at hp; cases hp
  exact ⟨unpowerRecord_bare r, h.noFault (state _ rfl), h.noHold (state _ rfl), h.noPrior (state _ rfl),
    h.noCycle (state _ rfl)⟩

theorem powered_ne_queued {x : BayState} (h : powered x = true) : x ≠ .queued := fun e => by rw [e] at h; cases h

/-- A bay with power leaves power for a state outside the queue. -/
theorem leavePower_modBay_keeps (b : Bay) (f : BayRecord → BayRecord) (s : State) (hp : powered s.bays[b].state = true)
    (record : (s.bays[b]).Consistent → (f (unpowerRecord s.bays[b])).Consistent)
    (state : (f (unpowerRecord s.bays[b])).state ≠ .queued) : Keeps s (modBay b f (leavePower b s)) := by
  have bays (c : Bay) : (modBay b f (leavePower b s)).bays[c] =
      if c = b then f (unpowerRecord s.bays[b]) else s.bays[c] := by
    rw [modBay_bays, leavePower_bays, upd_upd, getElem_upd]
  refine .one b (fun c hc => by rw [bays, if_neg hc]) (fun h => by rw [bays, if_pos rfl]; exact record h) ?_
  refine .stays (leavePower_queue b s) (iff_of_false ?_ (powered_ne_queued hp))
  rw [bays, if_pos rfl]
  exact state

theorem faultBay_keeps (b : Bay) (c : FaultCause) (s : State) (hp : powered s.bays[b].state = true) :
    Keeps s (faultBay b c s) := by
  refine leavePower_modBay_keeps b _ s hp (fun h => ?_) BayState.noConfusion
  obtain ⟨bare, -, hold, prior, cycle⟩ := h.unpower hp
  exact BayRecord.Bare.consistent { bare with } rfl rfl (fun k => by rw [hold] at k; cases k) (by rw [prior]; rfl)
    (by rw [cycle]; rfl)

/-- A bay whose record becomes QUEUED joins the queue. -/
theorem joinQueue_keeps (b : Bay) (x : QueueClass) (f : BayRecord → BayRecord) (s : State)
    (record : (s.bays[b]).Consistent → (f s.bays[b]).Consistent) (state : (f s.bays[b]).state = .queued) :
    Keeps s (joinQueue b x (modBay b f s)) := by
  have bays : (joinQueue b x (modBay b f s)).bays = upd s.bays b f := rfl
  exact .one b (fun c hc => by rw [bays, getElem_upd_ne _ _ hc]) (by rw [bays, getElem_upd_same]; exact record)
    (.joins x rfl (by rw [bays, getElem_upd_same]; exact state))

/-- A QUEUED record: bare, without fault, hold, prior state and cycle timer. -/
theorem BayRecord.Bare.queued {r : BayRecord} (h : r.Bare) (n : Nat) (fault : r.fault = none) (hold : r.hold = none)
    (prior : r.prior = none) (cycle : r.cycleTimer = none) :
    ({ r with state := .queued, retriesLeft := n } : BayRecord).Consistent :=
  BayRecord.Bare.consistent { h with } rfl (by rw [fault]; rfl) (fun k => by rw [hold] at k; cases k)
    (by rw [prior]; rfl) (by rw [cycle]; rfl)

/-! ### Seating and removal -/

theorem modLine_still (b : Bay) (f : LineUnit → LineUnit) (s : State) : Still s (modLine b f s) := ⟨rfl, rfl⟩

/-- A SEATING bay is seated by its policy (R24). -/
theorem seat_keeps (b : Bay) (s : State) (hx : s.bays[b].state = .seating) : Keeps s (seat b s) := by
  have parts (h : (s.bays[b]).Consistent) : s.bays[b].Bare ∧ s.bays[b].fault = none ∧ s.bays[b].hold = none ∧
      s.bays[b].prior = none ∧ s.bays[b].cycleTimer = none :=
    have state (x : BayState) (hn : BayState.seating ≠ x) : s.bays[b].state ≠ x := hx ▸ hn
    ⟨h.bare (by rw [hx]; rfl), h.noFault (state _ BayState.noConfusion), h.noHold (state _ BayState.noConfusion),
      h.noPrior (state _ BayState.noConfusion), h.noCycle (state _ BayState.noConfusion)⟩
  cases hp : s.bays[b].policy with
  | auto =>
    rw [seat_auto hp]
    refine ((modLine_still b unitSeated s).keeps.trans (joinQueue_keeps b .normal
      (fun r => { r with state := .queued, retriesLeft := r.retriesSetting }) _ (fun h => ?_) rfl)).trans
      (latchBay_still b .inserted _).keeps
    obtain ⟨bare, fault, hold, prior, cycle⟩ := parts h
    exact bare.queued _ fault hold prior cycle
  | manual =>
    rw [seat_manual hp]
    refine ((modLine_still b unitSeated s).keeps.trans (modBay_keeps b _ _ (fun h => ?_)
      (iff_of_false BayState.noConfusion ?_))).trans (latchBay_still b .inserted _).keeps
    · obtain ⟨bare, fault, -, prior, cycle⟩ := parts h
      exact BayRecord.Bare.consistent { bare with } rfl (by rw [modLine_bays, fault]; rfl) (fun k => by cases k)
        (by rw [modLine_bays, prior]; rfl) (by rw [modLine_bays, cycle]; rfl)
    · rw [modLine_bays, hx]; exact BayState.noConfusion

/-- An EMPTY or SEATING bay takes either of the two states. -/
theorem setState_keeps (b : Bay) (x : BayState) (s : State) (hs : s.bays[b].state = .empty ∨ s.bays[b].state = .seating)
    (hx : x = .empty ∨ x = .seating) : Keeps s (setState b x s) := by
  have free (y z : BayState) (h : y = .empty ∨ y = .seating) (ne : z ≠ .empty) (ns : z ≠ .seating) : y ≠ z := fun e =>
    h.elim (fun k => ne (e ▸ k)) fun k => ns (e ▸ k)
  have off {y : BayState} (h : y = .empty ∨ y = .seating) : powered y = false := by rcases h with rfl | rfl <;> rfl
  have old (z : BayState) (ne : z ≠ .empty) (ns : z ≠ .seating) := free _ z hs ne ns
  have new (z : BayState) (ne : z ≠ .empty) (ns : z ≠ .seating) := free _ z hx ne ns
  refine modBay_keeps b _ s (fun h => ?_)
    (iff_of_false (new _ BayState.noConfusion BayState.noConfusion) (old _ BayState.noConfusion BayState.noConfusion))
  refine BayRecord.Bare.consistent { h.bare (off hs) with } (off hx) ?_ (fun k => ?_) ?_ ?_
  · rw [h.noFault (old _ BayState.noConfusion BayState.noConfusion)]
    exact (decide_eq_false (new _ BayState.noConfusion BayState.noConfusion)).symm
  · rw [h.noHold (old _ BayState.noConfusion BayState.noConfusion)] at k; cases k
  · rw [h.noPrior (old _ BayState.noConfusion BayState.noConfusion)]
    exact (decide_eq_false (new _ BayState.noConfusion BayState.noConfusion)).symm
  · rw [h.noCycle (old _ BayState.noConfusion BayState.noConfusion)]
    exact (decide_eq_false (new _ BayState.noConfusion BayState.noConfusion)).symm

theorem startSeating_keeps (b : Bay) (s : State) (hs : s.bays[b].state = .empty ∨ s.bays[b].state = .seating) :
    Keeps s (startSeating b s) := by
  have entered := setState_keeps b .seating s hs (.inr rfl)
  rcases Nat.eq_zero_or_pos s.line.debounceSetting with hd | hd
  · rw [startSeating_of_zero b s hd]
    exact entered.trans (seat_keeps b _ (by rw [setState_bays, getElem_upd_same]))
  · rw [startSeating_of_pos b s hd]
    exact entered.trans (modLine_still b _ _).keeps

theorem unseat_keeps (b : Bay) (s : State) (hs : s.bays[b].state = .seating) : Keeps s (unseat b s) := by
  have cancelled (u : State) : Still u (cancelEmptyGroup u) := by rw [cancelEmptyGroup_eq]; exact ⟨rfl, rfl⟩
  exact (setState_keeps b .empty s (.inr hs) (.inl rfl)).trans ((modLine_still b _ _).trans (cancelled _)).keeps

theorem remove_queue (b : Bay) (s : State) : (remove b s).power.queue =
    if s.bays[b].state = .queued then dropEntry b s.power.queue else s.power.queue := by
  rw [remove_eq, latchBay_power, modLight_power, modBay_power]
  rcases evicted_cases b s with ⟨hp, e⟩ | ⟨-, hq, e⟩ | ⟨-, hq, e⟩
  · rw [e, leavePower_queue, if_neg (powered_ne_queued hp)]
  · rw [e, if_pos hq]; rfl
  · rw [e, if_neg hq]

/-- A removed bay's record holds nothing but settings (R23). -/
theorem remove_keeps (b : Bay) (s : State) : Keeps s (remove b s) := by
  refine .one b (fun c hc => remove_bays_ne b c s hc) (fun h => ?_) ?_
  · have bare : (if powered s.bays[b].state then unpowerRecord s.bays[b] else s.bays[b]).Bare := by
      split
      · exact unpowerRecord_bare _
      · next hp => exact h.bare (Bool.not_eq_true _ ▸ hp)
    rw [remove_record]
    exact BayRecord.Bare.consistent { bare with } rfl rfl (fun k => by cases k) rfl rfl
  · have empty : (remove b s).bays[b].state ≠ .queued := by rw [remove_state]; exact BayState.noConfusion
    have queue := remove_queue b s
    by_cases hq : s.bays[b].state = .queued
    · exact .leaves (queue.trans (if_pos hq)) empty
    · exact .stays (queue.trans (if_neg hq)) (iff_of_false empty hq)

theorem presenceEdge_keeps (b : Bay) (s : State) : Keeps s (presenceEdge b s) := by
  unfold presenceEdge
  split
  · exact (modLine_still b _ s).keeps
  · next hx _ => exact startSeating_keeps b s (.inl hx)
  · exact .refl s
  · next hx _ => exact unseat_keeps b s hx
  · exact remove_keeps b s
  · exact .refl s

theorem judgePresence_keeps (b : Bay) (s : State) : Keeps s (judgePresence b s) := by
  unfold judgePresence
  dsimp only
  split
  · exact .refl s
  · exact (modLine_still b _ s).keeps.trans (presenceEdge_keeps b _)

theorem setConnector_keeps (b : Bay) (d : PrsDrive) (s : State) : Keeps s (setConnector b d s) :=
  (modLine_still b _ s).keeps.trans (judgePresence_keeps b _)

theorem writeLines_keeps (rec : LineRecord) (b : Bay) (s : State) : Keeps s (writeLines rec b s) :=
  (modLine_still b _ s).keeps.trans (judgePresence_keeps b _)

/-! ### Line test (R13, R17, R39) -/

/-- The record of a bay that enters TEST: the fault cause it had is in its prior state. -/
theorem testRecord_consistent {r : BayRecord} (h : r.Consistent) (enters : enterOutcome r = .entered) :
    (testRecord r).Consistent := by
  have state : r.state = .empty ∨ r.state = .faulted ∨ r.state = .off ∧ r.hold = none := by
    unfold enterOutcome at enters
    split at enters <;> simp_all
  have off : powered r.state = false := by rcases state with e | e | ⟨e, -⟩ <;> rw [e] <;> rfl
  have hold : r.hold = none := by
    rcases state with e | e | ⟨-, e⟩
    · exact h.noHold (by rw [e]; exact BayState.noConfusion)
    · exact h.noHold (by rw [e]; exact BayState.noConfusion)
    · exact e
  have cycle : r.cycleTimer = none :=
    h.noCycle (by rcases state with e | e | ⟨e, -⟩ <;> rw [e] <;> exact BayState.noConfusion)
  exact BayRecord.Bare.consistent { h.bare off with } rfl rfl
    (fun k => by change r.hold.isSome = true at k; rw [hold] at k; cases k) rfl
    (by change r.cycleTimer.isSome = _; rw [cycle]; rfl)

theorem lineTestEnter_keeps (p : UpPort) (f : Frame) (s : State) : Keeps s (lineTestEnter p f s).1 := by
  unfold lineTestEnter
  dsimp only
  split
  · exact .refl s
  · dsimp only
    rw [enterTest_foldl _ (allBays_nodup.filter _)]
    refine (modBays_keeps _ testRecord s fun b hb => ?_).trans (modLines_still _ (fun u => { u with edges := 0 }) _).keeps
    have enters : enterOutcome s.bays[b] = .entered :=
      of_decide_eq_true (Bool.and_eq_true_iff.1 (List.mem_filter.1 (of_decide_eq_true hb)).2).2
    refine ⟨fun h => testRecord_consistent h enters, iff_of_false BayState.noConfusion fun e => ?_⟩
    unfold enterOutcome at enters
    rw [e] at enters
    cases enters

/-- A TEST bay's record with another state, and the fault cause that goes with it. -/
theorem leftTest_keeps (b : Bay) (x : BayState) (c : Option FaultCause) (s : State) (hs : s.bays[b].state = .test)
    (hx : powered x = false ∧ x ≠ .queued ∧ x ≠ .test ∧ x ≠ .cycling) (cause : c.isSome = decide (x = .faulted)) :
    Keeps s (modBay b (leftTest x c) s) := by
  obtain ⟨off, queued, test, cycling⟩ := hx
  refine modBay_keeps b _ s (fun h => ?_) (iff_of_false queued (by rw [hs]; exact BayState.noConfusion))
  exact BayRecord.Bare.consistent { h.bare (by rw [hs]; rfl) with } off cause (fun k => by cases k)
    (decide_eq_false test).symm (by
      rw [leftTest, h.noCycle (by rw [hs]; exact BayState.noConfusion)]
      exact (decide_eq_false cycling).symm)

theorem exitTest_keeps (b : Bay) (s : State) : Keeps s (exitTest b s) := fun h => by
  cases hp : s.bays[b].prior with
  | none => rw [exitTest_still hp]; exact h
  | some y =>
    have test : s.bays[b].state = .test := by
      by_contra hn
      rw [(h.record b).noPrior hn] at hp
      cases hp
    cases hx : s.line.bays[b].presence with
    | absent =>
      by_cases he : s.bays[b].prior = some .empty
      · rw [exitTest_empty he hx]
        exact leftTest_keeps b .empty none s test (by decide) rfl h
      · rw [exitTest_removed (by rw [hp]; rfl) he hx]
        exact remove_keeps b s h
    | present =>
      cases y with
      | empty =>
        rw [exitTest_inserted hp hx]
        exact (leftTest_keeps b .seating none s test (by decide) rfl).trans
          (startSeating_keeps b _ (.inr (by rw [modBay_bays, getElem_upd_same]; rfl))) h
      | off =>
        rw [exitTest_off hp hx]
        exact leftTest_keeps b .off none s test (by decide) rfl h
      | faulted c =>
        rw [exitTest_faulted hp hx]
        exact leftTest_keeps b .faulted (some c) s test (by decide) rfl h

end Sys2Proof.Machine

namespace Sys2Proof.Machine

/-! ### Frames: a trip that the snooper sends, queues, waits (R75 to R86, R108 to R120) -/

theorem BayRecord.Consistent.overtemp {r : BayRecord} (h : r.Consistent) (hp : powered r.state = true) :
    ({ r with otTrip := true } : BayRecord).Consistent := { h with otTrip := fun _ => hp }

theorem BayRecord.Consistent.overcurrent {r : BayRecord} (h : r.Consistent) (hp : powered r.state = true) :
    ({ r with ocTrip := true } : BayRecord).Consistent := { h with ocTrip := fun _ => hp }

theorem capture_keeps (b : Bay) (x : Int) (s : State) (hp : powered s.bays[b].state = true) :
    Keeps s (capture b x s) := by
  have warned (p : Prop) [Decidable p] : Still s (if p then latchBay b .tempWarn s else s) := by
    split
    · exact latchBay_still b .tempWarn s
    · exact .refl s
  have taken (u : State) (h : Still s u) (m : Int) : Still s (modTherm b (capturedRecord m x) u) := h
  unfold capture
  extract_lets r u v w
  have still : Still s v := taken u (warned _) _
  split
  · have latched : Still s w := still.trans (latchBay_still b .overtemp v)
    split
    · refine latched.keeps.trans (modBay_keeps b _ w (fun h => h.overtemp ?_) Iff.rfl)
      rw [latched.1]; exact hp
    · exact latched.keeps
  · exact still.keeps

theorem applyRule_keeps (b : Bay) (r : SnoopRule) (v : Byte) (s : State) (hp : powered s.bays[b].state = true) :
    Keeps s (applyRule b r v s) := by
  unfold applyRule
  split
  · split
    · split
      · exact capture_keeps b _ s hp
      · exact Still.keeps ⟨rfl, rfl⟩
    · exact .refl s
  · split
    · exact .refl s
    · exact Keeps.trans (t := modLight b (fun u => { u with predictedFault := true }) s) (Still.keeps ⟨rfl, rfl⟩)
        (latchBay_still b .predictedFault _).keeps

/-- Only the frames of an ONLINE bay are read (R85). -/
theorem snoop_keeps (b : Bay) (f : Frame) (s : State) : Keeps s (snoop b f s) := by
  unfold snoop
  dsimp only
  split
  · next on =>
    split
    · exact .refl s
    · split
      · exact .refl s
      · exact applyRule_keeps b _ _ s (by rw [on]; rfl)
  · exact .refl s

theorem place_keeps (p q : Port) (f : Frame) (s : State) : Keeps s (place p q f s) := by
  cases q with
  | bay b => exact Still.keeps ⟨rfl, rfl⟩
  | up u =>
    cases p with
    | bay a =>
      exact Keeps.trans (t := markActivity a (count (.bay a) .forwarded 1 (pushNormal u ⟨f, .arrived (.bay a)⟩ s)))
        (Still.keeps ⟨rfl, rfl⟩) (snoop_keeps a f _)
    | up v => exact Still.keeps ⟨rfl, rfl⟩

theorem fillPlace_keeps (q : Port) (s : State) : Keeps s (fillPlace q s) := by
  unfold fillPlace
  split
  · exact .refl s
  · next p w _ _ => exact Keeps.trans (t := clearSlot p s) (Still.keeps ⟨rfl, rfl⟩) (place_keeps p q w.frame _)

/-! ### Frames that arrive (R27 to R29, R68 to R72, R97, R98) -/

theorem learn_still (p : Port) (a : Addr) (s : State) : Still s (learn p a s) := by
  unfold learn
  split
  · exact ⟨rfl, rfl⟩
  · exact .of_eq (latchEncl_bays _ _ _) (latchEncl_power _ _ _)

theorem setCharge_still (b : Bay) (v : Nat) (s : State) : Still s (setCharge b v s) :=
  ⟨setCharge_bays b v s, setCharge_queue b v s⟩

theorem refuseHello_keeps (b : Bay) (c : FaultCause) (k : BayEvent) (s : State) (hp : powered s.bays[b].state = true) :
    Keeps s (refuseHello b c k s) :=
  have counted (u : State) : Still u (count (.bay b) .discarded 1 u) := ⟨rfl, rfl⟩
  (faultBay_keeps b c s hp).trans ((latchBay_still b k _).trans (counted _)).keeps

/-- What a HELLO stores makes an ONLINE record of one with power. -/
theorem BayRecord.Consistent.storeHello {r : BayRecord} (h : r.Consistent) (hp : powered r.state = true)
    (a : Announcement) : ({ Machine.storeHello a r with state := .online, startTimer := none } : BayRecord).Consistent := by
  have state (x : BayState) (hx : powered x = false) : r.state ≠ x := fun e => by rw [e, hx] at hp; cases hp
  exact
    { chargedClass := rfl, driveAddr := rfl, declClass := rfl, profile := rfl, identity := rfl, startTimer := rfl
      activeZone := h.activeZone.trans hp
      fault := congrArg Option.isSome (h.noFault (state _ rfl))
      hold := fun k => absurd (show r.hold.isSome = true from k) (by rw [h.noHold (state _ rfl)]; exact Bool.false_ne_true)
      prior := congrArg Option.isSome (h.noPrior (state _ rfl))
      cycleTimer := congrArg Option.isSome (h.noCycle (state _ rfl))
      ocTrip := fun _ => rfl, otTrip := fun _ => rfl }

theorem acceptStart_keeps (b : Bay) (a : Announcement) (s : State) (hx : s.bays[b].state = .starting) :
    Keeps s (acceptStart b a s) := by
  have online := modBay_keeps b (fun r => { storeHello a r with state := .online, startTimer := none }) s
    (fun h => h.storeHello (by rw [hx]; rfl) a) (iff_of_false BayState.noConfusion (by rw [hx]; exact BayState.noConfusion))
  have learned : Keeps s (learn (.bay b) a.addr (setCharge b (runDraw a.cls s)
      (modBay b (fun r => { storeHello a r with state := .online, startTimer := none }) s))) :=
    online.trans ((setCharge_still b _ _).trans (learn_still _ _ _)).keeps
  unfold acceptStart
  exact learned.trans (((modTherm_still b _ _).trans (latchBay_still b .online _)).trans (ask_still _)).keeps

theorem acceptOnline_keeps (move : Bool) (b : Bay) (a : Announcement) (s : State) (hx : s.bays[b].state = .online) :
    Keeps s (acceptOnline move b a s) := by
  have stored : Keeps s (modBay b (storeHello a) s) := by
    refine modBay_keeps b (storeHello a) s (fun h => ?_) Iff.rfl
    have timer := eq_none_of_isSome h.startTimer (by rw [hx]; exact BayState.noConfusion)
    have same : ({ storeHello a s.bays[b] with state := .online, startTimer := none } : BayRecord) =
        storeHello a s.bays[b] := by rw [← hx, ← timer]; rfl
    exact same ▸ h.storeHello (by rw [hx]; rfl) a
  unfold acceptOnline
  dsimp only
  split
  · exact stored.trans ((setCharge_still b _ _).trans (learn_still _ _ _)).keeps
  · exact stored.trans (setCharge_still b _ _).keeps

theorem helloAtBay_keeps (b : Bay) (f : Frame) (s : State) : Keeps s (helloAtBay b f s) := by
  unfold helloAtBay
  split
  · exact Still.keeps ⟨rfl, rfl⟩
  · next a _ =>
    split
    · next hx =>
      have hp : powered s.bays[b].state = true := by rw [hx]; rfl
      unfold helloStarting
      split
      · exact refuseHello_keeps b _ _ s hp
      · split
        · exact refuseHello_keeps b _ _ s hp
        · exact acceptStart_keeps b a s hx
    · next hx =>
      have hp : powered s.bays[b].state = true := by rw [hx]; rfl
      unfold helloOnline
      dsimp only
      split
      · exact refuseHello_keeps b _ _ s hp
      · split
        · exact refuseHello_keeps b _ _ s hp
        · exact acceptOnline_keeps _ b a s hx
    · exact .refl s

theorem helloAtUp_still (p : UpPort) (f : Frame) (s : State) : Still s (helloAtUp p f s) := by
  unfold helloAtUp
  split
  · exact ⟨rfl, rfl⟩
  · split
    · exact .refl s
    · split
      · exact ⟨rfl, rfl⟩
      · exact learn_still _ _ s

theorem routeFrame_keeps (p : Port) (f : Frame) (s : State) : Keeps s (routeFrame p f s) := by
  unfold routeFrame
  split
  · exact (refuseFrame_still _ p f s).keeps
  · split
    · exact Still.keeps ⟨rfl, rfl⟩
    · split
      · exact (refuseFrame_still _ p f s).keeps
      · split
        · exact place_keeps p _ f s
        · exact Still.keeps ⟨rfl, rfl⟩

theorem intake_still (p : UpPort) (f : Frame) (s : State) : Still s (intake p f s) := by
  unfold intake
  split
  · exact ⟨rfl, rfl⟩
  · exact refuseFrame_still _ _ f s

theorem classify_keeps (p : Port) (f : Frame) (s : State) : Keeps s (classify p f s) := by
  unfold classify
  split
  · cases p with
    | bay b => exact helloAtBay_keeps b f s
    | up u => exact (helloAtUp_still u f s).keeps
  · split
    · cases p with
      | bay b => exact (refuseFrame_still _ _ f s).keeps
      | up u => exact (intake_still u f s).keeps
    · exact routeFrame_keeps p f s

theorem arrive_keeps (p : Port) (bytes : List Byte) (s : State) : Keeps s (arrive p bytes s) := by
  have taken : Keeps s (takeIn p bytes s) := by
    unfold takeIn
    split
    · exact Still.keeps ⟨rfl, rfl⟩
    · exact classify_keeps p _ s
  cases p with
  | bay b =>
    unfold arrive
    dsimp only
    split
    · exact taken
    · exact Still.keeps ⟨rfl, rfl⟩
  | up u => exact taken

theorem holdNext_still (p : Port) (s : State) : Still s (holdNext p s) := by cases p <;> exact ⟨rfl, rfl⟩

/-! ### Transmission (R76 to R82) -/

theorem setPhase_still (x : RestartPhase) (h : Held) (s : State) : Still s (setPhase x h s) := by
  unfold setPhase
  split <;> exact ⟨rfl, rfl⟩

theorem placeHeld_still (p : UpPort) (s : State) : Still s (placeHeld p s) := by
  unfold placeHeld
  split
  · exact .refl s
  · split
    · exact Still.trans (t := pushPriority p _ { s with mgmt := { s.mgmt with held := none } }) ⟨rfl, rfl⟩
        (setPhase_still _ _ _)
    · exact .refl s

theorem startPriority_still (p : UpPort) (h : Held) (rest : List Held) (arb : Nat) (s : State) :
    Still s (startPriority p h rest arb s) := by
  have completed (u : State) : Still u (completeNotice p h u).2 := by
    unfold completeNotice
    split <;> exact ⟨rfl, rfl⟩
  have queue : Still s (modUp p (fun u => { u with priority := rest, arbiter := arb }) s) := ⟨rfl, rfl⟩
  have sent (x : Held) (u : State) : Still u (setTransmitting (.up p) x u) := ⟨rfl, rfl⟩
  exact (((queue.trans (completed _)).trans (sent _ _)).trans (setPhase_still _ _ _)).trans (placeHeld_still _ _)

theorem startNormal_keeps (p : UpPort) (h : Held) (rest : List Held) (s : State) : Keeps s (startNormal p h rest s) :=
  Keeps.trans (t := setTransmitting (.up p) h (modUp p (fun u => { u with normal := rest, arbiter := 0 }) s))
    (Still.keeps ⟨rfl, rfl⟩) (fillPlace_keeps (.up p) _)

theorem startTransmission_keeps {p : Port} {s t : State} (e : startTransmission p s = some t) : Keeps s t := by
  unfold startTransmission at e
  split at e
  · cases e
  · cases p with
    | bay b =>
      dsimp only [startBay] at e
      split at e
      · split at e
        · cases e
        · next h rest _ =>
          cases e
          exact Keeps.trans (t := setTransmitting (.bay b) h
            { s with fwd := { s.fwd with bayQueue := put s.fwd.bayQueue b rest } }) (Still.keeps ⟨rfl, rfl⟩)
            (fillPlace_keeps (.bay b) _)
      · cases e
    | up u =>
      dsimp only [startUp] at e
      split at e
      · split at e
        · cases e
        · cases e; exact (startPriority_still u _ _ _ s).keeps
        · cases e; exact startNormal_keeps u _ _ s
        · split at e
          · cases e; exact (startPriority_still u _ _ _ s).keeps
          · cases e; exact startNormal_keeps u _ _ s
      · cases e

/-! ### The warm restart and the loss of a link (R37, R86, R178) -/

/-- A hold may go from any record. -/
theorem BayRecord.Consistent.release {r : BayRecord} (h : r.Consistent) :
    ({ r with hold := none } : BayRecord).Consistent := { h with hold := fun k => by cases k }

theorem restartNow_keeps (s : State) : Keeps s (restartNow s) := by
  have cleared : Keeps s (modBays (fun _ => true) (fun r => { r with hold := none }) s) :=
    modBays_keeps _ _ s fun _ _ => ⟨fun h => h.release, Iff.rfl⟩
  exact cleared.trans (Still.keeps ⟨rfl, rfl⟩)

theorem releaseHolds_keeps (p : UpPort) (s : State) : Keeps s (releaseHolds p s) :=
  modBays_keeps _ _ s fun _ _ => ⟨fun h => h.release, Iff.rfl⟩

theorem abandon_still (p : Port) (s : State) : Still s (abandon p s) := by
  unfold abandon
  split <;> exact ⟨rfl, rfl⟩

theorem dropOwnWait_still (p : Port) (s : State) : Still s (dropOwnWait p s) := by
  unfold dropOwnWait
  split <;> exact ⟨rfl, rfl⟩

theorem dropQueues_still (p : UpPort) (s : State) : Still s (dropQueues p s) :=
  Still.trans (t := count (.up p) .discarded (s.fwd.up[upIdx p].normal.length + s.fwd.up[upIdx p].priority.length)
    (modUp p (fun u => { u with linkUp := false, normal := [], priority := [], arbiter := 0 }) s)) ⟨rfl, rfl⟩
    ((abandon_still _ _).trans (dropOwnWait_still _ _))

theorem refuseWaiters_still (p : UpPort) (s : State) : Still s (refuseWaiters p s) :=
  .foldl _ (fun s x => .of_eq (endWait_bays _ x s) (endWait_power _ x s)) _ s

theorem loseLink_keeps (p : UpPort) (s : State) : Keeps s (loseLink p s) := by
  have cleared (u : State) : Still u (clearLearned (.up p) u) := .of_eq (clearLearned_bays _ u) (clearLearned_power _ u)
  have dropped (u : State) : Still u (dropRequests p u) := .of_eq (dropRequests_bays p u) (dropRequests_power p u)
  have unsubscribed (u : State) : Still u (unsubscribe p u) := .of_eq (unsubscribe_bays p u) (unsubscribe_power p u)
  have closed : Keeps s
      (unsubscribe p (dropRequests p (releaseHolds p (clearLearned (.up p) (refuseWaiters p (dropQueues p s)))))) :=
    ((((dropQueues_still p s).trans (refuseWaiters_still p _)).trans (cleared _)).keeps.trans
      (releaseHolds_keeps p _)).trans ((dropped _).trans (unsubscribed _)).keeps
  unfold loseLink
  dsimp only
  split
  · exact closed.trans (restartNow_keeps _)
  · exact closed

end Sys2Proof.Machine

namespace Sys2Proof.Machine

/-! ### Events (R24, R26, R33, R35, R61, R62, R130) -/

theorem advance_still (t : Nat) (s : State) : Still s (advance t s) := ⟨rfl, rfl⟩

/-- The records and the queue follow the command's own change, whatever the step ends with. -/
theorem settled_keeps {s t u : State} (e : (.next (settle u) : StepResult) = .next t) (h : Keeps s u) : Keeps s t :=
  Host.Outcome.next.inj e ▸ h.trans (settle_keeps u)

theorem idle_keeps {s t : State} (e : (.next s : StepResult) = .next t) : Keeps s t :=
  Host.Outcome.next.inj e ▸ .refl s

/-- A bay without fault, hold and prior state that is not QUEUED joins the queue afresh. -/
theorem enqueueFresh_keeps (b : Bay) (x : QueueClass) (f : BayRecord → BayRecord) (s : State)
    (record : (s.bays[b]).Consistent → (f s.bays[b]).Bare ∧ (f s.bays[b]).fault = none ∧ (f s.bays[b]).hold = none ∧
      (f s.bays[b]).prior = none ∧ (f s.bays[b]).cycleTimer = none) :
    Keeps s (enqueueFresh b x (modBay b f s)) := by
  have joined := joinQueue_keeps b x
    (fun r => { f r with state := .queued, retriesLeft := (f r).retriesSetting }) s (fun h => ?_) rfl
  · unfold enqueueFresh
    rw [show modBay b (fun r => { r with state := .queued, retriesLeft := r.retriesSetting }) (modBay b f s) =
      modBay b (fun r => { f r with state := .queued, retriesLeft := (f r).retriesSetting }) s from by
        unfold modBay; rw [upd_upd]]
    exact joined
  · obtain ⟨bare, fault, hold, prior, cycle⟩ := record h
    exact bare.queued _ fault hold prior cycle

theorem failStart_keeps (b : Bay) (s : State) (hx : s.bays[b].state = .starting) : Keeps s (failStart b s) := by
  have hp : powered s.bays[b].state = true := by rw [hx]; rfl
  unfold failStart
  dsimp only
  refine Keeps.trans ?_ (latchBay_still b .startFailed _).keeps
  split
  · refine .one b (t := joinQueue b .normal (modBay b _ (leavePower b s))) (fun c hc => ?_) (fun h => ?_) (.joins .normal ?_ ?_)
    · rw [joinQueue_bays, modBay_bays, leavePower_bays, upd_upd, getElem_upd_ne _ _ hc]
    · obtain ⟨bare, fault, hold, prior, cycle⟩ := h.unpower hp
      rw [joinQueue_bays, modBay_bays, leavePower_bays, upd_upd, getElem_upd_same]
      exact bare.queued _ fault hold prior cycle
    · exact congrArg (fun q => joinClass ⟨b, .normal⟩ (dropEntry b q)) (leavePower_queue b s)
    · rw [joinQueue_bays, modBay_bays, getElem_upd_same]
  · exact faultBay_keeps b .noHello s hp

theorem persist_keeps (b : Bay) (s : State) (hp : powered s.bays[b].state = true) : Keeps s (persist b s) := by
  have latched : Still s (latchBay b .overcurrent (setFilter b .persisted s)) :=
    Still.trans (t := setFilter b .persisted s) ⟨rfl, rfl⟩ (latchBay_still b .overcurrent _)
  unfold persist
  dsimp only
  split
  · refine latched.keeps.trans (modBay_keeps b _ _ (fun h => h.overcurrent ?_) Iff.rfl)
    rw [latched.1]; exact hp
  · exact latched.keeps

theorem latchFan_still (x : FanState) (m : FanModule) (s : State) : Still s (latchFan x m s) :=
  .of_eq (latchFan_bays x m s) (latchFan_power x m s)

theorem closeWindows_still (s : State) : Still s (closeWindows s) := by
  have closed (new : Vector ModuleUnit 8) (l : List FanModule) :
      Still s (l.foldl (fun s (m : FanModule) => latchFan new[m].state m s) { s with cool := { s.cool with modules := new } }) :=
    Still.trans (t := { s with cool := { s.cool with modules := new } }) ⟨rfl, rfl⟩
      (.foldl _ (fun u m => latchFan_still _ m u) _ _)
  exact (closed _ _).trans (refreshZoneStates_still _)

theorem askOnRise_still (s t : State) : Still t (askOnRise s t) := by
  unfold askOnRise
  split
  · exact ⟨rfl, rfl⟩
  · exact .refl t

theorem updatePeriod_still (channels : Vector (Option Int) 4) (s : State) :
    Still s (restartPeriod (zoneDemand (thermalInputs channels (closeWindows s)))) := by
  have computed (u : State) : Still u (zoneDemand (thermalInputs channels u)) :=
    .of_eq (by rw [zoneDemand_bays, thermalInputs_bays]) (by rw [zoneDemand_power, thermalInputs_power])
  have restarted (u : State) : Still u (restartPeriod u) := ⟨rfl, rfl⟩
  exact ((closeWindows_still s).trans (computed _)).trans (restarted _)

/-- The bays of the scan group are seated one by one; each is SEATING until its turn. -/
theorem scan_keeps (l : List Bay) (nodup : l.Nodup) (s : State) (seating : ∀ b ∈ l, s.bays[b].state = .seating) :
    Keeps s (l.foldl (fun s b => attemptIfAsked (seat b s)) s) := fun h => by
  induction l generalizing s with
  | nil => exact h
  | cons b l ih =>
    obtain ⟨hb, hl⟩ := List.nodup_cons.1 nodup
    have seated := seat_keeps b s (seating b (by simp)) h
    refine ih hl _ (fun c hc => ?_) (attemptIfAsked_keeps _ seated)
    have still : (seat b s).bays[c] = s.bays[c] := seat_bays_ne b c s fun e => hb (e ▸ hc)
    have state : (seat b s).bays[c].state = .seating := by rw [still]; exact seating c (List.mem_cons_of_mem b hc)
    rw [((attemptIfAsked_atMostAdmitted c (seat b s) seated.queued).eq (by rw [state]; exact BayState.noConfusion)).1, state]

theorem scanGroupExpiry_keeps {s t : State} (e : execScanGroupExpiry s = .next t) : Keeps s t := by
  unfold execScanGroupExpiry at e
  split at e
  · exact idle_keeps e
  · next x _ =>
    refine settled_keeps e (Keeps.trans (t := advance x { s with line := { s.line with groupTimer := none } })
      (Still.keeps ⟨rfl, rfl⟩) (scan_keeps _ (allBays_nodup.filter _) _ fun b hb => ?_))
    exact of_decide_eq_true (Bool.and_eq_true_iff.1 (List.mem_filter.1 hb).2).2

theorem seatingExpired_keeps (b : Bay) {s t : State} (e : execSeatingExpired b s = .next t) : Keeps s t := by
  unfold execSeatingExpired at e
  split at e
  · next x hx _ => exact settled_keeps e ((advance_still x s).keeps.trans (seat_keeps b _ hx))
  · exact idle_keeps e

theorem startWindowExpiry_keeps (b : Bay) {s t : State} (e : execStartWindowExpiry b s = .next t) : Keeps s t := by
  unfold execStartWindowExpiry at e
  split at e
  · next x hx _ => exact settled_keeps e ((advance_still x s).keeps.trans (failStart_keeps b _ hx))
  · exact idle_keeps e

theorem cycleTimerExpiry_keeps (b : Bay) {s t : State} (e : execCycleTimerExpiry b s = .next t) : Keeps s t := by
  unfold execCycleTimerExpiry at e
  split at e
  · next x hx _ =>
    refine settled_keeps e ((advance_still x s).keeps.trans (enqueueFresh_keeps b .priority _ _ fun h => ?_))
    have state (y : BayState) (hy : BayState.cycling ≠ y) : (advance x s).bays[b].state ≠ y := fun k => hy (hx.symm.trans k)
    exact ⟨{ h.bare (by rw [advance_bays, hx]; rfl) with }, h.noFault (state _ BayState.noConfusion),
      h.noHold (state _ BayState.noConfusion), h.noPrior (state _ BayState.noConfusion), rfl⟩
  · exact idle_keeps e

theorem ocConditionAsserted_keeps (b : Bay) {s t : State} (e : execOcConditionAsserted b s = .next t) : Keeps s t := by
  unfold execOcConditionAsserted at e
  dsimp only at e
  split at e <;> exact settled_keeps e (Still.keeps ⟨rfl, rfl⟩)

theorem ocFilterExpiry_keeps (b : Bay) {s t : State} (e : execOcFilterExpiry b s = .next t) : Keeps s t := by
  unfold execOcFilterExpiry at e
  split at e
  · next hp => exact settled_keeps e ((advance_still _ s).keeps.trans (persist_keeps b _ hp))
  · exact idle_keeps e

theorem protectionTrip_keeps (b : Bay) (c : TripCause) {s t : State} (e : execProtectionTrip b c s = .next t) : Keeps s t := by
  unfold execProtectionTrip at e
  split at e
  · next h => exact settled_keeps e (faultBay_keeps b _ s (Bool.and_eq_true_iff.1 h).2)
  · exact idle_keeps e

theorem arrival_keeps {p : Port} {bytes : List Byte} {s t : State} (e : arrival p bytes s = .next t) : Keeps s t := by
  unfold arrival at e
  split at e
  · exact Host.Outcome.next.inj e ▸ (holdNext_still p s).keeps
  · exact settled_keeps e (arrive_keeps p bytes s)

theorem transmissionStart_keeps (p : Port) {s t : State} (e : execTransmissionStart p s = .next t) : Keeps s t := by
  unfold execTransmissionStart at e
  split at e
  · exact idle_keeps e
  · next h => exact settled_keeps e (startTransmission_keeps h)

theorem transmissionComplete_keeps {p : Port} {s t : State} (e : execTransmissionComplete p s = .next t) : Keeps s t := by
  unfold execTransmissionComplete at e
  split at e
  · exact idle_keeps e
  · have sent : Keeps s { s with fwd := { s.fwd with transmitting := put s.fwd.transmitting (portIdx p) none } } :=
      Still.keeps ⟨rfl, rfl⟩
    refine settled_keeps e ?_
    dsimp only
    split
    · exact sent.trans (restartNow_keeps _)
    · exact sent

theorem forwardTimeout_keeps (p : Port) {s t : State} (e : execForwardTimeout p s = .next t) : Keeps s t := by
  unfold execForwardTimeout at e
  split at e
  · exact idle_keeps e
  · next w _ => exact settled_keeps e (Keeps.trans (t := count p .timedOut 1 (clearSlot p (advance w.endsAt s)))
      (Still.keeps ⟨rfl, rfl⟩) (sendStatus_still _ p _ _).keeps)

theorem linkUp_keeps (p : UpPort) {s t : State} (e : execLinkUp p s = .next t) : Keeps s t := by
  unfold execLinkUp at e
  split at e
  · exact idle_keeps e
  · exact settled_keeps e (Still.keeps ⟨rfl, rfl⟩)

theorem linkDown_keeps (p : UpPort) {s t : State} (e : execLinkDown p s = .next t) : Keeps s t := by
  unfold execLinkDown at e
  split at e
  · exact settled_keeps e (loseLink_keeps p s)
  · exact idle_keeps e

/-- A command that settles a change of neither the records nor the queue, or does nothing. -/
theorem still_or_idle {s t u : State} (h : Still s u) (p : Prop) [Decidable p]
    (e : (if p then .next (settle u) else .next s : StepResult) = .next t) : Keeps s t := by
  split at e
  · exact settled_keeps e h.keeps
  · exact idle_keeps e

theorem staggerExpiry_keeps {s t : State} (e : execStaggerExpiry s = .next t) : Keeps s t := by
  unfold execStaggerExpiry at e
  split at e
  · exact idle_keeps e
  · exact settled_keeps e (Still.keeps ⟨rfl, rfl⟩)

theorem overrideEnd_keeps (m : FanModule) {s t : State} (e : execOverrideEnd m s = .next t) : Keeps s t := by
  unfold execOverrideEnd at e
  split at e
  · exact idle_keeps e
  · exact settled_keeps e (Still.keeps ⟨rfl, rfl⟩)

theorem locateEnd_keeps (b : Bay) {s t : State} (e : execLocateEnd b s = .next t) : Keeps s t := by
  unfold execLocateEnd at e
  split at e
  · exact settled_keeps e (Still.keeps ⟨rfl, rfl⟩)
  · exact idle_keeps e

theorem activityWindowEnd_keeps (b : Bay) {s t : State} (e : execActivityWindowEnd b s = .next t) : Keeps s t := by
  unfold execActivityWindowEnd at e
  split at e
  · exact settled_keeps e (Still.keeps ⟨rfl, rfl⟩)
  · exact idle_keeps e

theorem patternTurn_keeps (p : PatternNo) {s t : State} (e : execPatternTurn p s = .next t) : Keeps s t :=
  still_or_idle (advance_still _ s) _ e

theorem tachPulse_keeps (m : FanModule) (r : Rotor) {s t : State} (e : execTachPulse m r s = .next t) : Keeps s t := by
  cases r <;> exact settled_keeps e (Still.keeps ⟨rfl, rfl⟩)

theorem updatePeriod_keeps (channels : Vector (Option Int) 4) {s t : State} (e : execUpdatePeriod channels s = .next t) :
    Keeps s t :=
  settled_keeps e (((advance_still _ s).trans (updatePeriod_still channels _)).trans (askOnRise_still _ _)).keeps

/-- After reset a bay is EMPTY or SEATING, and no bay is QUEUED (R20). -/
theorem powerOn_consistent (now : Nat) (pins : PowerOnPins) (rest : List Instr) :
    BaysConsistent (State.powerOn now pins rest) where
  record b := by
    rw [powerOn_bays]
    unfold BayRecord.reset
    cases scanPresence pins.prs[b] <;>
      exact BayRecord.Bare.consistent ⟨rfl, rfl, rfl, rfl, rfl, rfl, rfl, rfl, rfl⟩ rfl rfl (fun k => by cases k) rfl rfl
  queue := by
    refine ⟨fun b => iff_of_false (List.not_mem_nil) fun k => ?_, List.nodup_nil, List.Pairwise.nil⟩
    rcases powerOn_state now pins rest b with h | h <;> rw [h] at k <;> cases k

/-! ### Requests -/

theorem offerResponse_still (p : UpPort) (h : Held) (s : State) : Still s (offerResponse p h s) := by
  unfold offerResponse
  split <;> exact ⟨rfl, rfl⟩

theorem respond_still (p : UpPort) (req : Frame) (x : State × Reply) : Still x.1 (respond p req x) :=
  .of_eq (respond_bays p req x.2 x.1) (respond_power p req x.2 x.1)

theorem serveIf_keeps {accepts : Frame → Bool} {body : UpPort → Frame → State → State × Reply} {s t : State}
    (h : ∀ p f u, Keeps u (body p f u).1) (e : serveIf accepts body s = .next t) : Keeps s t := by
  unfold serveIf at e
  split at e
  · exact idle_keeps e
  · next p req _ =>
    split at e
    · have taken : Keeps s (takeRequest p s) := Still.keeps ⟨rfl, rfl⟩
      exact settled_keeps e ((taken.trans (h p req _)).trans (respond_still p req _).keeps)
    · exact idle_keeps e

theorem serveCode_keeps {code : BitVec 16} {n : Nat} {body : UpPort → Frame → State → State × Reply} {s t : State}
    (h : ∀ p f u, Keeps u (body p f u).1) (e : serveCode code n body s = .next t) : Keeps s t := by
  refine serveIf_keeps (fun p f u => ?_) e
  show Keeps u (if f.words < 1 + n then (u, badRequest) else body p f u).1
  split
  · exact .refl u
  · exact h p f u

theorem serveCode_still {code : BitVec 16} {n : Nat} {body : UpPort → Frame → State → State × Reply} {s t : State}
    (h : ∀ p f u, Still u (body p f u).1) (e : serveCode code n body s = .next t) : Keeps s t :=
  serveCode_keeps (fun p f u => (h p f u).keeps) e

theorem serveRead_keeps {code : BitVec 16} {n : Nat} {report : UpPort → Frame → State → Reply} {s t : State}
    (e : serveRead code n report s = .next t) : Keeps s t := serveCode_keeps (fun _ _ u => .refl u) e

theorem withBay_keeps (f : Frame) (s : State) (k : Bay → State × Reply) (h : ∀ b, Keeps s (k b).1) :
    Keeps s (withBay f s k).1 := by
  unfold withBay
  split
  · exact .refl s
  · exact h _

theorem powerOnBay_keeps (p : UpPort) (b : Bay) (s : State) : Keeps s (powerOnBay p b s).1 := by
  unfold powerOnBay
  split
  case h_1 hx =>
    split
    · exact .refl s
    · refine enqueueFresh_keeps b .priority (fun r => { r with hold := none }) s fun h => ?_
      have state (y : BayState) (hy : BayState.off ≠ y) : s.bays[b].state ≠ y := fun k => hy (hx.symm.trans k)
      exact ⟨{ h.bare (by rw [hx]; rfl) with }, h.noFault (state _ BayState.noConfusion), rfl,
        h.noPrior (state _ BayState.noConfusion), h.noCycle (state _ BayState.noConfusion)⟩
  case h_2 hx =>
    split
    · exact .one b (t := joinQueue b .priority s) (fun _ _ => rfl) id (.joins .priority rfl hx)
    · exact .refl s
  all_goals exact .refl s

/-- A bay without power arrives in OFF (R31). -/
theorem arriveOff_keeps (p : UpPort) (flag : Bool) (b : Bay) (s : State)
    (hx : s.bays[b].state = .off ∨ s.bays[b].state = .cycling) :
    Keeps s (arriveOff p flag b s) := by
  have state (y : BayState) (off : BayState.off ≠ y) (cycling : BayState.cycling ≠ y) : s.bays[b].state ≠ y := fun k =>
    hx.elim (fun h => off (h.symm.trans k)) fun h => cycling (h.symm.trans k)
  refine modBay_keeps b _ s (fun h => ?_) (iff_of_false BayState.noConfusion (state _ BayState.noConfusion BayState.noConfusion))
  exact BayRecord.Bare.consistent { h.bare (by rcases hx with h | h <;> rw [h] <;> rfl) with } rfl
    (congrArg Option.isSome (h.noFault (state _ BayState.noConfusion BayState.noConfusion))) (fun _ => rfl)
    (congrArg Option.isSome (h.noPrior (state _ BayState.noConfusion BayState.noConfusion))) rfl

theorem powerOffBay_keeps (p : UpPort) (flag : Bool) (b : Bay) (s : State) : Keeps s (powerOffBay p flag b s).1 := by
  have unpowered (hp : powered s.bays[b].state = true) : Keeps s (arriveOff p flag b (leavePower b s)) := by
    refine leavePower_modBay_keeps b _ s hp (fun h => ?_) BayState.noConfusion
    obtain ⟨bare, fault, -, prior, -⟩ := h.unpower hp
    exact BayRecord.Bare.consistent { bare with } rfl (congrArg Option.isSome fault) (fun _ => rfl)
      (congrArg Option.isSome prior) rfl
  unfold powerOffBay
  split
  case h_1 hx =>
    have record : (arriveOff p flag b (leaveQueue b s)).bays[b] =
        { s.bays[b] with state := .off, cycleTimer := none, hold := if flag then some p else none } := getElem_upd_same _ _ _
    refine .one b (t := arriveOff p flag b (leaveQueue b s)) (fun c hc => getElem_upd_ne _ _ hc) (fun h => ?_)
      (.leaves rfl (by rw [record]; exact BayState.noConfusion))
    have state (y : BayState) (hy : BayState.queued ≠ y) : s.bays[b].state ≠ y := fun k => hy (hx.symm.trans k)
    rw [record]
    exact BayRecord.Bare.consistent { h.bare (by rw [hx]; rfl) with } rfl
      (congrArg Option.isSome (h.noFault (state _ BayState.noConfusion))) (fun _ => rfl)
      (congrArg Option.isSome (h.noPrior (state _ BayState.noConfusion))) rfl
  case h_2 hx => exact unpowered (by rw [hx]; rfl)
  case h_3 hx => exact unpowered (by rw [hx]; rfl)
  case h_4 hx => exact arriveOff_keeps p flag b s (.inr hx)
  case h_5 hx =>
    split
    · split
      · exact arriveOff_keeps p true b s (.inl hx)
      · split <;> exact .refl s
    · exact .refl s
  all_goals exact .refl s

theorem powerCycleBay_keeps (units : Nat) (b : Bay) (s : State) : Keeps s (powerCycleBay units b s).1 := by
  have cycled (n : Nat) (hp : powered s.bays[b].state = true) : Keeps s (startCycle n b s) := by
    refine leavePower_modBay_keeps b _ s hp (fun h => ?_) BayState.noConfusion
    obtain ⟨bare, fault, hold, prior, -⟩ := h.unpower hp
    exact BayRecord.Bare.consistent { bare with } rfl (congrArg Option.isSome fault)
      (fun k => absurd (show (unpowerRecord s.bays[b]).hold.isSome = true from k) (by rw [hold]; exact Bool.false_ne_true))
      (congrArg Option.isSome prior) rfl
  unfold powerCycleBay
  split
  case h_1 hx => exact cycled _ (by rw [hx]; rfl)
  case h_2 hx => exact cycled _ (by rw [hx]; rfl)
  all_goals exact .refl s

theorem clearFaultBay_keeps (b : Bay) (s : State) : Keeps s (clearFaultBay b s).1 := by
  unfold clearFaultBay
  split
  case h_1 hx =>
    have state (y : BayState) (hy : BayState.faulted ≠ y) : s.bays[b].state ≠ y := fun k => hy (hx.symm.trans k)
    refine modBay_keeps b _ s (fun h => ?_) (iff_of_false BayState.noConfusion (state _ BayState.noConfusion))
    exact BayRecord.Bare.consistent { h.bare (by rw [hx]; rfl) with } rfl rfl (fun k => by cases k)
      (congrArg Option.isSome (h.noPrior (state _ BayState.noConfusion)))
      (congrArg Option.isSome (h.noCycle (state _ BayState.noConfusion)))
  all_goals exact .refl s

theorem setBayPolicy_keeps (p : UpPort) (f : Frame) (s : State) : Keeps s (setBayPolicy p f s).1 := by
  have written (x : PolicySettings) : Keeps s (modBays (inSet (arg f 0)) (writePolicy x) s) :=
    modBays_keeps _ _ s fun _ _ => ⟨fun h => { h with }, Iff.rfl⟩
  unfold setBayPolicy
  dsimp only
  split
  · split
    · exact .refl s
    · split
      · split
        · exact (written _).trans (ask_still _).keeps
        · exact written _
      · exact .refl s
  · exact .refl s

theorem setBayLines_keeps (p : UpPort) (f : Frame) (s : State) : Keeps s (setBayLines p f s).1 := by
  unfold setBayLines
  dsimp only
  split
  · exact .refl s
  · split
    · exact .refl s
    · exact .foldl _ (fun u b => writeLines_keeps _ b u) _ s

theorem lineTestExit_keeps (p : UpPort) (f : Frame) (s : State) : Keeps s (lineTestExit p f s).1 := by
  unfold lineTestExit
  dsimp only
  split
  · exact .refl s
  · exact .foldl _ (fun u b => exitTest_keeps b u) _ s

theorem applyCeiling_still (v : Nat) (s : State) : Still s (applyCeiling v s) := by
  unfold applyCeiling
  dsimp only
  repeat' split
  all_goals exact ⟨rfl, rfl⟩

theorem setStagger_still (p : UpPort) (f : Frame) (s : State) : Still s (setStagger p f s).1 := by
  unfold setStagger
  dsimp only
  split <;> exact ⟨rfl, rfl⟩

theorem loadClass_still (p : UpPort) (f : Frame) (s : State) : Still s (loadClass p f s).1 := by
  unfold loadClass
  split <;> exact ⟨rfl, rfl⟩

theorem setOcFilter_still (p : UpPort) (f : Frame) (s : State) : Still s (setOcFilter p f s).1 := by
  unfold setOcFilter
  dsimp only
  split <;> exact ⟨rfl, rfl⟩

theorem linePreload_still (p : UpPort) (f : Frame) (s : State) : Still s (linePreload p f s).1 := by
  unfold linePreload
  dsimp only
  split
  · split
    · exact .refl s
    · dsimp only
      exact modLines_still _ _ s
  · exact .refl s

theorem readCounters_still (p : UpPort) (f : Frame) (s : State) : Still s (readCounters p f s).1 := by
  unfold readCounters
  dsimp only
  repeat' split
  all_goals exact ⟨rfl, rfl⟩

theorem loadRoute_still (p : UpPort) (f : Frame) (s : State) : Still s (loadRoute p f s).1 := by
  unfold loadRoute
  dsimp only
  repeat' split
  all_goals exact ⟨rfl, rfl⟩

theorem dropRoute_still (p : UpPort) (f : Frame) (s : State) : Still s (dropRoute p f s).1 := by
  unfold dropRoute
  split <;> exact ⟨rfl, rfl⟩

theorem loadSnoopRule_still (p : UpPort) (f : Frame) (s : State) : Still s (loadSnoopRule p f s).1 := by
  unfold loadSnoopRule
  dsimp only
  repeat' split
  all_goals exact ⟨rfl, rfl⟩

theorem setThresholds_still (p : UpPort) (f : Frame) (s : State) : Still s (setThresholds p f s).1 := by
  unfold setThresholds
  dsimp only
  split <;> exact ⟨rfl, rfl⟩

theorem setSensor_still (p : UpPort) (f : Frame) (s : State) : Still s (setSensor p f s).1 := by
  unfold setSensor
  dsimp only
  repeat' split
  all_goals exact ⟨rfl, rfl⟩

theorem loadCurve_still (p : UpPort) (f : Frame) (s : State) : Still s (loadCurve p f s).1 := by
  unfold loadCurve
  dsimp only
  repeat' split
  all_goals exact ⟨rfl, rfl⟩

theorem setZone_still (p : UpPort) (f : Frame) (s : State) : Still s (setZone p f s).1 := by
  unfold setZone
  dsimp only
  split <;> exact ⟨rfl, rfl⟩

theorem setFanMap_still (p : UpPort) (f : Frame) (s : State) : Still s (setFanMap p f s).1 := by
  unfold setFanMap
  dsimp only
  split
  · exact .refl s
  · split
    · exact .refl s
    · have mapped (c : CoolingBlock) : Still s (refreshZoneStates { s with cool := c }) :=
        .of_eq (refreshZoneStates_bays _) (refreshZoneStates_power _)
      dsimp only
      exact (mapped _).trans (askOnRise_still s _)

theorem setFanOverride_still (p : UpPort) (f : Frame) (s : State) : Still s (setFanOverride p f s).1 := by
  unfold setFanOverride
  dsimp only
  repeat' split
  all_goals exact ⟨rfl, rfl⟩

theorem setLight_still (p : UpPort) (f : Frame) (s : State) : Still s (setLight p f s).1 := by
  unfold setLight
  dsimp only
  split
  · exact .refl s
  · split
    · exact .refl s
    · dsimp only
      exact modLights_still _ _ s

theorem loadPattern_still (p : UpPort) (f : Frame) (s : State) : Still s (loadPattern p f s).1 := by
  unfold loadPattern
  dsimp only
  split <;> exact ⟨rfl, rfl⟩

theorem setLightMap_still (p : UpPort) (f : Frame) (s : State) : Still s (setLightMap p f s).1 := by
  unfold setLightMap
  split <;> exact ⟨rfl, rfl⟩

theorem setNightDim_still (p : UpPort) (f : Frame) (s : State) : Still s (setNightDim p f s).1 := by
  unfold setNightDim
  split <;> exact ⟨rfl, rfl⟩

theorem readEvents_still (p : UpPort) (f : Frame) (s : State) : Still s (readEvents p f s).1 := by
  unfold readEvents
  dsimp only
  repeat' split
  all_goals exact ⟨rfl, rfl⟩

theorem subscribe_still (p : UpPort) (f : Frame) (s : State) : Still s (subscribe p f s).1 := by
  unfold subscribe
  split <;> exact ⟨rfl, rfl⟩

theorem setSeating_still (p : UpPort) (f : Frame) (s : State) : Still s (setSeating p f s).1 := ⟨rfl, rfl⟩

theorem lineSample_still (p : UpPort) (f : Frame) (s : State) : Still s (lineSample p f s).1 := by
  unfold lineSample
  dsimp only
  exact modLines_still _ _ s

theorem setCeiling_still (p : UpPort) (f : Frame) (s : State) : Still s (setCeiling p f s).1 := applyCeiling_still _ s

theorem setForwardTimeout_still (p : UpPort) (f : Frame) (s : State) : Still s (setForwardTimeout p f s).1 := ⟨rfl, rfl⟩

theorem setFanTiming_still (p : UpPort) (f : Frame) (s : State) : Still s (setFanTiming p f s).1 := ⟨rfl, rfl⟩

theorem unknownRequest_keeps {s t : State} (e : execUnknownRequest s = .next t) : Keeps s t :=
  serveIf_keeps (fun _ _ u => .refl u) e

theorem readIdent_keeps {s t : State} (e : execReadIdent s = .next t) : Keeps s t := serveRead_keeps e
theorem readBay_keeps {s t : State} (e : execReadBay s = .next t) : Keeps s t := serveRead_keeps e
theorem readBays_keeps {s t : State} (e : execReadBays s = .next t) : Keeps s t := serveRead_keeps e
theorem readPower_keeps {s t : State} (e : execReadPower s = .next t) : Keeps s t := serveRead_keeps e
theorem readRoutes_keeps {s t : State} (e : execReadRoutes s = .next t) : Keeps s t := serveRead_keeps e
theorem readThermal_keeps {s t : State} (e : execReadThermal s = .next t) : Keeps s t := serveRead_keeps e
theorem readCooling_keeps {s t : State} (e : execReadCooling s = .next t) : Keeps s t := serveRead_keeps e

theorem warmRestart_keeps {s t : State} (e : execWarmRestart s = .next t) : Keeps s t := by
  unfold execWarmRestart at e
  split at e
  · exact idle_keeps e
  · next p req _ =>
    have named (u : State) : Still u (requestRestart p req u) :=
      Still.trans (t := { u with mgmt := { u.mgmt with restart := some ⟨p, if priorityRoom p u then .queued else .held⟩ } })
        ⟨rfl, rfl⟩ (offerResponse_still _ _ _)
    exact still_or_idle (Still.trans (t := takeRequest p s) ⟨rfl, rfl⟩ (named _)) _ e

/-! ### Every command -/

theorem exec_keeps {c : Instr} {s t : State} (e : exec c s = .next t) : Keeps s t := by
  cases c with
  | powerOnReset pins => exact fun _ => Host.Outcome.next.inj e ▸ powerOn_consistent _ _ _
  | presenceAsserted b => exact settled_keeps e (setConnector_keeps b _ s)
  | presenceLost b => exact settled_keeps e (setConnector_keeps b _ s)
  | seatingExpired b => exact seatingExpired_keeps b e
  | scanGroupExpiry => exact scanGroupExpiry_keeps e
  | startWindowExpiry b => exact startWindowExpiry_keeps b e
  | cycleTimerExpiry b => exact cycleTimerExpiry_keeps b e
  | staggerExpiry => exact staggerExpiry_keeps e
  | ocConditionAsserted b => exact ocConditionAsserted_keeps b e
  | ocConditionLapsed b => exact settled_keeps e (Still.keeps ⟨rfl, rfl⟩)
  | ocFilterExpiry b => exact ocFilterExpiry_keeps b e
  | protectionTrip b cause => exact protectionTrip_keeps b cause e
  | frameArrival p bytes => exact arrival_keeps e
  | driveHello b bytes => exact arrival_keeps e
  | controllerHello p bytes => exact arrival_keeps e
  | managementIntake p bytes => exact arrival_keeps e
  | transmissionStart p => exact transmissionStart_keeps p e
  | transmissionComplete p => exact transmissionComplete_keeps e
  | forwardTimeout p => exact forwardTimeout_keeps p e
  | linkUp p => exact linkUp_keeps p e
  | linkDown p => exact linkDown_keeps p e
  | updatePeriod channels => exact updatePeriod_keeps channels e
  | tachPulse m r => exact tachPulse_keeps m r e
  | overrideEnd m => exact overrideEnd_keeps m e
  | locateEnd b => exact locateEnd_keeps b e
  | activityWindowEnd b => exact activityWindowEnd_keeps b e
  | patternTurn p => exact patternTurn_keeps p e
  | unknownRequest => exact unknownRequest_keeps e
  | readIdent => exact readIdent_keeps e
  | readBay => exact readBay_keeps e
  | readBays => exact readBays_keeps e
  | powerOn => exact serveCode_keeps (fun p f u => withBay_keeps f u _ fun b => powerOnBay_keeps p b u) e
  | powerOff => exact serveCode_keeps (fun p f u => withBay_keeps f u _ fun b => powerOffBay_keeps p _ b u) e
  | powerCycle => exact serveCode_keeps (fun _ f u => withBay_keeps f u _ fun b => powerCycleBay_keeps _ b u) e
  | clearFault => exact serveCode_keeps (fun _ f u => withBay_keeps f u _ fun b => clearFaultBay_keeps b u) e
  | setBayPolicy => exact serveCode_keeps setBayPolicy_keeps e
  | setBayLines => exact serveCode_keeps setBayLines_keeps e
  | setSeating => exact serveCode_still setSeating_still e
  | lineTestEnter => exact serveCode_keeps lineTestEnter_keeps e
  | lineSample => exact serveCode_still lineSample_still e
  | linePreload => exact serveCode_still linePreload_still e
  | lineTestExit => exact serveCode_keeps lineTestExit_keeps e
  | setCeiling => exact serveCode_still setCeiling_still e
  | setStagger => exact serveCode_still setStagger_still e
  | loadClass => exact serveCode_still loadClass_still e
  | setOcFilter => exact serveCode_still setOcFilter_still e
  | readPower => exact readPower_keeps e
  | setForwardTimeout => exact serveCode_still setForwardTimeout_still e
  | readCounters => exact serveCode_still readCounters_still e
  | loadRoute => exact serveCode_still loadRoute_still e
  | dropRoute => exact serveCode_still dropRoute_still e
  | readRoutes => exact readRoutes_keeps e
  | loadSnoopRule => exact serveCode_still loadSnoopRule_still e
  | setThresholds => exact serveCode_still setThresholds_still e
  | setSensor => exact serveCode_still setSensor_still e
  | readThermal => exact readThermal_keeps e
  | loadCurve => exact serveCode_still loadCurve_still e
  | setZone => exact serveCode_still setZone_still e
  | setFanMap => exact serveCode_still setFanMap_still e
  | setFanOverride => exact serveCode_still setFanOverride_still e
  | setFanTiming => exact serveCode_still setFanTiming_still e
  | readCooling => exact readCooling_keeps e
  | setLight => exact serveCode_still setLight_still e
  | loadPattern => exact serveCode_still loadPattern_still e
  | setLightMap => exact serveCode_still setLightMap_still e
  | setNightDim => exact serveCode_still setNightDim_still e
  | readEvents => exact serveCode_still readEvents_still e
  | subscribe => exact serveCode_still subscribe_still e
  | warmRestart => exact warmRestart_keeps e

/-- Settles O5: every shared operation takes consistent records and a consistent queue to such, so every command does, and a
passing millisecond touches neither. -/
theorem bayRecordsStayConsistent : Obligations.BayRecordsStayConsistent := by
  intro s t h e
  rcases step_cases e with rfl | ⟨c, rest, e⟩
  · exact Still.keeps (s := s) ⟨rfl, rfl⟩ h
  · exact exec_keeps e (Still.keeps (s := s) ⟨rfl, rfl⟩ h)

end Sys2Proof.Machine

namespace Sys2Proof.Machine

/-! ### Steps and servings that bring an attempt (R56) -/

/-- A change that asks for an attempt, and has the reports taken, ends with the attempt. -/
theorem Reported.attempts {u : State} (h : Reported u) (asked : u.power.attemptAsked = false) :
    settle (ask u) = finish (attempt u) := by
  have reported : Reported (ask u) := h.of_kept rfl rfl rfl fun _ => .inl rfl
  have clean : { ask u with power := { (ask u).power with attemptAsked := false } } = u := by
    unfold ask
    rw [← asked]
  have settled := settle_eq_finish_attempt _ reported.hot reported.blocks rfl
  rwa [clean] at settled

theorem latchBay_ask (b : Bay) (k : BayEvent) (u : State) : latchBay b k (ask u) = ask (latchBay b k u) := by
  by_cases h : u.ev.bayLatches[b][k.idx] = true
  · unfold latchBay
    rw [if_pos h, if_pos (show (ask u).ev.bayLatches[b][k.idx] = true from h)]
  · unfold latchBay
    rw [if_neg h, if_neg (show ¬ (ask u).ev.bayLatches[b][k.idx] = true from h)]
    rfl

theorem answered_ask (p : UpPort) (req : Frame) (r : Result) (data : List Word) (u : State) :
    answered p req r data (ask u) = ask (answered p req r data u) := by
  have room : priorityRoom p (ask u) = priorityRoom p u := rfl
  unfold answered offerResponse
  rw [room]
  split <;> rfl

theorem Reported.latch {u : State} (h : Reported u) (b : Bay) (k : BayEvent) : Reported (latchBay b k u) :=
  h.of_kept (latchBay_therm b k u) (latchBay_cool b k u) (by rw [latchBay_power]) fun c => .inl (by rw [latchBay_bays])

theorem Reported.answer {u : State} (h : Reported u) (p : UpPort) (req : Frame) (r : Result) (data : List Word) :
    Reported (answered p req r data u) :=
  h.of_kept (answered_therm _ _ _ _ u) (answered_cool _ _ _ _ u) (by rw [answered_power]) fun b => .inl (by rw [answered_bays])

theorem NoticesReleased.ask {u : State} (h : NoticesReleased u) : NoticesReleased (ask u) := h

/-- A request whose effect asks for an attempt: its answer is offered, the attempt follows, and the step ends. -/
theorem served_attempt {code : BitVec 16} {n : Nat} {p : UpPort} {req : Frame} {s u : State} {r : Result} {data : List Word}
    {body : UpPort → Frame → State → State × Reply} (reported : Reported u) (asked : u.power.attemptAsked = false)
    (notices : NoticesReleased u) (serves : Serves code n p req s)
    (effect : body p req (takeRequest p s) = (ask u, ⟨r, data⟩)) :
    serveCode code n body s = .next (finish (attempt (answered p req r data u))) := by
  rw [serveCode_of_serves body serves, effect, respond_of_not_releasable _ _ _ _ (notices.ask p), answered_ask,
    (reported.answer p req r data).attempts (by rw [answered_power]; exact asked)]

/-! ### The bay that a one-bay request names (section 2.6) -/

theorem withBay_named {req : Frame} {b : Bay} (h : (arg req 0).toNat = b.val) (s : State) (k : Bay → State × Reply) :
    withBay req s k = k b := by
  unfold withBay
  rw [identifier_eq b h]

/-- What the four power requests do, once their bay is named. -/
def powerOnBody (p : UpPort) (f : Frame) (s : State) : State × Reply := withBay f s fun b => powerOnBay p b s

@[inherit_doc powerOnBody]
def powerOffBody (p : UpPort) (f : Frame) (s : State) : State × Reply :=
  withBay f s fun b => powerOffBay p (decide (arg f 1 ≠ 0)) b s

@[inherit_doc powerOnBody]
def powerCycleBody (_p : UpPort) (f : Frame) (s : State) : State × Reply :=
  withBay f s fun b => powerCycleBay ((arg f 1).toNat % 256) b s

@[inherit_doc powerOnBody]
def clearFaultBody (_p : UpPort) (f : Frame) (s : State) : State × Reply := withBay f s fun b => clearFaultBay b s

/-! ### Queue entries -/

/-- The entry of a QUEUED bay stands once, so it is in one class. -/
theorem inNormal_eq {b : Bay} {s : State} {c : QueueClass} (h : QueueConsistent s) (he : ⟨b, c⟩ ∈ s.power.queue) :
    inNormal b s = decide (c = .normal) := by
  unfold inNormal
  rw [Bool.eq_iff_iff, List.any_eq_true]
  simp only [Bool.and_eq_true, decide_eq_true_eq]
  constructor
  · rintro ⟨x, hx, bay, cls⟩
    have same : x = ⟨b, c⟩ := List.inj_on_of_nodup_map h.once hx he bay
    rw [← cls, same]
  · rintro rfl
    exact ⟨⟨b, .normal⟩, he, rfl, rfl⟩

/-- A bay that is not QUEUED has no entry to drop. -/
theorem BaysConsistent.dropEntry_eq {s : State} (h : BaysConsistent s) {b : Bay} (hb : s.bays[b].state ≠ .queued) :
    dropEntry b s.power.queue = s.power.queue := dropEntry_of_not_mem fun k => hb ((h.queue.member b).1 k)

/-! ### SEATING_EXPIRED and CYCLE_TIMER_EXPIRY (R24, R33) -/

/-- One bay between two states outside ONLINE gives no other reading. -/
theorem readingKept_upd {s t : State} (b : Bay) (f : BayRecord → BayRecord) (bays : t.bays = upd s.bays b f)
    (before : s.bays[b].state ≠ .online) (after : (f s.bays[b]).state ≠ .online) (c : Bay) : ReadingKept c s t := by
  unfold ReadingKept
  rw [bays]
  by_cases hc : c = b
  · rw [hc, getElem_upd_same]
    exact .inr ⟨before, after⟩
  · rw [getElem_upd_ne _ _ hc]
    exact .inl rfl

/-- A bay leaves SEATING or CYCLING at the end time of its timer. -/
def timedOut (e : Nat) (b : Bay) (f : BayRecord → BayRecord) (l : LineBlock) (q : List QueueEntry) (s : State) : State :=
  { s with now := max s.now e, line := l, bays := upd s.bays b f, power := { s.power with queue := q } }

theorem timedOut_reported {e : Nat} {b : Bay} {f : BayRecord → BayRecord} {l : LineBlock} {q : List QueueEntry} {s : State}
    (h : Reported s) (before : s.bays[b].state ≠ .online) (after : (f s.bays[b]).state ≠ .online) :
    Reported (timedOut e b f l q s) := h.of_kept rfl rfl rfl (readingKept_upd b f rfl before after)

/-- The line interface once the bay is seated. -/
def seatedLine (b : Bay) (s : State) : LineBlock := { s.line with bays := upd s.line.bays b unitSeated }

theorem seatingExpired_manual {b : Bay} {s : State} {e : Nat} (h : AtRest s) (hx : s.bays[b].state = .seating)
    (he : s.line.bays[b].debounce = some e) (manual : s.bays[b].policy = .manual) :
    exec (.seatingExpired b) s = .next (finish (latchBay b .inserted
      (timedOut e b (fun r => { r with state := .off, hold := none }) (seatedLine b s) s.power.queue s))) := by
  have left : seat b (advance e s) = latchBay b .inserted
      (timedOut e b (fun r => { r with state := .off, hold := none }) (seatedLine b s) s.power.queue s) :=
    seat_manual (by rw [advance_bays]; exact manual)
  have reported := (timedOut_reported (e := e) (f := fun r => { r with state := .off, hold := none }) (l := seatedLine b s)
    (q := s.power.queue) h.reported (by rw [hx]; exact BayState.noConfusion) BayState.noConfusion).latch b .inserted
  change execSeatingExpired b s = _
  unfold execSeatingExpired
  rw [hx, he]
  dsimp only
  rw [left, settle_eq_finish _ reported.hot reported.blocks (by rw [latchBay_power]; exact h.asked)]

theorem seatingExpired_auto {b : Bay} {s : State} {e : Nat} (h : AtRest s) (hb : BaysConsistent s)
    (hx : s.bays[b].state = .seating) (he : s.line.bays[b].debounce = some e) (auto : s.bays[b].policy = .auto) :
    exec (.seatingExpired b) s = .next (finish (attempt (latchBay b .inserted
      (timedOut e b (fun r => { r with state := .queued, retriesLeft := r.retriesSetting }) (seatedLine b s)
        (s.power.queue ++ [⟨b, .normal⟩]) s)))) := by
  have joined : enqueueFresh b .normal (modLine b unitSeated (advance e s)) =
      ask (timedOut e b (fun r => { r with state := .queued, retriesLeft := r.retriesSetting }) (seatedLine b s)
        (s.power.queue ++ [⟨b, .normal⟩]) s) := by
    have queue : joinClass ⟨b, .normal⟩ (dropEntry b s.power.queue) = s.power.queue ++ [⟨b, .normal⟩] := by
      rw [hb.dropEntry_eq (by rw [hx]; exact BayState.noConfusion)]
      rfl
    rw [← queue]
    rfl
  have reported := timedOut_reported (e := e) (f := fun r => { r with state := .queued, retriesLeft := r.retriesSetting })
    (l := seatedLine b s) (q := s.power.queue ++ [⟨b, .normal⟩]) h.reported (by rw [hx]; exact BayState.noConfusion)
    BayState.noConfusion
  change execSeatingExpired b s = _
  unfold execSeatingExpired
  rw [hx, he]
  dsimp only
  rw [seat_auto (by rw [advance_bays]; exact auto), joined, latchBay_ask,
    (reported.latch b .inserted).attempts (by rw [latchBay_power]; exact h.asked)]

theorem cycleTimerExpiry_attempts {b : Bay} {s : State} {e : Nat} (h : AtRest s) (hb : BaysConsistent s)
    (hx : s.bays[b].state = .cycling) (he : s.bays[b].cycleTimer = some e) :
    exec (.cycleTimerExpiry b) s = .next (finish (attempt (timedOut e b
      (fun r => { r with state := .queued, retriesLeft := r.retriesSetting, cycleTimer := none }) s.line
      (joinClass ⟨b, .priority⟩ s.power.queue) s))) := by
  have joined : enqueueFresh b .priority (modBay b (fun r => { r with cycleTimer := none }) (advance e s)) =
      ask (timedOut e b (fun r => { r with state := .queued, retriesLeft := r.retriesSetting, cycleTimer := none }) s.line
        (joinClass ⟨b, .priority⟩ s.power.queue) s) := by
    have records : upd (upd s.bays b fun r => { r with cycleTimer := none }) b
        (fun r => { r with state := .queued, retriesLeft := r.retriesSetting }) =
        upd s.bays b (fun r => { r with state := .queued, retriesLeft := r.retriesSetting, cycleTimer := none }) := upd_upd ..
    unfold timedOut
    rw [← hb.dropEntry_eq (b := b) (by rw [hx]; exact BayState.noConfusion), ← records]
    rfl
  have reported := timedOut_reported (e := e)
    (f := fun r => { r with state := .queued, retriesLeft := r.retriesSetting, cycleTimer := none }) (l := s.line)
    (q := joinClass ⟨b, .priority⟩ s.power.queue) h.reported (by rw [hx]; exact BayState.noConfusion) BayState.noConfusion
  change execCycleTimerExpiry b s = _
  unfold execCycleTimerExpiry
  rw [hx, he]
  dsimp only
  rw [joined, reported.attempts h.asked]

/-- Settles O23: the bay is seated, or queued again, and an attempt follows where it joins the queue. -/
theorem seatingAndCycleExpiriesQueueTheBay : Obligations.SeatingAndCycleExpiriesQueueTheBay :=
  ⟨fun _ _ _ h hb hx he => ⟨seatingExpired_manual h hx he, seatingExpired_auto h hb hx he⟩,
    fun _ _ _ h hb hx he => cycleTimerExpiry_attempts h hb hx he⟩

/-! ### POWER_ON (R30) -/

/-- The state with one bay's record changed and another spin-up queue. -/
def requeued (b : Bay) (f : BayRecord → BayRecord) (q : List QueueEntry) (s : State) : State :=
  { s with bays := upd s.bays b f, power := { s.power with queue := q } }

theorem requeued_reported {b : Bay} {f : BayRecord → BayRecord} {s : State} (h : Reported s) (q : List QueueEntry)
    (before : s.bays[b].state ≠ .online) (after : (f s.bays[b]).state ≠ .online) : Reported (requeued b f q s) :=
  h.of_kept rfl rfl rfl (readingKept_upd b f rfl before after)

theorem AtRest.taken {s : State} (h : AtRest s) (p : UpPort) : Reported (takeRequest p s) :=
  h.reported.of_kept rfl rfl rfl fun _ => .inl rfl

theorem AtRest.taken_notices {s : State} (h : AtRest s) (p : UpPort) : NoticesReleased (takeRequest p s) :=
  noticesReleased_congr h.notices rfl rfl rfl rfl

/-- A request that changes the record of a bay outside ONLINE and the queue, and asks for an attempt. -/
theorem served_requeued {code : BitVec 16} {n : Nat} {p : UpPort} {req : Frame} {s : State} {b : Bay} {r : Result}
    {f : BayRecord → BayRecord} {q : List QueueEntry} {body : UpPort → Frame → State → State × Reply} (h : AtRest s)
    (serves : Serves code n p req s) (effect : body p req (takeRequest p s) = (ask (requeued b f q (takeRequest p s)), ⟨r, []⟩))
    (before : s.bays[b].state ≠ .online) (after : (f s.bays[b]).state ≠ .online) :
    serveCode code n body s = .next (finish (attempt (answered p req r [] (requeued b f q (takeRequest p s))))) :=
  have reported : Reported (requeued b f q (takeRequest p s)) := requeued_reported (h.taken p) q before after
  have notices : NoticesReleased (requeued b f q (takeRequest p s)) := noticesReleased_congr (h.taken_notices p) rfl rfl rfl rfl
  have asked : (requeued b f q (takeRequest p s)).power.attemptAsked = false := h.asked
  served_attempt reported asked notices serves effect

theorem powerOnBay_off {p : UpPort} {b : Bay} {s : State} (hx : s.bays[b].state = .off)
    (free : s.bays[b].hold ≠ some (otherUp p)) : powerOnBay p b s =
      (ask (requeued b (fun r => { r with state := .queued, hold := none, retriesLeft := r.retriesSetting })
        (joinClass ⟨b, .priority⟩ (dropEntry b s.power.queue)) s), ⟨.ok, []⟩) := by
  have records : upd (upd s.bays b fun r => { r with hold := none }) b
      (fun r => { r with state := .queued, retriesLeft := r.retriesSetting }) =
      upd s.bays b (fun r => { r with state := .queued, hold := none, retriesLeft := r.retriesSetting }) := upd_upd ..
  unfold powerOnBay requeued
  rw [hx, ← records]
  exact if_neg free

theorem powerOnBay_queued {p : UpPort} {b : Bay} {s : State} (hx : s.bays[b].state = .queued) : powerOnBay p b s =
    if inNormal b s then answer .ok (joinQueue b .priority s) else answer .already s := by
  unfold powerOnBay
  rw [hx]

/-- A request that changes nothing is answered. -/
theorem unchanged_served {code : BitVec 16} {n : Nat} {p : UpPort} {req : Frame} {s : State} {r : Result} {data : List Word}
    {body : UpPort → Frame → State → State × Reply} (h : AtRest s) (serves : Serves code n p req s)
    (effect : body p req (takeRequest p s) = (takeRequest p s, ⟨r, data⟩)) :
    serveCode code n body s = .next (answered p req r data (takeRequest p s)) :=
  served_edges (l := s.line) h serves effect fun _ => rfl

/-- Settles O44: an OFF bay and a bay of NORMAL move to the tail of PRIORITY, and an attempt follows; an entry of PRIORITY
stays. -/
theorem powerOnQueuesWithPriority : Obligations.PowerOnQueuesWithPriority := by
  intro p req b s h hb serves named joined
  have body (u : State) : (withBay req u fun b => powerOnBay p b u) = powerOnBay p b u := withBay_named named u _
  have queue : (takeRequest p s).power.queue = s.power.queue := rfl
  refine ⟨fun hx free => ?_, fun hx he => ?_, fun hx he => ?_⟩
  · have effect := (body (takeRequest p s)).trans (powerOnBay_off (s := takeRequest p s) hx free)
    rw [queue, hb.dropEntry_eq (by rw [hx]; exact BayState.noConfusion)] at effect
    exact served_requeued (body := powerOnBody) h serves effect
      (by rw [hx]; exact BayState.noConfusion) BayState.noConfusion
  · have normal : inNormal b (takeRequest p s) = true := inNormal_eq hb.queue he
    have effect := (body (takeRequest p s)).trans (powerOnBay_queued (s := takeRequest p s) hx)
    rw [if_pos normal] at effect
    have same : upd s.bays b id = s.bays := upd_eq_self _ _ _ rfl
    have moved := served_requeued (b := b) (f := id) (q := joined (dropEntry b s.power.queue)) (r := .ok)
      (body := powerOnBody) h serves (effect.trans ?_)
      (by rw [hx]; exact BayState.noConfusion) (by rw [id, hx]; exact BayState.noConfusion)
    · unfold requeued at moved
      rw [takeRequest_bays, same] at moved
      exact moved
    · unfold requeued
      rw [takeRequest_bays, same]
      rfl
  · have priority : inNormal b (takeRequest p s) = false := inNormal_eq hb.queue he
    have effect := (body (takeRequest p s)).trans (powerOnBay_queued (s := takeRequest p s) hx)
    rw [if_neg (by rw [priority]; exact Bool.false_ne_true)] at effect
    exact unchanged_served (body := powerOnBody) h serves effect

/-! ### CLEAR_FAULT (R34) -/

theorem clearFaultBay_faulted {b : Bay} {s : State} (hx : s.bays[b].state = .faulted) : clearFaultBay b s =
    (modBay b (fun r => { r with state := .off, fault := none, hold := none }) s, ⟨.ok, []⟩) := by
  unfold clearFaultBay
  rw [hx]
  rfl

theorem clearFaultBay_empty {b : Bay} {s : State} (hx : s.bays[b].state = .empty) :
    clearFaultBay b s = answer .noDrive s := by
  unfold clearFaultBay
  rw [hx]

theorem clearFaultBay_refused {b : Bay} {s : State} (faulted : s.bays[b].state ≠ .faulted)
    (empty : s.bays[b].state ≠ .empty) : clearFaultBay b s = answer .refusedState s := by
  unfold clearFaultBay
  split
  · next hx => exact absurd hx faulted
  · next hx => exact absurd hx empty
  · rfl

/-- Settles O46: only a FAULTED bay moves, and it gives no reading before or after. -/
theorem clearFaultEndsAFault : Obligations.ClearFaultEndsAFault := by
  intro p req b s h serves named
  have body (u : State) : (withBay req u fun b => clearFaultBay b u) = clearFaultBay b u := withBay_named named u _
  refine ⟨fun hx => ?_, fun hx => ?_, fun faulted empty => ?_⟩
  · have effect := (body (takeRequest p s)).trans (clearFaultBay_faulted (s := takeRequest p s) hx)
    have waits : Waits (modBay b (fun r => { r with state := .off, fault := none, hold := none }) (takeRequest p s)) :=
      h.waits serves.next rfl rfl rfl rfl rfl rfl rfl
        (readingKept_upd b (fun r => { r with state := .off, fault := none, hold := none }) rfl
          (by rw [hx]; exact BayState.noConfusion) BayState.noConfusion)
    have served := waits.served (body := clearFaultBody) serves effect
    exact served
  · exact unchanged_served (body := clearFaultBody) h serves
      ((body _).trans (clearFaultBay_empty (s := takeRequest p s) hx))
  · exact unchanged_served (body := clearFaultBody) h serves
      ((body _).trans (clearFaultBay_refused (s := takeRequest p s) faulted empty))

end Sys2Proof.Machine

namespace Sys2Proof.Machine

/-! ### Changes that leave a state at rest -/

/-- The reports stand where no bay changes its state or its active zone. -/
theorem Reported.of_zones {s u : State} (h : Reported s) (therm : u.therm = s.therm) (cool : u.cool = s.cool)
    (blocked : u.power.blocked = s.power.blocked) (state : ∀ b : Bay, u.bays[b].state = s.bays[b].state)
    (zone : ∀ b : Bay, u.bays[b].activeZone = s.bays[b].activeZone) : Reported u where
  hot := by
    have hot := (refreshHot_eq_self_iff s).1 h.hot
    have same (z : Zone) (b : Bay) : hotIn u z b = hotIn s z b := by
      unfold hotIn fresh
      rw [state, zone, therm]
    rw [refreshHot_eq_self_iff, therm, ← hot]
    exact congrArg tab (funext fun z => congrArg allBays.any (funext fun b => same z b))
  blocks := (blocksNow_congr therm cool).trans (h.blocks.trans blocked.symm)

/-- A change of nothing that reports, lights, pins, notices and ALERT turn on. -/
structure Unseen (s u : State) : Prop where
  now : u.now = s.now
  line : u.line = s.line
  light : u.light = s.light
  therm : u.therm = s.therm
  cool : u.cool = s.cool
  ev : u.ev = s.ev
  route : u.route = s.route
  up : u.fwd.up = s.fwd.up
  held : u.mgmt.held = s.mgmt.held
  blocked : u.power.blocked = s.power.blocked
  state : ∀ b : Bay, u.bays[b].state = s.bays[b].state
  zone : ∀ b : Bay, u.bays[b].activeZone = s.bays[b].activeZone

section
variable {s u : State} (h : Unseen s u)
include h

theorem Unseen.reported (k : Reported s) : Reported u := k.of_zones h.therm h.cool h.blocked h.state h.zone

theorem Unseen.notices (k : NoticesReleased s) : NoticesReleased u := noticesReleased_congr k h.ev h.up h.route h.held

theorem Unseen.alert (k : driveAlert s = s) : driveAlert u = u := by
  rw [driveAlert_eq_self_iff] at k ⊢
  rw [h.ev, ← k]
  exact alertCondition_of_faults h.cool fun b => by rw [h.state]

theorem Unseen.pins (k : drivePins s = s) : drivePins u = u := by
  obtain ⟨lines, patterns⟩ := (drivePins_eq_self_iff s).1 k
  refine (drivePins_eq_self_iff u).2 ⟨fun b => ?_, fun p => by rw [h.light, h.now]; exact patterns p⟩
  refine driven_congr h.now h.light ?_ ?_ ?_ (by rw [h.line]) (lines b)
  · unfold greenShown; rw [h.state, h.light]
  · unfold amberShown; rw [h.state, h.light]
  · unfold enabled; rw [h.state]

theorem Unseen.atRest (k : AtRest s) (asked : u.power.attemptAsked = false) : AtRest u where
  hot := (h.reported k.reported).hot
  blocks := (h.reported k.reported).blocks
  asked := asked
  notices := h.notices k.notices
  alert := h.alert k.alert
  pins := h.pins k.pins

end

/-- A request that leaves the part at rest is answered, and nothing else follows. -/
theorem served_atRest {code : BitVec 16} {n : Nat} {p : UpPort} {req : Frame} {s u : State} {r : Result} {data : List Word}
    {body : UpPort → Frame → State → State × Reply} (rest : AtRest u) (free : u.mgmt.held = none)
    (serves : Serves code n p req s) (effect : body p req (takeRequest p s) = (u, ⟨r, data⟩)) :
    serveCode code n body s = .next (answered p req r data u) := by
  have waits : Waits u := ⟨rest.reported, rest.asked, rest.notices, free⟩
  rw [waits.served serves effect, answered_driveAlert rest.alert, answered_drivePins, rest.pins]

/-- A request whose effect is unseen, and asks for an attempt or not. -/
theorem served_unseen {code : BitVec 16} {n : Nat} {p : UpPort} {req : Frame} {s u : State} {r : Result} {data : List Word}
    {body : UpPort → Frame → State → State × Reply} {asks : Prop} [Decidable asks] (h : AtRest s) (unseen : Unseen s u)
    (asked : u.power.attemptAsked = false) (serves : Serves code n p req s)
    (effect : body p req (takeRequest p s) = (if asks then ask u else u, ⟨r, data⟩)) :
    serveCode code n body s =
      .next (if asks then finish (attempt (answered p req r data u)) else answered p req r data u) := by
  have rest : AtRest u := unseen.atRest h asked
  by_cases ha : asks
  · rw [if_pos ha] at effect ⊢
    exact served_attempt rest.reported asked rest.notices serves effect
  · rw [if_neg ha] at effect ⊢
    exact served_atRest rest (unseen.held.trans (nextRequest_free serves.next)) serves effect

/-! ### Replies in the words of section 12.4 -/

theorem clamp_eq (lo hi n : Nat) (h : lo ≤ hi) : clamp lo hi n = min hi (max lo n) := by
  unfold clamp
  split
  · omega
  · split <;> omega

theorem okOr_eq (x : Bool) (q : Prop) [Decidable q] (h : x = true ↔ ¬q) : okOr x = if q then .ok else .okClamped := by
  unfold okOr
  by_cases hq : q
  · rw [if_neg (fun k => h.1 k hq), if_pos hq]
  · rw [if_pos (h.2 hq), if_neg hq]

/-! ### SET_BAY_POLICY (R40) -/

/-- The state with other bay records. -/
def withBays (r : Vector BayRecord 16) (s : State) : State := { s with bays := r }

theorem withBays_unseen {p : UpPort} {s : State} (r : Vector BayRecord 16)
    (h : ∀ b : Bay, r[b].state = s.bays[b].state ∧ r[b].activeZone = s.bays[b].activeZone) :
    Unseen s (withBays r (takeRequest p s)) :=
  ⟨rfl, rfl, rfl, rfl, rfl, rfl, rfl, rfl, rfl, rfl, fun b => (h b).1, fun b => (h b).2⟩

/-- The records with the six settings written for the bays of a set. -/
def policyWritten (bset : Word) (x : PolicySettings) (r : Vector BayRecord 16) : Vector BayRecord 16 :=
  tab (fun b => if inSet bset b then writePolicy x r[b] else r[b])

theorem setBayPolicy_eq {p : UpPort} {req : Frame} {manual oc ot : Bool} {cls : ClassNo} {zone : Zone} (s : State)
    (h1 : twoValued (arg req 1) = some manual) (h5 : twoValued (arg req 5) = some oc)
    (h6 : twoValued (arg req 6) = some ot) (he : emptySet (arg req 0) = false)
    (hc : (arg req 2).toNat = cls.val) (hz : (arg req 3).toNat = zone.val) : setBayPolicy p req s =
      (if ∃ b : Bay, inSet (arg req 0) b = true ∧ s.bays[b].state = .queued then
          ask (withBays (policyWritten (arg req 0) ⟨if manual then .manual else .auto, cls, zone,
            min (arg req 4).toNat 3, oc, ot⟩ s.bays) s)
        else withBays (policyWritten (arg req 0) ⟨if manual then .manual else .auto, cls, zone,
            min (arg req 4).toNat 3, oc, ot⟩ s.bays) s,
        ⟨if 3 < (arg req 4).toNat then .okClamped else .ok, []⟩) := by
  have queued : (allBays.any fun b => inSet (arg req 0) b && decide (s.bays[b].state = .queued)) = true ↔
      ∃ b : Bay, inSet (arg req 0) b = true ∧ s.bays[b].state = .queued := by
    rw [any_allBays_iff]
    simp only [Bool.and_eq_true, decide_eq_true_eq]
  unfold setBayPolicy
  rw [h1, h5, h6]
  dsimp only
  rw [if_neg (by rw [he]; exact Bool.false_ne_true), identifier_eq cls hc, identifier_eq zone hz]
  dsimp only
  unfold okOr
  rw [if_congr queued rfl rfl, if_congr (decide_eq_true_iff (p := 3 < (arg req 4).toNat)) rfl rfl]
  rfl

theorem setBayPolicy_outOfRange {p : UpPort} {req : Frame} {manual oc ot : Bool} (s : State)
    (h1 : twoValued (arg req 1) = some manual) (h5 : twoValued (arg req 5) = some oc)
    (h6 : twoValued (arg req 6) = some ot) (he : emptySet (arg req 0) = false)
    (out : 8 ≤ (arg req 2).toNat ∨ 4 ≤ (arg req 3).toNat) : setBayPolicy p req s = (s, outOfRange) := by
  unfold setBayPolicy
  rw [h1, h5, h6]
  dsimp only
  rw [if_neg (by rw [he]; exact Bool.false_ne_true)]
  split
  · next cls zone hc hz =>
    rcases out with out | out
    · rw [identifier_none out] at hc; cases hc
    · rw [identifier_none out] at hz; cases hz
  · rfl

theorem policyWritten_reads (bset : Word) (x : PolicySettings) (r : Vector BayRecord 16) (b : Bay) :
    (policyWritten bset x r)[b].state = r[b].state ∧ (policyWritten bset x r)[b].activeZone = r[b].activeZone := by
  unfold policyWritten
  rw [getElem_tab]
  split <;> exact ⟨rfl, rfl⟩

theorem setBayPolicy_answers {p : UpPort} {req : Frame} {manual oc ot : Bool} {s : State} {cls : ClassNo} {zone : Zone}
    (h : AtRest s) (serves : Serves 0x0114 7 p req s) (h1 : twoValued (arg req 1) = some manual)
    (h5 : twoValued (arg req 5) = some oc) (h6 : twoValued (arg req 6) = some ot) (he : emptySet (arg req 0) = false)
    (hc : (arg req 2).toNat = cls.val) (hz : (arg req 3).toNat = zone.val) (done : State)
    (hd : done = answered p req (if 3 < (arg req 4).toNat then .okClamped else .ok) []
      (withBays (policyWritten (arg req 0) ⟨if manual then .manual else .auto, cls, zone,
        min (arg req 4).toNat 3, oc, ot⟩ s.bays) (takeRequest p s))) :
    exec .setBayPolicy s = .next
      (if ∃ b : Bay, inSet (arg req 0) b = true ∧ s.bays[b].state = .queued then finish (attempt done) else done) := by
  have unseen : Unseen s (withBays (policyWritten (arg req 0) ⟨if manual then .manual else .auto, cls, zone,
      min (arg req 4).toNat 3, oc, ot⟩ s.bays) (takeRequest p s)) :=
    withBays_unseen _ (policyWritten_reads _ _ s.bays)
  have effect := setBayPolicy_eq (p := p) (takeRequest p s) h1 h5 h6 he hc hz
  have served := served_unseen h unseen h.asked serves effect
  rw [hd]
  exact served

/-! ### SET_STAGGER, LOAD_CLASS, SET_OC_FILTER (R44, R54, R60) -/

/-- The state with another power block. -/
def withPower (w : PowerBlock) (s : State) : State := { s with power := w }

theorem withPower_unseen {p : UpPort} {s : State} (w : PowerBlock) (h : w.blocked = s.power.blocked) :
    Unseen s (withPower w (takeRequest p s)) := ⟨rfl, rfl, rfl, rfl, rfl, rfl, rfl, rfl, rfl, h, fun _ => rfl, fun _ => rfl⟩

theorem setStagger_eq {p : UpPort} {req : Frame} {n k : Nat} (s : State) (hn : n = min (arg req 0).toNat 150)
    (hk : k = min 8 (max 1 (arg req 1).toNat)) : setStagger p req s =
      (if max 1 (s.power.limit - weakZones s) < max 1 (k - weakZones s) then
          ask (withPower { s.power with staggerSetting := n, limit := k } s)
        else withPower { s.power with staggerSetting := n, limit := k } s,
        ⟨if n = (arg req 0).toNat ∧ k = (arg req 1).toNat then .ok else .okClamped,
          [wNat n, wNat k, wNat (max 1 (k - weakZones s))]⟩) := by
  unfold setStagger
  dsimp only
  rw [clamp_eq 1 8 _ (by decide), ← hk, ← hn, okOr_eq _ (n = (arg req 0).toNat ∧ k = (arg req 1).toNat)]
  · rfl
  · rw [Bool.or_eq_true, decide_eq_true_iff, decide_eq_true_iff, not_and_or]

theorem loadClass_eq {p : UpPort} {req : Frame} {c : ClassNo} {a r w : Nat} (s : State) (hc : (arg req 0).toNat = c.val)
    (ha : a = min (arg req 1).toNat 1000) (hr : r = min (arg req 2).toNat 1000)
    (hw : w = min 200 (max 10 (arg req 3).toNat)) : loadClass p req s =
      (ask (withPower { s.power with classes := put s.power.classes c ⟨a, r, w⟩ } s),
        ⟨if a = (arg req 1).toNat ∧ r = (arg req 2).toNat ∧ w = (arg req 3).toNat then .ok else .okClamped,
          [wNat c.val, wNat a, wNat r, wNat w]⟩) := by
  unfold loadClass
  rw [identifier_eq c hc]
  dsimp only
  rw [clamp_eq 10 200 _ (by decide), ← hw, ← ha, ← hr,
    okOr_eq _ (a = (arg req 1).toNat ∧ r = (arg req 2).toNat ∧ w = (arg req 3).toNat)]
  · rfl
  · rw [decide_eq_true_iff, ne_eq, ClassRecord.mk.injEq]

/-- The filter settings with a value written for the bays of a set. -/
def filterWritten (bset : Word) (v : Nat) (o : Vector Nat 16) : Vector Nat 16 :=
  tab fun b => if inSet bset b then v else o[b]

theorem setOcFilter_eq {p : UpPort} {req : Frame} (s : State) (he : emptySet (arg req 0) = false)
    (hv : (arg req 1).toNat ∈ ocFilterValues) : setOcFilter p req s =
      (withPower { s.power with ocSetting := filterWritten (arg req 0) (arg req 1).toNat s.power.ocSetting } s, ⟨.ok, []⟩) := by
  unfold setOcFilter
  dsimp only
  rw [if_neg (by rw [he, List.contains_iff_mem.2 hv]; exact Bool.false_ne_true)]
  rfl

theorem setStagger_answers {p : UpPort} {req : Frame} {s : State} {n k : Nat} (h : AtRest s)
    (serves : Serves 0x0131 2 p req s) (hn : n = min (arg req 0).toNat 150)
    (hk : k = min 8 (max 1 (arg req 1).toNat)) (done : State)
    (hd : done = answered p req (if n = (arg req 0).toNat ∧ k = (arg req 1).toNat then .ok else .okClamped)
      [wNat n, wNat k, wNat (max 1 (k - weakZones s))]
      (withPower { s.power with staggerSetting := n, limit := k } (takeRequest p s))) :
    exec .setStagger s = .next
      (if max 1 (s.power.limit - weakZones s) < max 1 (k - weakZones s) then finish (attempt done) else done) := by
  rw [hd]
  exact served_unseen h (withPower_unseen _ rfl) h.asked serves (setStagger_eq (takeRequest p s) hn hk)

theorem loadClass_answers {p : UpPort} {req : Frame} {s : State} {c : ClassNo} {a r w : Nat} (h : AtRest s)
    (serves : Serves 0x0132 4 p req s) (hc : (arg req 0).toNat = c.val) (ha : a = min (arg req 1).toNat 1000)
    (hr : r = min (arg req 2).toNat 1000) (hw : w = min 200 (max 10 (arg req 3).toNat)) :
    exec .loadClass s = .next (finish (attempt (answered p req
      (if a = (arg req 1).toNat ∧ r = (arg req 2).toNat ∧ w = (arg req 3).toNat then .ok else .okClamped)
      [wNat c.val, wNat a, wNat r, wNat w]
      (withPower { s.power with classes := put s.power.classes c ⟨a, r, w⟩ } (takeRequest p s))))) := by
  have unseen : Unseen s (withPower { s.power with classes := put s.power.classes c ⟨a, r, w⟩ } (takeRequest p s)) :=
    withPower_unseen _ rfl
  exact served_attempt (unseen.reported h.reported) h.asked (unseen.notices h.notices) serves
    (loadClass_eq (takeRequest p s) hc ha hr hw)

theorem setOcFilter_answers {p : UpPort} {req : Frame} {s : State} (h : AtRest s) (serves : Serves 0x0133 2 p req s)
    (he : emptySet (arg req 0) = false) (hv : (arg req 1).toNat ∈ ocFilterValues) :
    exec .setOcFilter s = .next (answered p req .ok []
      (withPower { s.power with ocSetting := filterWritten (arg req 0) (arg req 1).toNat s.power.ocSetting }
        (takeRequest p s))) := by
  have unseen : Unseen s (withPower { s.power with ocSetting := filterWritten (arg req 0) (arg req 1).toNat s.power.ocSetting }
      (takeRequest p s)) := withPower_unseen _ rfl
  have effect := setOcFilter_eq (p := p) (takeRequest p s) he hv
  rw [takeRequest_power] at effect
  have rest := unseen.atRest h (by unfold withPower; dsimp only; exact h.asked)
  exact served_atRest (body := setOcFilter) rest (unseen.held.trans (nextRequest_free serves.next)) serves effect

/-- Settles O47: the settings are written where nothing that the end of a step looks at stands, and an attempt follows where
the effect asks for one. -/
theorem policyAndAdmissionSettingsAreStored : Obligations.PolicyAndAdmissionSettingsAreStored := by
  refine ⟨fun p req manual oc ot s h serves h1 h5 h6 he => ⟨fun cls zone hc hz => ?_, fun out => ?_⟩,
    fun p req s h => ⟨fun serves => ?_, fun serves c hc => ?_, fun serves he hv => ?_⟩⟩
  · exact setBayPolicy_answers h serves h1 h5 h6 he hc hz _ rfl
  · exact unchanged_served h serves (setBayPolicy_outOfRange (takeRequest p s) h1 h5 h6 he out)
  · exact setStagger_answers h serves rfl rfl _ rfl
  · exact loadClass_answers h serves hc rfl rfl rfl
  · exact setOcFilter_answers h serves he hv

end Sys2Proof.Machine

namespace Sys2Proof.Machine

/-! ### Requests turned away for their envelope (R168) -/

/-- A serving that changes nothing but the request's queue answers, and nothing else follows. -/
theorem serveIf_unchanged {accepts : Frame → Bool} {p : UpPort} {req : Frame} {s : State} {r : Result} {data : List Word}
    {body : UpPort → Frame → State → State × Reply} (h : AtRest s) (next : nextRequest s = some (p, req))
    (ok : accepts req = true) (effect : body p req (takeRequest p s) = (takeRequest p s, ⟨r, data⟩)) :
    serveIf accepts body s = .next (answered p req r data (takeRequest p s)) := by
  have unseen : Unseen s (takeRequest p s) :=
    ⟨rfl, rfl, rfl, rfl, rfl, rfl, rfl, rfl, rfl, rfl, fun _ => rfl, fun _ => rfl⟩
  have rest : AtRest (takeRequest p s) := unseen.atRest h h.asked
  have waits : Waits (takeRequest p s) := ⟨rest.reported, rest.asked, rest.notices, unseen.held.trans (nextRequest_free next)⟩
  unfold serveIf
  rw [next]
  dsimp only
  rw [if_pos ok, effect, respond_of_not_releasable _ _ _ _ (rest.notices p), waits.answered, answered_driveAlert rest.alert,
    answered_drivePins, rest.pins]

theorem short_served {code : BitVec 16} {n : Nat} {p : UpPort} {req : Frame} {s : State}
    {body : UpPort → Frame → State → State × Reply} (h : AtRest s) (next : nextRequest s = some (p, req))
    (hc : requestCode req = code) (short : req.words < 1 + n) :
    serveCode code n body s = .next (answered p req .badRequest [] (takeRequest p s)) := by
  have effect : (if req.words < 1 + n then (takeRequest p s, badRequest) else body p req (takeRequest p s)) =
      (takeRequest p s, ⟨.badRequest, []⟩) := if_pos short
  exact serveIf_unchanged (accepts := fun f => decide (requestCode f = code))
    (body := fun p f s => if f.words < 1 + n then (s, badRequest) else body p f s) h next (decide_eq_true hc) effect

/-- Every row serves the requests of its code; WARM_RESTART, which requires no argument word, does so in its own way. -/
theorem requestRows_serve : ∀ x ∈ requestRows, (x.2.1 ≠ 0 ∧ x.2.2 = 0) ∨
    ∃ body, ∀ s, exec x.1 s = serveCode x.2.1 x.2.2 body s := by
  simp only [requestRows, List.forall_mem_cons, List.not_mem_nil, false_imp_iff, implies_true, and_true]
  exact ⟨.inr ⟨fun p _ s => (s, ⟨.ok, identWords p s⟩), fun _ => rfl⟩,
    .inr ⟨fun p f s => (s, bayReply p f s), fun _ => rfl⟩,
    .inr ⟨fun _ _ s => (s, ⟨.ok, allBays.flatMap (bayShortWords s) ++ [wNat s.line.debounceSetting, wBool s.light.dim]⟩),
      fun _ => rfl⟩,
    .inr ⟨powerOnBody, fun _ => rfl⟩, .inr ⟨powerOffBody, fun _ => rfl⟩, .inr ⟨powerCycleBody, fun _ => rfl⟩,
    .inr ⟨clearFaultBody, fun _ => rfl⟩, .inr ⟨setBayPolicy, fun _ => rfl⟩, .inr ⟨setBayLines, fun _ => rfl⟩,
    .inr ⟨setSeating, fun _ => rfl⟩, .inr ⟨lineTestEnter, fun _ => rfl⟩, .inr ⟨lineSample, fun _ => rfl⟩,
    .inr ⟨linePreload, fun _ => rfl⟩, .inr ⟨lineTestExit, fun _ => rfl⟩, .inr ⟨setCeiling, fun _ => rfl⟩,
    .inr ⟨setStagger, fun _ => rfl⟩, .inr ⟨loadClass, fun _ => rfl⟩, .inr ⟨setOcFilter, fun _ => rfl⟩,
    .inr ⟨fun _ _ s => (s, ⟨.ok, powerWords s⟩), fun _ => rfl⟩, .inr ⟨setForwardTimeout, fun _ => rfl⟩,
    .inr ⟨readCounters, fun _ => rfl⟩, .inr ⟨loadRoute, fun _ => rfl⟩, .inr ⟨dropRoute, fun _ => rfl⟩,
    .inr ⟨fun _ _ s => (s, ⟨.ok, routeWords s⟩), fun _ => rfl⟩, .inr ⟨loadSnoopRule, fun _ => rfl⟩,
    .inr ⟨setThresholds, fun _ => rfl⟩, .inr ⟨setSensor, fun _ => rfl⟩,
    .inr ⟨fun _ _ s => (s, ⟨.ok, thermalWords s⟩), fun _ => rfl⟩, .inr ⟨loadCurve, fun _ => rfl⟩,
    .inr ⟨setZone, fun _ => rfl⟩, .inr ⟨setFanMap, fun _ => rfl⟩, .inr ⟨setFanOverride, fun _ => rfl⟩,
    .inr ⟨setFanTiming, fun _ => rfl⟩, .inr ⟨fun _ _ s => (s, ⟨.ok, coolingWords s⟩), fun _ => rfl⟩,
    .inr ⟨setLight, fun _ => rfl⟩, .inr ⟨loadPattern, fun _ => rfl⟩, .inr ⟨setLightMap, fun _ => rfl⟩,
    .inr ⟨setNightDim, fun _ => rfl⟩, .inr ⟨readEvents, fun _ => rfl⟩, .inr ⟨subscribe, fun _ => rfl⟩,
    .inl (by decide)⟩

/-- The codes of section 12.4 are those of the rows. -/
theorem knownCodes_eq : knownCodes = requestRows.map fun x => x.2.1.toNat := rfl

theorem unknownRequest_of {req : Frame} (h : req.words = 0 ∨ ∀ x ∈ requestRows, requestCode req ≠ x.2.1) :
    unknownRequest req = true := by
  unfold unknownRequest
  rcases h with h | h
  · rw [decide_eq_true h, Bool.true_or]
  · have unlisted : ¬ (requestCode req).toNat ∈ knownCodes := by
      rw [knownCodes_eq, List.mem_map]
      rintro ⟨x, hx, e⟩
      exact h x hx (BitVec.eq_of_toNat_eq e.symm)
    rw [Bool.or_eq_true, Bool.not_eq_true', ← Bool.not_eq_true, List.contains_iff_mem]
    exact .inr unlisted

theorem unknownRequest_answers {p : UpPort} {req : Frame} {s : State} (h : AtRest s) (next : nextRequest s = some (p, req))
    (unknown : unknownRequest req = true) :
    exec .unknownRequest s = .next (answered p req .badRequest [] (takeRequest p s)) :=
  serveIf_unchanged (accepts := unknownRequest) (body := fun _ _ s => (s, badRequest)) h next unknown rfl

/-! ### Values outside their lists (R171) -/

theorem twoValued_none {w : Word} (h : 1 < w.toNat) : twoValued w = none := by
  unfold twoValued
  split
  · omega
  · omega
  · rfl

theorem twoValued_le {w : Word} {v : Bool} (h : twoValued w = some v) : w.toNat ≤ 1 :=
  Nat.le_of_not_lt fun k => by rw [twoValued_none k] at h; cases h

theorem twoValued_some {w : Word} (h : w.toNat ≤ 1) : ∃ v, twoValued w = some v := by
  have : w.toNat = 0 ∨ w.toNat = 1 := by omega
  unfold twoValued
  rcases this with e | e <;> rw [e] <;> exact ⟨_, rfl⟩

theorem emptySet_of {w : Word} (h : w.toNat % 65536 = 0) : emptySet w = true := beq_iff_eq.2 h

section
variable {p : UpPort} {f : Frame} (s : State)

theorem setBayPolicy_badRequest (h : (arg f 0).toNat % 65536 = 0 ∨ 1 < (arg f 1).toNat ∨ 1 < (arg f 5).toNat ∨
    1 < (arg f 6).toNat) : setBayPolicy p f s = (s, badRequest) := by
  unfold setBayPolicy
  dsimp only
  split
  · next h1 h5 h6 =>
    rw [if_pos (emptySet_of (h.resolve_right ?_))]
    have := twoValued_le h1
    have := twoValued_le h5
    have := twoValued_le h6
    omega
  · rfl

theorem lineRecordArg_le {rec : LineRecord} (h : lineRecordArg f = some rec) (k : Nat) (h1 : 1 ≤ k) (h6 : k ≤ 6) :
    (arg f k).toNat ≤ 1 := by
  unfold lineRecordArg at h
  split at h
  · next a b c d e g =>
    have : k = 1 ∨ k = 2 ∨ k = 3 ∨ k = 4 ∨ k = 5 ∨ k = 6 := by omega
    rcases this with rfl | rfl | rfl | rfl | rfl | rfl
    · exact twoValued_le a
    · exact twoValued_le b
    · exact twoValued_le c
    · exact twoValued_le d
    · exact twoValued_le e
    · exact twoValued_le g
  · cases h

theorem setBayLines_badRequest (h : (arg f 0).toNat % 65536 = 0 ∨ ∃ k, 1 ≤ k ∧ k ≤ 6 ∧ 1 < (arg f k).toNat) :
    setBayLines p f s = (s, badRequest) := by
  unfold setBayLines
  dsimp only
  split
  · rfl
  · next hr =>
    rw [if_pos (emptySet_of (h.resolve_right ?_))]
    rintro ⟨k, h1, h6, hk⟩
    exact absurd (lineRecordArg_le hr k h1 h6) (Nat.not_le.2 hk)

theorem lineTestEnter_badRequest (h : (arg f 0).toNat % 65536 = 0) : lineTestEnter p f s = (s, badRequest) :=
  if_pos (emptySet_of h)

theorem lineTestExit_badRequest (h : (arg f 0).toNat % 65536 = 0) : lineTestExit p f s = (s, badRequest) :=
  if_pos (emptySet_of h)

theorem linePreload_badRequest (h : (arg f 0).toNat % 65536 = 0 ∨ 1 < (arg f 1).toNat ∨ 1 < (arg f 2).toNat) :
    linePreload p f s = (s, badRequest) := by
  unfold linePreload
  dsimp only
  split
  · next h1 h2 =>
    rw [if_pos (emptySet_of (h.resolve_right ?_))]
    have := twoValued_le h1
    have := twoValued_le h2
    omega
  · rfl

theorem setOcFilter_badRequest (h : (arg f 0).toNat % 65536 = 0 ∨ (arg f 1).toNat ∉ ocFilterValues) :
    setOcFilter p f s = (s, badRequest) := by
  refine if_pos ?_
  rw [Bool.or_eq_true, Bool.not_eq_true', ← Bool.not_eq_true, List.contains_iff_mem]
  exact h.imp emptySet_of id

theorem readCounters_badRequest (h : 1 < (arg f 0).toNat) : readCounters p f s = (s, badRequest) := by
  unfold readCounters
  rw [twoValued_none h]

theorem snoopKindArg_listed {w : Word} {k : SnoopKind} (h : snoopKindArg w = some k) : w.toNat = 1 ∨ w.toNat = 2 := by
  unfold snoopKindArg at h
  split at h
  · next e => exact .inl e
  · next e => exact .inr e
  · cases h

theorem encodingArg_le {w : Word} {e : Encoding} (h : encodingArg w = some e) : w.toNat ≤ 2 := by
  unfold encodingArg at h
  split at h
  · omega
  · omega
  · omega
  · cases h

theorem actionArg_le {w : Word} {a : SnoopAction} (h : actionArg w = some a) : w.toNat ≤ 1 := by
  unfold actionArg at h
  split at h
  · omega
  · omega
  · cases h

/-- The named values of a LOAD_SNOOP_RULE request stand in their lists. -/
def ruleValuesListed (f : Frame) : Prop :=
  (arg f 1).toNat ≤ 1 ∧ ((arg f 3).toNat = 1 ∨ (arg f 3).toNat = 2) ∧ (arg f 8).toNat ≤ 2 ∧ (arg f 9).toNat ≤ 1

theorem loadSnoopRule_badRequest (h : ¬ruleValuesListed f) : loadSnoopRule p f s = (s, badRequest) := by
  unfold loadSnoopRule
  split
  · next h1 h3 h8 h9 =>
    exact absurd ⟨twoValued_le h1, snoopKindArg_listed h3, encodingArg_le h8, actionArg_le h9⟩ h
  · rfl

theorem setSensor_badRequest (h : 1 < (arg f 3).toNat) : setSensor p f s = (s, badRequest) := by
  unfold setSensor
  rw [twoValued_none h]

theorem lightActionArg_le {w : Word} {a : LightAction} (h : lightActionArg w = some a) : w.toNat ≤ 2 := by
  unfold lightActionArg at h
  split at h
  · omega
  · omega
  · omega
  · cases h

theorem clearingArg_listed {w : Word} {a : LightAction} (h : clearingArg w = some a) : w.toNat = 0 ∨ w.toNat = 2 := by
  have le : w.toNat ≤ 2 := by
    unfold clearingArg at h
    split at h
    · cases h
    · exact lightActionArg_le h
  have ne : w.toNat ≠ 1 := fun e => by
    have set : lightActionArg w = some .set := by
      unfold lightActionArg
      rw [e]
      rfl
    unfold clearingArg at h
    rw [set] at h
    cases h
  omega

theorem lightActionsArg_listed {a : LightActions} (h : lightActionsArg f = some a) : (arg f 1).toNat ≤ 2 ∧
    (arg f 2).toNat ≤ 2 ∧ (arg f 3).toNat ≤ 2 ∧ ((arg f 4).toNat = 0 ∨ (arg f 4).toNat = 2) := by
  unfold lightActionsArg at h
  split at h
  · next h1 h2 h3 h4 =>
    exact ⟨lightActionArg_le h1, lightActionArg_le h2, lightActionArg_le h3, clearingArg_listed h4⟩
  · cases h

theorem setLight_badRequest (h : (arg f 0).toNat % 65536 = 0 ∨ 2 < (arg f 1).toNat ∨ 2 < (arg f 2).toNat ∨
    2 < (arg f 3).toNat ∨ ((arg f 4).toNat ≠ 0 ∧ (arg f 4).toNat ≠ 2)) : setLight p f s = (s, badRequest) := by
  unfold setLight
  dsimp only
  split
  · rfl
  · next ha =>
    rw [if_pos (emptySet_of (h.resolve_right ?_))]
    have := lightActionsArg_listed ha
    omega

theorem setNightDim_badRequest (h : 1 < (arg f 0).toNat) : setNightDim p f s = (s, badRequest) := by
  unfold setNightDim
  rw [twoValued_none h]

theorem subscribe_badRequest (h : 1 < (arg f 0).toNat) : subscribe p f s = (s, badRequest) := by
  unfold subscribe
  rw [twoValued_none h]

theorem scope_toNat (w : Word) : (w.extractLsb' 24 8).toNat = w.toNat / 16777216 := by
  have := w.isLt
  rw [BitVec.extractLsb'_toNat, Nat.shiftRight_eq_div_pow]
  omega

theorem scopeBay_toNat (w : Word) : ((w.extractLsb' 0 8).setWidth 32).toNat = w.toNat % 256 := by
  rw [BitVec.toNat_setWidth, BitVec.extractLsb'_toNat, Nat.shiftRight_zero]
  omega

theorem readEvents_badRequest (h : 1 < (arg f 0).toNat / 16777216) : readEvents p f s = (s, badRequest) := by
  unfold readEvents
  dsimp only
  rw [scope_toNat]
  split
  · omega
  · omega
  · rfl

/-! ### Identifiers outside their numbering (R171) -/

theorem loadClass_outOfRange (h : 8 ≤ (arg f 0).toNat) : loadClass p f s = (s, outOfRange) := by
  unfold loadClass
  rw [identifier_none h]

theorem snoopKindArg_some {w : Word} (h : w.toNat = 1 ∨ w.toNat = 2) : ∃ k, snoopKindArg w = some k := by
  unfold snoopKindArg
  rcases h with h | h <;> rw [h] <;> exact ⟨_, rfl⟩

theorem encodingArg_some {w : Word} (h : w.toNat ≤ 2) : ∃ e, encodingArg w = some e := by
  have : w.toNat = 0 ∨ w.toNat = 1 ∨ w.toNat = 2 := by omega
  unfold encodingArg
  rcases this with e | e | e <;> rw [e] <;> exact ⟨_, rfl⟩

theorem actionArg_some {w : Word} (h : w.toNat ≤ 1) : ∃ a, actionArg w = some a := by
  have : w.toNat = 0 ∨ w.toNat = 1 := by omega
  unfold actionArg
  rcases this with e | e <;> rw [e] <;> exact ⟨_, rfl⟩

theorem loadSnoopRule_outOfRange (listed : ruleValuesListed f) (h : 8 ≤ (arg f 0).toNat ∨ 8 ≤ (arg f 2).toNat) :
    loadSnoopRule p f s = (s, outOfRange) := by
  obtain ⟨h1, h3, h8, h9⟩ := listed
  obtain ⟨v1, e1⟩ := twoValued_some h1
  obtain ⟨v3, e3⟩ := snoopKindArg_some h3
  obtain ⟨v8, e8⟩ := encodingArg_some h8
  obtain ⟨v9, e9⟩ := actionArg_some h9
  unfold loadSnoopRule
  rw [e1, e3, e8, e9]
  dsimp only
  split
  · next hn hp =>
    rcases h with h | h
    · rw [identifier_none h] at hn; cases hn
    · rw [identifier_none h] at hp; cases hp
  · rfl

theorem setSensor_outOfRange (listed : (arg f 3).toNat ≤ 1) (h : 4 ≤ (arg f 0).toNat ∨ 4 ≤ (arg f 1).toNat) :
    setSensor p f s = (s, outOfRange) := by
  obtain ⟨v, e⟩ := twoValued_some listed
  unfold setSensor
  rw [e]
  dsimp only
  split
  · next hn hz =>
    rcases h with h | h
    · rw [identifier_none h] at hn; cases hn
    · rw [identifier_none h] at hz; cases hz
  · rfl

theorem loadCurve_outOfRange (long : 3 + 2 * (arg f 1).toNat ≤ f.words) (h : 4 ≤ (arg f 0).toNat) :
    loadCurve p f s = (s, outOfRange) := by
  unfold loadCurve
  dsimp only
  rw [if_neg (Nat.not_lt.2 long), identifier_none h]

theorem setZone_outOfRange (h : 4 ≤ (arg f 0).toNat) : setZone p f s = (s, outOfRange) := by
  unfold setZone
  rw [identifier_none h]

theorem setFanMap_outOfRange (h : ∃ m : FanModule, 4 ≤ (arg f m.val).toNat) : setFanMap p f s = (s, outOfRange) := by
  have none : fanMapArg f = none := dif_neg fun k => by
    obtain ⟨m, hm⟩ := h
    exact absurd (k m) (Nat.not_lt.2 hm)
  unfold setFanMap
  rw [none]

theorem setFanOverride_outOfRange (h : 8 ≤ (arg f 0).toNat) : setFanOverride p f s = (s, outOfRange) := by
  unfold setFanOverride
  rw [identifier_none h]

theorem loadPattern_outOfRange (h : 8 ≤ (arg f 0).toNat) : loadPattern p f s = (s, outOfRange) := by
  unfold loadPattern
  rw [identifier_none h]

theorem setLightMap_outOfRange (h : ∃ c : Fin 8, 8 ≤ (arg f c.val).toNat) : setLightMap p f s = (s, outOfRange) := by
  have none : lightMapArg f = none := dif_neg fun k => by
    obtain ⟨c, hc⟩ := h
    exact absurd (k c) (Nat.not_lt.2 hc)
  unfold setLightMap
  rw [none]

theorem readEvents_outOfRange (scope : (arg f 0).toNat / 16777216 = 0) (h : 16 ≤ (arg f 0).toNat % 256) :
    readEvents p f s = (s, outOfRange) := by
  unfold readEvents
  dsimp only
  rw [scope_toNat, scope, identifier_none (by rw [scopeBay_toNat]; exact h)]
  rfl

end

/-! ### Power requests that change nothing (R30, R31, R32, R34) -/

theorem withBay_outOfRange {req : Frame} (h : 16 ≤ (arg req 0).toNat) (s : State) (k : Bay → State × Reply) :
    withBay req s k = (s, outOfRange) := by
  unfold withBay
  rw [identifier_none h]

/-- What POWER_ON answers to a bay whose state alone turns it away. -/
def powerOnRefusal : BayState → Option Result
  | .starting | .online => some .already
  | .faulted => some .faultLatched
  | .empty => some .noDrive
  | .seating | .cycling | .test => some .refusedState
  | .off | .queued => none

/-- What POWER_OFF answers to a bay whose state alone turns it away. -/
def powerOffRefusal : BayState → Option Result
  | .faulted => some .faultLatched
  | .empty => some .noDrive
  | .seating | .test => some .refusedState
  | .off | .queued | .cycling | .starting | .online => none

/-- What POWER_CYCLE answers to a bay whose state alone turns it away. -/
def powerCycleRefusal : BayState → Option Result
  | .faulted => some .faultLatched
  | .empty => some .noDrive
  | .seating | .off | .queued | .cycling | .test => some .refusedState
  | .starting | .online => none

theorem powerOnBay_refuses {p : UpPort} {b : Bay} {s : State} {r : Result}
    (h : powerOnRefusal s.bays[b].state = some r) : powerOnBay p b s = answer r s := by
  unfold powerOnBay
  cases hx : s.bays[b].state <;> rw [hx] at h <;> cases h <;> rfl

theorem powerOffBay_refuses {p : UpPort} {flag : Bool} {b : Bay} {s : State} {r : Result}
    (h : powerOffRefusal s.bays[b].state = some r) : powerOffBay p flag b s = answer r s := by
  unfold powerOffBay
  cases hx : s.bays[b].state <;> rw [hx] at h <;> cases h <;> rfl

theorem powerCycleBay_refuses {n : Nat} {b : Bay} {s : State} {r : Result}
    (h : powerCycleRefusal s.bays[b].state = some r) : powerCycleBay n b s = answer r s := by
  unfold powerCycleBay
  cases hx : s.bays[b].state <;> rw [hx] at h <;> cases h <;> rfl

theorem powerOnBay_held {p : UpPort} {b : Bay} {s : State} (hx : s.bays[b].state = .off)
    (held : s.bays[b].hold = some (otherUp p)) : powerOnBay p b s = answer .held s := by
  unfold powerOnBay
  rw [hx]
  exact if_pos held

section
variable {p : UpPort} {req : Frame} {b : Bay} {s : State} {r : Result} (h : AtRest s)
include h

theorem powerOn_unchanged (serves : Serves 0x0110 1 p req s) (named : (arg req 0).toNat = b.val)
    (effect : powerOnBay p b (takeRequest p s) = answer r (takeRequest p s)) :
    exec .powerOn s = .next (answered p req r [] (takeRequest p s)) :=
  unchanged_served (body := powerOnBody) h serves
    ((withBay_named named (takeRequest p s) _).trans effect)

theorem powerOff_unchanged (serves : Serves 0x0111 2 p req s) (named : (arg req 0).toNat = b.val)
    (effect : powerOffBay p (decide (arg req 1 ≠ 0)) b (takeRequest p s) = answer r (takeRequest p s)) :
    exec .powerOff s = .next (answered p req r [] (takeRequest p s)) :=
  unchanged_served (body := powerOffBody) h serves
    ((withBay_named named (takeRequest p s) _).trans effect)

theorem powerCycle_unchanged (serves : Serves 0x0112 2 p req s) (named : (arg req 0).toNat = b.val)
    (effect : powerCycleBay ((arg req 1).toNat % 256) b (takeRequest p s) = answer r (takeRequest p s)) :
    exec .powerCycle s = .next (answered p req r [] (takeRequest p s)) :=
  unchanged_served (body := powerCycleBody) h serves
    ((withBay_named named (takeRequest p s) _).trans effect)

end

/-- Settles O42: every check stands before the effect, so a request that one of them turns away changes nothing but its
queue, and its answer is the only thing that the end of the step adds. -/
theorem requestsAreTurnedAway : Obligations.RequestsAreTurnedAway := by
  refine ⟨?short, ?unknown, ?values, ?power⟩
  case short =>
    intro x hx p req s h next hc short
    rcases requestRows_serve x hx with ⟨code, bare⟩ | ⟨body, run⟩
    · rw [bare] at short
      have none : requestCode req = 0 := if_pos (Nat.lt_one_iff.1 short)
      exact absurd (hc.symm.trans none) code
    · rw [run]
      exact short_served h next hc short
  case unknown => exact fun p req s h next unknown => unknownRequest_answers h next (unknownRequest_of unknown)
  case values =>
    intro p req s h w empty scope ruleListed
    constructor
    · simp only [List.forall_mem_cons, List.not_mem_nil, false_imp_iff, implies_true, and_true]
      exact ⟨fun serves out => unchanged_served h serves (setBayPolicy_badRequest _ out),
        fun serves out => unchanged_served h serves (setBayLines_badRequest _ out),
        fun serves out => unchanged_served h serves (lineTestEnter_badRequest _ out),
        fun serves out => unchanged_served h serves (lineTestExit_badRequest _ out),
        fun serves out => unchanged_served h serves (linePreload_badRequest _ out),
        fun serves out => unchanged_served h serves (setOcFilter_badRequest _ out),
        fun serves out => unchanged_served h serves (readCounters_badRequest _ out),
        fun serves out => unchanged_served h serves (loadSnoopRule_badRequest _ out),
        fun serves out => unchanged_served h serves (setSensor_badRequest _ out),
        fun serves out => unchanged_served h serves (setLight_badRequest _ out),
        fun serves out => unchanged_served h serves (setNightDim_badRequest _ out),
        fun serves out => unchanged_served h serves (subscribe_badRequest _ out),
        fun serves out => unchanged_served h serves (readEvents_badRequest _ out)⟩
    · simp only [List.forall_mem_cons, List.not_mem_nil, false_imp_iff, implies_true, and_true]
      exact ⟨fun serves out => unchanged_served h serves (loadClass_outOfRange _ out),
        fun serves out => unchanged_served h serves (loadSnoopRule_outOfRange _ out.1 out.2),
        fun serves out => unchanged_served h serves (setSensor_outOfRange _ out.1 out.2),
        fun serves out => unchanged_served h serves (loadCurve_outOfRange _ out.1 out.2),
        fun serves out => unchanged_served h serves (setZone_outOfRange _ out),
        fun serves out => unchanged_served h serves (setFanMap_outOfRange _ out),
        fun serves out => unchanged_served h serves (setFanOverride_outOfRange _ out),
        fun serves out => unchanged_served h serves (loadPattern_outOfRange _ out),
        fun serves out => unchanged_served h serves (setLightMap_outOfRange _ out),
        fun serves out => unchanged_served h serves (readEvents_outOfRange _ out.1 out.2)⟩
  case power =>
    intro p req b s h
    refine ⟨?_, ?_, fun serves named hx held => powerOn_unchanged h serves named (powerOnBay_held hx held)⟩
    · simp only [List.forall_mem_cons, List.not_mem_nil, false_imp_iff, implies_true, and_true]
      exact ⟨fun serves out => unchanged_served (body := powerOnBody) h serves (withBay_outOfRange out _ _),
        fun serves out => unchanged_served (body := powerOffBody) h serves (withBay_outOfRange out _ _),
        fun serves out => unchanged_served (body := powerCycleBody) h serves (withBay_outOfRange out _ _),
        fun serves out => unchanged_served (body := clearFaultBody) h serves (withBay_outOfRange out _ _)⟩
    · simp only [List.forall_mem_cons, List.not_mem_nil, false_imp_iff, implies_true, and_true]
      have on (r : Result) (x : BayState) (hr : powerOnRefusal x = some r) (serves : Serves 0x0110 1 p req s)
          (named : (arg req 0).toNat = b.val) (hx : s.bays[b].state = x) :=
        powerOn_unchanged h serves named (powerOnBay_refuses (s := takeRequest p s) ((congrArg powerOnRefusal hx).trans hr))
      have off (r : Result) (x : BayState) (hr : powerOffRefusal x = some r) (serves : Serves 0x0111 2 p req s)
          (named : (arg req 0).toNat = b.val) (hx : s.bays[b].state = x) :=
        powerOff_unchanged h serves named (powerOffBay_refuses (s := takeRequest p s) ((congrArg powerOffRefusal hx).trans hr))
      have cycle (r : Result) (x : BayState) (hr : powerCycleRefusal x = some r) (serves : Serves 0x0112 2 p req s)
          (named : (arg req 0).toNat = b.val) (hx : s.bays[b].state = x) :=
        powerCycle_unchanged h serves named
          (powerCycleBay_refuses (s := takeRequest p s) ((congrArg powerCycleRefusal hx).trans hr))
      exact ⟨on _ _ rfl, on _ _ rfl, on _ _ rfl, on _ _ rfl, on _ _ rfl, on _ _ rfl, on _ _ rfl, off _ _ rfl, off _ _ rfl,
        off _ _ rfl, off _ _ rfl, cycle _ _ rfl, cycle _ _ rfl, cycle _ _ rfl, cycle _ _ rfl, cycle _ _ rfl,
        cycle _ _ rfl, cycle _ _ rfl⟩

end Sys2Proof.Machine

namespace Sys2Proof.Machine

/-! ### A bay that has left power, through the rest of its step (R22) -/

/-- What leaving power leaves of bay `b` and of the others, whatever its record becomes. -/
structure Drained (b : Bay) (s u : State) : Prop where
  charge : u.power.charge[b] = 0
  filter : u.power.ocFilter[b] = .clear
  port : DisabledQuiet u b
  slot : s.bays[b].state = .online → u.route.learned[portIdx (.bay b)] = none
  reading : s.bays[b].state = .online → u.therm.records[b] = clearReading s.therm.records[b]
  window : u.light.bays[b].window = none
  others : ∀ c : Bay, c ≠ b → Aside c s u
  otherSlots : ∀ q : Port, q ≠ .bay b → u.route.learned[portIdx q] = s.route.learned[portIdx q]
  otherReadings : ∀ c : Bay, c ≠ b → u.therm.records[c] = s.therm.records[c]
  statics : u.route.statics = s.route.statics
  classes : u.power.classes = s.power.classes
  cooling : u.cool = s.cool

theorem leavePower_drained (b : Bay) (s : State) : Drained b s (leavePower b s) := by
  obtain ⟨statics, learned, records⟩ := leavePower_routes b s
  exact
    { charge := by rw [leavePower_charge, getElem_put_same]
      filter := leavePower_filter b s
      port := leavePower_quiet b s
      slot := fun online => by rw [learned, if_pos online, getElem_put_same]
      reading := fun online => by rw [records, if_pos online, getElem_upd_same]
      window := by rw [leavePower_lights]
      others := fun c hc => leavePower_aside hc s
      otherSlots := fun q hq => by
        rw [learned]
        split
        · exact getElem_put_ne _ _ (portIdx_ne hq)
        · rfl
      otherReadings := fun c hc => by
        rw [records]
        split
        · exact getElem_upd_ne _ _ hc
        · rfl
      statics := statics
      classes := leavePower_classes b s
      cooling := leavePower_cool b s }

/-- A change that does nothing to bay `b` but write its record or put it into the queue, and passes the other bays by. -/
structure Follows (b : Bay) (u v : State) : Prop where
  charge : v.power.charge[b] = u.power.charge[b]
  filter : v.power.ocFilter[b] = u.power.ocFilter[b]
  classes : v.power.classes = u.power.classes
  port : DisabledQuiet u b → DisabledQuiet v b
  route : v.route = u.route
  readings : v.therm.records = u.therm.records
  lights : v.light.bays = u.light.bays
  cooling : v.cool = u.cool
  others : ∀ c : Bay, c ≠ b → Aside c u v

theorem Drained.follow {b : Bay} {s u v : State} (h : Drained b s u) (k : Follows b u v) : Drained b s v where
  charge := k.charge.trans h.charge
  filter := k.filter.trans h.filter
  port := k.port h.port
  slot online := by rw [k.route]; exact h.slot online
  reading online := by rw [k.readings]; exact h.reading online
  window := by rw [k.lights]; exact h.window
  others c hc := (h.others c hc).trans (k.others c hc)
  otherSlots q hq := by rw [k.route]; exact h.otherSlots q hq
  otherReadings c hc := by rw [k.readings]; exact h.otherReadings c hc
  statics := by rw [k.route]; exact h.statics
  classes := k.classes.trans h.classes
  cooling := k.cooling.trans h.cooling

theorem Follows.of_frame {b : Bay} {u v : State} (power : v.power = u.power) (fwd : v.fwd.bayQueue = u.fwd.bayQueue ∧
      v.fwd.transmitting = u.fwd.transmitting ∧ v.fwd.waiting = u.fwd.waiting) (route : v.route = u.route)
    (therm : v.therm = u.therm) (light : v.light = u.light) (cool : v.cool = u.cool)
    (others : ∀ c : Bay, c ≠ b → Aside c u v) : Follows b u v where
  charge := by rw [power]
  filter := by rw [power]
  classes := by rw [power]
  port k := k.congr (by rw [fwd.1]) (by rw [fwd.2.1]) (by rw [fwd.2.2])
  route := route
  readings := by rw [therm]
  lights := by rw [light]
  cooling := cool
  others := others

theorem modBay_follows (b : Bay) (f : BayRecord → BayRecord) (u : State) : Follows b u (modBay b f u) :=
  .of_frame rfl ⟨rfl, rfl, rfl⟩ rfl rfl rfl rfl fun _ hc => modBay_aside hc f u

theorem latchBay_follows (b : Bay) (k : BayEvent) (u : State) : Follows b u (latchBay b k u) :=
  .of_frame (latchBay_power b k u) ⟨by rw [latchBay_fwd], by rw [latchBay_fwd], by rw [latchBay_fwd]⟩ (latchBay_route b k u)
    (latchBay_therm b k u) (latchBay_light b k u) (latchBay_cool b k u) fun c _ => latchBay_aside c b k u

theorem count_aside (c : Bay) (p : Port) (k : CounterKind) (n : Nat) (u : State) : Aside c u (count p k n u) :=
  .of_fwd rfl rfl rfl rfl rfl fun h => h.congr rfl rfl rfl

theorem count_follows (b : Bay) (p : Port) (k : CounterKind) (n : Nat) (u : State) : Follows b u (count p k n u) :=
  .of_frame rfl ⟨rfl, rfl, rfl⟩ rfl rfl rfl rfl fun c _ => count_aside c p k n u

theorem joinQueue_follows (b : Bay) (x : QueueClass) (u : State) : Follows b u (joinQueue b x u) where
  charge := rfl
  filter := rfl
  classes := rfl
  port k := k.congr rfl rfl rfl
  route := rfl
  readings := rfl
  lights := rfl
  cooling := rfl
  others _ hc := joinQueue_aside hc x u

theorem respond_follows (b : Bay) (p : UpPort) (req : Frame) (r : Reply) (u : State) :
    Follows b u (respond p req (u, r)) where
  charge := by rw [respond_power]
  filter := by rw [respond_power]
  classes := by rw [respond_power]
  port := (respond_aside b p req (u, r)).port
  route := respond_route p req r u
  readings := by rw [respond_therm]
  lights := by rw [respond_light]
  cooling := respond_cool p req r u
  others c _ := respond_aside c p req (u, r)

/-- The end of the step brings no admission of bay `b`. -/
structure Unadmitted (b : Bay) (u : State) : Prop where
  record : (settle u).bays[b] = u.bays[b]
  charge : (settle u).power.charge[b] = u.power.charge[b]
  filter : (settle u).power.ocFilter[b] = u.power.ocFilter[b]

/-- A bay that is not QUEUED is not admitted. -/
theorem unadmitted_of_state {b : Bay} {u : State} (hq : (view u).Queued) (hb : u.bays[b].state ≠ .queued) : Unadmitted b u :=
  ⟨(settle_record hq hb).1, (settle_record hq hb).2, settle_filter b u hq hb⟩

/-- While the stagger timer runs no bay is admitted (R57). -/
theorem settle_of_stagger {u : State} (h : u.power.stagger.isSome = true) : (settle u).bays = u.bays ∧
    (settle u).power.charge = u.power.charge ∧ (settle u).power.ocFilter = u.power.ocFilter ∧
    (settle u).power.queue = u.power.queue := by
  have refreshed (w : State) : (refreshBlocks w).power.stagger = w.power.stagger ∧
      (refreshBlocks w).power.charge = w.power.charge ∧ (refreshBlocks w).power.queue = w.power.queue := by
    unfold refreshBlocks
    dsimp only
    split <;> exact ⟨rfl, rfl, rfl⟩
  have tried (w : State) (hw : w.power.stagger.isSome = true) : (attemptIfAsked w).bays = w.bays ∧
      (attemptIfAsked w).power.charge = w.power.charge ∧ (attemptIfAsked w).power.ocFilter = w.power.ocFilter ∧
      (attemptIfAsked w).power.queue = w.power.queue := by
    unfold attemptIfAsked
    split
    · rw [attempt_of_stagger { w with power := { w.power with attemptAsked := false } } hw]
      exact ⟨rfl, rfl, rfl, rfl⟩
    · exact ⟨rfl, rfl, rfl, rfl⟩
  obtain ⟨stagger, charge, queue⟩ := refreshed (refreshHot u)
  rw [refreshHot_power] at stagger charge queue
  obtain ⟨bays', charge', filter', queue'⟩ := tried _ (by rw [stagger]; exact h)
  rw [settle_eq, finish_bays, finish_power]
  exact ⟨bays'.trans ((refreshBlocks_bays _).trans (refreshHot_bays u)), charge'.trans charge, filter'.trans (refresh_filter u),
    queue'.trans queue⟩

theorem unadmitted_of_stagger {b : Bay} {u : State} (h : u.power.stagger.isSome = true) : Unadmitted b u := by
  obtain ⟨bays, charge, filter, -⟩ := settle_of_stagger h
  exact ⟨by rw [bays], by rw [charge], by rw [filter]⟩

/-- A record that has lost what power gave it, and kept its settings. -/
structure Stripped (r r' : BayRecord) : Prop where
  bare : r'.Bare
  settings : r'.policy = r.policy ∧ r'.cfgClass = r.cfgClass ∧ r'.cfgZone = r.cfgZone ∧
    r'.retriesSetting = r.retriesSetting ∧ r'.ocProt = r.ocProt ∧ r'.otProt = r.otProt

theorem stripped_unpower (r : BayRecord) : Stripped r (unpowerRecord r) := ⟨unpowerRecord_bare r, rfl, rfl, rfl, rfl, rfl, rfl⟩

/-- The step of a bay that leaves power, and is not admitted again at once, ends with R22's outcome. -/
theorem Drained.leftPower {b : Bay} {s u : State} (h : Drained b s u) (hq : (view u).Queued) (kept : Unadmitted b u)
    (off : powered u.bays[b].state = false) (stripped : Stripped s.bays[b] u.bays[b]) : LeftPower b s (settle u) := by
  obtain ⟨bare, settings⟩ := stripped
  have dark : powered (settle u).bays[b].state = false := by rw [kept.record]; exact off
  exact
    { charge := kept.charge.trans h.charge
      record := by
        rw [kept.record]
        exact ⟨bare.startTimer, bare.chargedClass, bare.activeZone, bare.driveAddr, bare.declClass, bare.profile, bare.identity⟩
      trips := by rw [kept.record]; exact ⟨bare.ocTrip, bare.otTrip⟩
      settings := by rw [kept.record]; exact settings
      filter := kept.filter.trans h.filter
      port := (settle_aside b u hq).port h.port
      slot := fun online => by rw [settle_route]; exact h.slot online
      reading := fun online => by rw [settle_records]; exact h.reading online
      window := by rw [settle_lightBays]; exact h.window
      pwr := by
        have lines := settle_pwrKept u
        generalize settle u = t at dark lines ⊢
        exact lines.inactive dark
      others := fun c hc => ((h.others c hc).trans (settle_aside c u hq)).bay.untouchedOrAdmitted
      otherSlots := fun q hq => by rw [settle_route]; exact h.otherSlots q hq
      otherReadings := fun c hc => by rw [settle_records]; exact h.otherReadings c hc
      statics := by rw [settle_route]; exact h.statics
      classes := (settle_aside b u hq).classes.trans h.classes
      cooling := by rw [settle_cool]; exact h.cooling }

/-- The clock at which an event is taken is no part of what leaving power says. -/
theorem LeftPower.of_advance {b : Bay} {e : Nat} {s t : State} (h : LeftPower b (advance e s) t) : LeftPower b s t := { h with }

/-! ### Faults (R21, R35, R193) -/

theorem settle_latch {b : Bay} {k : BayEvent} {u : State} (hq : (view u).Queued)
    (h : (u.ev.bayLatches[b])[k.idx] = true) : ((settle u).ev.bayLatches[b])[k.idx] = true :=
  (settle_aside b u hq).latches k h

/-- A FAULTED bay asserts ALERT. -/
theorem settle_alert_of_faulted {b : Bay} {u : State} (h : (settle u).bays[b].state = .faulted) : (settle u).ev.alert = true := by
  rw [settle_alert]
  exact (alertCondition_iff _).2 (.inl ⟨b, h⟩)

theorem faultBay_drained (b : Bay) (c : FaultCause) (s : State) : Drained b s (faultBay b c s) :=
  (leavePower_drained b s).follow (modBay_follows b _ _)

theorem faultBay_record (b : Bay) (c : FaultCause) (s : State) : (faultBay b c s).bays[b] =
    { unpowerRecord s.bays[b] with state := .faulted, fault := some c } := by
  rw [faultBay_bays, getElem_upd_same]

/-- A bay that a step has FAULTED with a cause, out of power. -/
structure FaultedBy (b : Bay) (c : FaultCause) (s t : State) : Prop where
  left : LeftPower b s t
  state : t.bays[b].state = .faulted
  fault : t.bays[b].fault = some c
  alert : t.ev.alert = true

/-- A step that faults a bay, and then passes its record by, leaves it so. -/
theorem faultedBy_of_follows {b : Bay} {c : FaultCause} {s u : State} (h : Follows b (faultBay b c s) u)
    (record : u.bays[b] = (faultBay b c s).bays[b]) (hq : (view u).Queued) : FaultedBy b c s (settle u) := by
  rw [faultBay_record] at record
  have kept := unadmitted_of_state (b := b) hq (by rw [record]; exact BayState.noConfusion)
  have state : (settle u).bays[b].state = .faulted := by rw [kept.record, record]
  have bare : Stripped s.bays[b] u.bays[b] := by
    rw [record]
    exact { stripped_unpower s.bays[b] with bare := { unpowerRecord_bare s.bays[b] with } }
  exact ⟨((faultBay_drained b c s).follow h).leftPower hq kept (by rw [record]; rfl) bare, state, by rw [kept.record, record],
    settle_alert_of_faulted state⟩

/-! ### START_WINDOW_EXPIRY (R26) -/

theorem setCharge_stagger (b : Bay) (v : Nat) (s : State) : (setCharge b v s).power.stagger = s.power.stagger := by
  have stepped (u : State) : (stepDown u).power.stagger = u.power.stagger := by
    unfold stepDown
    split
    · rfl
    · dsimp only
      split
      · rw [latchEncl_power]
      · rfl
  unfold setCharge
  dsimp only
  split
  · exact stepped _
  · rfl

theorem leavePower_stagger (b : Bay) (s : State) : (leavePower b s).power.stagger = s.power.stagger := by
  have port : (unpowered b s).power.stagger = s.power.stagger := by
    unfold unpowered
    rw [flush_power]
    exact setCharge_stagger b 0 _
  rw [leavePower_eq, ← port]
  generalize unpowered b s = u
  dsimp only
  split <;> split <;> rfl

/-- The record of a bay whose start failed with a retry left. -/
def retryRecord (r : BayRecord) : BayRecord := { unpowerRecord r with state := .queued, retriesLeft := r.retriesLeft - 1 }

/-- The bay is queued again. -/
def retried (b : Bay) (s : State) : State :=
  joinQueue b .normal (modBay b (fun r => { r with state := .queued, retriesLeft := s.bays[b].retriesLeft - 1 }) (leavePower b s))

theorem retried_record (b : Bay) (s : State) : (retried b s).bays[b] = retryRecord s.bays[b] := by
  unfold retried
  rw [joinQueue_bays, modBay_bays, leavePower_bays, upd_upd, getElem_upd_same]
  rfl

theorem failStart_retry {b : Bay} {s : State} (h : 0 < s.bays[b].retriesLeft) :
    failStart b s = latchBay b .startFailed (retried b s) := by
  unfold failStart
  dsimp only
  rw [if_pos h]
  rfl

theorem failStart_fault {b : Bay} {s : State} (h : s.bays[b].retriesLeft = 0) :
    failStart b s = latchBay b .startFailed (faultBay b .noHello s) := by
  unfold failStart
  dsimp only
  rw [if_neg (by rw [h]; exact Nat.lt_irrefl 0)]

theorem failStart_latched (b : Bay) (s : State) : ((failStart b s).ev.bayLatches[b])[BayEvent.startFailed.idx] = true :=
  latchBay_sets b .startFailed _

theorem failStart_others {b c : Bay} (hc : c ≠ b) (s : State) : Aside c s (failStart b s) := by
  unfold failStart
  dsimp only
  refine (Aside.ite ?_ ?_).trans (latchBay_aside c b .startFailed _)
  · exact ((leavePower_aside hc s).trans (modBay_aside hc _ _)).trans (joinQueue_aside hc .normal _)
  · exact (leavePower_aside hc s).trans (modBay_aside hc _ _)

section
variable {b : Bay} {s : State} (hq : (view (failStart b s)).Queued)
include hq

theorem failStart_faulted (h : s.bays[b].retriesLeft = 0) : FaultedBy b .noHello s (settle (failStart b s)) := by
  rw [failStart_fault h] at hq ⊢
  exact faultedBy_of_follows (latchBay_follows b .startFailed _) (by rw [latchBay_bays]) hq

theorem failStart_requeued (h : 0 < s.bays[b].retriesLeft) (stagger : s.power.stagger.isSome = true)
    (out : dropEntry b s.power.queue = s.power.queue) : LeftPower b s (settle (failStart b s)) ∧
      (settle (failStart b s)).bays[b].state = .queued ∧
      (settle (failStart b s)).power.queue = s.power.queue ++ [⟨b, .normal⟩] := by
  rw [failStart_retry h] at hq ⊢
  have record : (latchBay b .startFailed (retried b s)).bays[b] = retryRecord s.bays[b] := by
    rw [latchBay_bays, retried_record]
  have runs : (latchBay b .startFailed (retried b s)).power.stagger.isSome = true := by
    rw [latchBay_power]
    exact (congrArg Option.isSome (leavePower_stagger b s)).trans stagger
  have kept : Unadmitted b (latchBay b .startFailed (retried b s)) := unadmitted_of_stagger runs
  have drained : Drained b s (latchBay b .startFailed (retried b s)) :=
    (((leavePower_drained b s).follow (modBay_follows b _ _)).follow (joinQueue_follows b .normal _)).follow
      (latchBay_follows b .startFailed _)
  have bare : Stripped s.bays[b] (latchBay b .startFailed (retried b s)).bays[b] := by
    rw [record]
    exact { stripped_unpower s.bays[b] with bare := { unpowerRecord_bare s.bays[b] with } }
  refine ⟨drained.leftPower hq kept (by rw [record]; rfl) bare, by rw [kept.record, record]; rfl, ?_⟩
  have joined : (retried b s).power.queue = joinClass ⟨b, .normal⟩ (dropEntry b (leavePower b s).power.queue) := rfl
  rw [(settle_of_stagger runs).2.2.2, latchBay_power, joined, leavePower_queue, out]
  rfl

/-- The retries and the fault of a bay that is queued again, whether or not an attempt admits it at once. -/
theorem failStart_retries (h : 0 < s.bays[b].retriesLeft) (clean : s.bays[b].fault = none) :
    (settle (failStart b s)).bays[b].retriesLeft = s.bays[b].retriesLeft - 1 ∧
      (settle (failStart b s)).bays[b].fault = none ∧
      ((settle (failStart b s)).bays[b].state = .queued ∨ (settle (failStart b s)).bays[b].state = .starting) := by
  have bay := (settle_aside b _ hq).bay
  have record : (failStart b s).bays[b] = retryRecord s.bays[b] := by
    rw [failStart_retry h, latchBay_bays, retried_record]
  rcases bay with ⟨same, -⟩ | ⟨-, ⟨e, admitted⟩, -⟩
  · rw [same, record]
    exact ⟨rfl, clean, .inl rfl⟩
  · rw [admitted, record]
    exact ⟨rfl, clean, .inr rfl⟩

end

/-- Settles O25: the bay leaves power, and is FAULTED or queued again; an admission at the end of the step wants a stagger
timer that is stopped. -/
theorem startWindowExpiryRetriesOrFaults : Obligations.StartWindowExpiryRetriesOrFaults := by
  intro b s e h hx he
  have run : exec (.startWindowExpiry b) s = .next (settle (failStart b (advance e s))) := by
    change execStartWindowExpiry b s = _
    unfold execStartWindowExpiry
    rw [hx, he]
  have hq : (view (failStart b (advance e s))).Queued :=
    (failStart_keeps b (advance e s) hx ((advance_still e s).keeps h)).queued
  have clean : s.bays[b].fault = none := (h.record b).noFault (by rw [hx]; exact BayState.noConfusion)
  have out : dropEntry b s.power.queue = s.power.queue := h.dropEntry_eq (by rw [hx]; exact BayState.noConfusion)
  refine ⟨_, run, ?_, settle_latch hq (failStart_latched b _), fun none => ?_,
    fun left => ⟨?_, ?_, fun stagger => ?_, fun _ => ?_⟩, fun c hc => ?_⟩
  · rw [(settle_aside b _ hq).now]
    unfold failStart
    dsimp only
    rw [latchBay_now]
    split
    · rw [joinQueue_now, modBay_now, leavePower_now]; rfl
    · rw [faultBay_now]; rfl
  · have faulted := failStart_faulted hq none
    exact ⟨faulted.left.of_advance, faulted.state, faulted.fault, faulted.alert⟩
  · exact (failStart_retries hq left clean).1
  · exact (failStart_retries hq left clean).2.1
  · obtain ⟨gone, state, queue⟩ := failStart_requeued hq left stagger out
    exact ⟨gone.of_advance, state, queue⟩
  · exact (failStart_retries hq left clean).2.2
  · have aside : Aside c (advance e s) _ := (failStart_others hc _).trans (settle_aside c _ hq)
    exact aside.bay.untouchedOrAdmitted

end Sys2Proof.Machine

namespace Sys2Proof.Machine

/-! ### The overcurrent filter and its trips (R35, R61, R62, R63) -/

/-- A latch stores nothing of a bay's record but its state and its fault. -/
theorem modBay_latchBay {b : Bay} {f : BayRecord → BayRecord} (state : ∀ r, (f r).state = r.state)
    (fault : ∀ r, (f r).fault = r.fault) (c : Bay) (k : BayEvent) (s : State) :
    modBay b f (latchBay c k s) = latchBay c k (modBay b f s) := by
  have same : (modBay b f s).bays[c].state = s.bays[c].state ∧ (modBay b f s).bays[c].fault = s.bays[c].fault := by
    rw [modBay_bays, getElem_upd]
    split
    · next e => subst e; exact ⟨state _, fault _⟩
    · exact ⟨rfl, rfl⟩
  unfold latchBay
  rw [same.1, same.2]
  exact apply_ite (modBay b f) _ _ _

/-- The record of a bay whose overcurrent persisted: a trip is sent when protection is ENABLED (R62). -/
def tripSent (r : BayRecord) : BayRecord := { r with ocTrip := r.ocTrip || r.ocProt }

theorem persist_eq (b : Bay) (s : State) :
    persist b s = latchBay b .overcurrent (modBay b tripSent (setFilter b .persisted s)) := by
  have kept : (latchBay b .overcurrent (setFilter b .persisted s)).bays = s.bays := latchBay_bays b .overcurrent _
  unfold persist
  dsimp only
  rw [kept, ← modBay_latchBay (f := tripSent) (fun _ => rfl) (fun _ => rfl)]
  split
  · next on =>
    refine congrArg (fun v => ({ latchBay b .overcurrent (setFilter b .persisted s) with bays := v } : State)) ?_
    rw [kept]
    refine upd_congr _ _ _ _ ?_
    unfold tripSent
    rw [on, Bool.or_true]
  · next off =>
    have same : upd (latchBay b .overcurrent (setFilter b .persisted s)).bays b tripSent =
        (latchBay b .overcurrent (setFilter b .persisted s)).bays := by
      refine upd_eq_self _ _ _ ?_
      rw [kept]
      have trip : (s.bays[b].ocTrip || s.bays[b].ocProt) = s.bays[b].ocTrip := by
        rw [Bool.eq_false_iff.2 off, Bool.or_false]
      unfold tripSent
      rw [trip]
    unfold modBay
    rw [same]

/-- The power unit with other overcurrent senses and filters. -/
def withSense (senses : Vector Bool 16) (filters : Vector OcFilter 16) (s : State) : State :=
  { s with power := { s.power with ocIn := senses, ocFilter := filters } }

theorem settle_withSense {s : State} (h : AtRest s) (senses : Vector Bool 16) (filters : Vector OcFilter 16) :
    settle (withSense senses filters s) = withSense senses filters s :=
  settle_of_atRest _ (Unseen.atRest (s := s)
    ⟨rfl, rfl, rfl, rfl, rfl, rfl, rfl, rfl, rfl, rfl, fun _ => rfl, fun _ => rfl⟩ h h.asked)

theorem ocConditionAsserted_starts {b : Bay} {s : State} (h : AtRest s) (hp : powered s.bays[b].state = true)
    (hf : s.power.ocFilter[b] = .clear) : exec (.ocConditionAsserted b) s = .next (withSense (put s.power.ocIn b true)
      (put s.power.ocFilter b (.timing (s.now + s.power.ocSetting[b]))) s) := by
  change execOcConditionAsserted b s = _
  unfold execOcConditionAsserted
  rw [hp, hf]
  exact congrArg Host.Outcome.next (settle_withSense h _ _)

theorem ocConditionAsserted_ignored {b : Bay} {s : State} (h : AtRest s)
    (hb : powered s.bays[b].state = false ∨ s.power.ocFilter[b] ≠ .clear) :
    exec (.ocConditionAsserted b) s = .next (withSense (put s.power.ocIn b true) s.power.ocFilter s) := by
  have unevaluated : ¬ (powered s.bays[b].state && decide (s.power.ocFilter[b] = .clear)) = true := by
    rw [Bool.and_eq_true, decide_eq_true_eq]
    rintro ⟨hp, hf⟩
    exact hb.elim (fun off => by rw [off] at hp; cases hp) (fun ne => ne hf)
  change execOcConditionAsserted b s = _
  unfold execOcConditionAsserted
  dsimp only
  rw [if_neg unevaluated]
  exact congrArg Host.Outcome.next (settle_withSense h _ _)

theorem ocFilterExpiry_persists {b : Bay} {s : State} {e : Nat} (h : AtRest s) (hp : powered s.bays[b].state = true)
    (hf : s.power.ocFilter[b] = .timing e) : exec (.ocFilterExpiry b) s =
      .next (finish (latchBay b .overcurrent (modBay b tripSent (setFilter b .persisted (advance e s))))) := by
  have state (c : Bay) : (upd s.bays b tripSent)[c].state = s.bays[c].state := by
    rw [getElem_upd]
    split
    · next k => subst k; rfl
    · rfl
  have zone (c : Bay) : (upd s.bays b tripSent)[c].activeZone = s.bays[c].activeZone := by
    rw [getElem_upd]
    split
    · next k => subst k; rfl
    · rfl
  have reported : Reported (modBay b tripSent (setFilter b .persisted (advance e s))) :=
    h.reported.of_zones rfl rfl rfl state zone
  obtain ⟨hot, blocks⟩ := reported.latch b .overcurrent
  change execOcFilterExpiry b s = _
  unfold execOcFilterExpiry
  rw [hf, hp]
  dsimp only
  rw [persist_eq, settle_eq_finish _ hot blocks (by rw [latchBay_power]; exact h.asked)]

theorem protectionTrip_faults {b : Bay} {c : TripCause} {s : State} (h : BaysConsistent s)
    (sent : tripPending c s.bays[b] = true) : exec (.protectionTrip b c) s = .next (settle (faultBay b (tripFault c) s)) ∧
      FaultedBy b (tripFault c) s (settle (faultBay b (tripFault c) s)) := by
  have hp : powered s.bays[b].state = true := by
    cases c with
    | overcurrent => exact (h.record b).ocTrip sent
    | overtemp => exact (h.record b).otTrip sent
  have idle : Follows b (faultBay b (tripFault c) s) (faultBay b (tripFault c) s) :=
    .of_frame rfl ⟨rfl, rfl, rfl⟩ rfl rfl rfl rfl fun c _ => .refl c _
  refine ⟨?_, faultedBy_of_follows idle rfl (faultBay_keeps b _ s hp h).queued⟩
  change execProtectionTrip b c s = _
  unfold execProtectionTrip
  rw [sent, hp]
  rfl

/-- Settles O27: the sensed conditions leave the part at rest, an expiry owes only the end of its step, and a trip that was
sent finds its bay with power. -/
theorem overcurrentIsLatchedAndTripsFault : Obligations.OvercurrentIsLatchedAndTripsFault := by
  refine ⟨fun b s h => ⟨ocConditionAsserted_starts h, ocConditionAsserted_ignored h, ?_⟩,
    fun b s e h hp hf => ocFilterExpiry_persists h hp hf, fun b c s h => ⟨fun sent => ?_, fun unsent => ?_⟩⟩
  · exact congrArg Host.Outcome.next (settle_withSense h (put s.power.ocIn b false) (put s.power.ocFilter b .clear))
  · obtain ⟨run, faulted⟩ := protectionTrip_faults h sent
    exact ⟨_, run, faulted.left, faulted.state, faulted.alert, faulted.fault.trans (by cases c <;> rfl)⟩
  · change execProtectionTrip b c s = _
    unfold execProtectionTrip
    rw [unsent]
    rfl

end Sys2Proof.Machine

namespace Sys2Proof.Machine

/-! ### POWER_OFF and POWER_CYCLE (R31, R32) -/

/-- The request that is served is no part of what leaving power says. -/
theorem LeftPower.of_taken {b : Bay} {p : UpPort} {s t : State} (h : LeftPower b (takeRequest p s) t) : LeftPower b s t :=
  { h with }

theorem respond_queued {u : State} (h : (view u).Queued) (p : UpPort) (req : Frame) (r : Reply) :
    (view (respond p req (u, r))).Queued := (quiet_respond p req (u, r)).1 ▸ h

/-- A request that takes bay `b` out of power and then writes its record. -/
theorem served_unpowered {code : BitVec 16} {n : Nat} {p : UpPort} {req : Frame} {s : State} {b : Bay} {r : Result}
    {f : BayRecord → BayRecord} {body : UpPort → Frame → State → State × Reply} (serves : Serves code n p req s)
    (effect : body p req (takeRequest p s) = (modBay b f (leavePower b (takeRequest p s)), ⟨r, []⟩))
    (queued : (view (modBay b f (leavePower b (takeRequest p s)))).Queued)
    (stripped : Stripped s.bays[b] (f (unpowerRecord s.bays[b])))
    (off : powered (f (unpowerRecord s.bays[b])).state = false) (out : (f (unpowerRecord s.bays[b])).state ≠ .queued) :
    ∃ t, serveCode code n body s = .next t ∧ LeftPower b s t ∧ t.bays[b] = f (unpowerRecord s.bays[b]) ∧
      Responded p req r [] s t ∧ t.mgmt.requests = (takeRequest p s).mgmt.requests := by
  have drained := ((leavePower_drained b (takeRequest p s)).follow (modBay_follows b f _)).follow
    (respond_follows b p req ⟨r, []⟩ _)
  have record : (respond p req (modBay b f (leavePower b (takeRequest p s)), ⟨r, []⟩)).bays[b] =
      f (unpowerRecord s.bays[b]) := by
    rw [respond_bays, modBay_bays, leavePower_bays, upd_upd, getElem_upd_same]
    rfl
  have still := respond_queued queued p req ⟨r, []⟩
  have kept := unadmitted_of_state (b := b) still (by rw [record]; exact out)
  have mgmt : (modBay b f (leavePower b (takeRequest p s))).mgmt = (takeRequest p s).mgmt := by
    rw [modBay_mgmt, leavePower_mgmt]
  have free : (modBay b f (leavePower b (takeRequest p s))).mgmt.held = none := by
    have taken : (takeRequest p s).mgmt.held = s.mgmt.held := rfl
    rw [mgmt, taken, nextRequest_free serves.next]
  have strap : (modBay b f (leavePower b (takeRequest p s))).addrStrap = s.addrStrap := by
    rw [modBay_addrStrap, leavePower_addrStrap, takeRequest_addrStrap]
  have grows : Grows s (modBay b f (leavePower b (takeRequest p s))) :=
    (Grows.of_up rfl).trans ((leavePower_grows b (takeRequest p s)).trans (.of_up rfl))
  refine ⟨_, by rw [serveCode_of_serves body serves, effect], (drained.leftPower still kept ?_ ?_).of_taken, ?_,
    respond_responded grows free strap, ?_⟩
  · rw [record]; exact off
  · rw [record]; exact stripped
  · rw [kept.record, record]
  · rw [settle_mgmt, respond_mgmt_requests, mgmt]

/-- The record of a bay that POWER_OFF takes to OFF. -/
def offRecord (hold : Option UpPort) (r : BayRecord) : BayRecord :=
  { r with state := .off, hold := hold, cycleTimer := none }

theorem powerOffBay_powered {p : UpPort} {flag : Bool} {b : Bay} {s : State} (hp : powered s.bays[b].state = true) :
    powerOffBay p flag b s = (modBay b (offRecord (if flag then some p else none)) (leavePower b s), ⟨.ok, []⟩) := by
  unfold powerOffBay
  rcases (powered_iff _).1 hp with hx | hx <;> rw [hx] <;> rfl

theorem powerCycleBay_powered {n : Nat} {b : Bay} {s : State} (hp : powered s.bays[b].state = true) :
    powerCycleBay n b s = (startCycle (max 1 n) b s, ⟨okOr (decide (n = 0)), []⟩) := by
  unfold powerCycleBay
  rcases (powered_iff _).1 hp with hx | hx <;> rw [hx] <;> rfl

/-- The hold that POWER_OFF leaves names the requester when the flag is set. -/
theorem hold_eq (w : Word) (p : UpPort) :
    (if decide (w ≠ 0) = true then some p else none) = if w = 0 then none else some p := by
  by_cases h : w = 0
  · rw [if_neg (by rw [decide_eq_true_eq]; exact fun k => k h), if_pos h]
  · rw [if_pos (decide_eq_true h), if_neg h]

section
variable {p : UpPort} {req : Frame} {b : Bay} {s : State}

theorem powerOffBody_named (named : (arg req 0).toNat = b.val) (u : State) :
    powerOffBody p req u = powerOffBay p (decide (arg req 1 ≠ 0)) b u := withBay_named named u _

theorem powerCycleBody_named (named : (arg req 0).toNat = b.val) (u : State) :
    powerCycleBody p req u = powerCycleBay ((arg req 1).toNat % 256) b u := withBay_named named u _

theorem powerOff_queued (h : AtRest s) (hb : BaysConsistent s) (serves : Serves 0x0111 2 p req s)
    (named : (arg req 0).toNat = b.val) (hx : s.bays[b].state = .queued) :
    exec .powerOff s = .next (finish (attempt (answered p req .ok [] (requeued b
      (fun r => { r with state := .off, hold := if arg req 1 = 0 then none else some p }) (dropEntry b s.power.queue)
      (takeRequest p s))))) := by
  have timer : s.bays[b].cycleTimer = none := (hb.record b).noCycle (by rw [hx]; exact BayState.noConfusion)
  have records : upd s.bays b (offRecord (if arg req 1 = 0 then none else some p)) =
      upd s.bays b (fun r => { r with state := .off, hold := if arg req 1 = 0 then none else some p }) := by
    refine upd_congr _ _ _ _ ?_
    unfold offRecord
    rw [timer]
  have effect : powerOffBody p req (takeRequest p s) = (ask (requeued b
      (fun r => { r with state := .off, hold := if arg req 1 = 0 then none else some p }) (dropEntry b s.power.queue)
      (takeRequest p s)), ⟨.ok, []⟩) := by
    rw [powerOffBody_named named]
    unfold powerOffBay requeued
    rw [takeRequest_bays, hx, ← records, ← hold_eq]
    rfl
  exact served_requeued (body := powerOffBody) h serves effect (by rw [hx]; exact BayState.noConfusion) BayState.noConfusion

theorem powerOff_cycling (h : AtRest s) (serves : Serves 0x0111 2 p req s) (named : (arg req 0).toNat = b.val)
    (hx : s.bays[b].state = .cycling) : exec .powerOff s = .next (drivePins (answered p req .ok []
      (modBay b (offRecord (if arg req 1 = 0 then none else some p)) (takeRequest p s)))) := by
  have before (x : BayState) (ne : x ≠ .cycling) : s.bays[b].state ≠ x := by rw [hx]; exact ne.symm
  have waits : Waits (modBay b (offRecord (if arg req 1 = 0 then none else some p)) (takeRequest p s)) :=
    h.waits serves.next rfl rfl rfl rfl rfl rfl rfl
      (readingKept_upd b (offRecord _) rfl (before _ BayState.noConfusion) BayState.noConfusion)
  have effect : powerOffBody p req (takeRequest p s) = (modBay b (offRecord (if arg req 1 = 0 then none else some p))
      (takeRequest p s), ⟨.ok, []⟩) := by
    rw [powerOffBody_named named]
    unfold powerOffBay arriveOff
    rw [takeRequest_bays, hx, hold_eq]
    rfl
  have alert : driveAlert (modBay b (offRecord (if arg req 1 = 0 then none else some p)) (takeRequest p s)) =
      modBay b (offRecord (if arg req 1 = 0 then none else some p)) (takeRequest p s) := by
    refine (driveAlert_eq_self_iff _).2 (.trans ?_ ((driveAlert_eq_self_iff s).1 h.alert))
    refine alertCondition_of_faults rfl fun c => ?_
    rw [modBay_bays, takeRequest_bays, getElem_upd]
    split
    · next e =>
      subst e
      exact iff_of_false BayState.noConfusion (before _ BayState.noConfusion)
    · exact Iff.rfl
  have served := waits.served serves effect
  rw [answered_driveAlert alert] at served
  exact served

theorem powerOff_powered (hb : BaysConsistent s) (serves : Serves 0x0111 2 p req s)
    (named : (arg req 0).toNat = b.val) (hp : powered s.bays[b].state = true) :
    ∃ t, exec .powerOff s = .next t ∧ LeftPower b s t ∧
      t.bays[b] = offRecord (if arg req 1 = 0 then none else some p) (unpowerRecord s.bays[b]) ∧ Responded p req .ok [] s t ∧
      t.mgmt.requests = (takeRequest p s).mgmt.requests := by
  have effect := (powerOffBody_named (p := p) named (takeRequest p s)).trans (powerOffBay_powered (s := takeRequest p s) hp)
  have keeps := powerOffBay_keeps p (decide (arg req 1 ≠ 0)) b (takeRequest p s)
  rw [powerOffBay_powered (s := takeRequest p s) hp, hold_eq] at keeps
  rw [hold_eq] at effect
  have taken : BaysConsistent (takeRequest p s) := Still.keeps (s := s) ⟨rfl, rfl⟩ hb
  exact served_unpowered (body := powerOffBody) serves effect (keeps taken).queued
    { stripped_unpower s.bays[b] with bare := { unpowerRecord_bare s.bays[b] with } } rfl BayState.noConfusion

theorem powerOff_holds (h : AtRest s) (serves : Serves 0x0111 2 p req s) (named : (arg req 0).toNat = b.val)
    (hx : s.bays[b].state = .off) (flag : arg req 1 ≠ 0) (free : s.bays[b].hold = none) (timer : s.bays[b].cycleTimer = none) :
    exec .powerOff s = .next (answered p req .ok []
      (withBays (upd s.bays b (fun r => { r with hold := some p })) (takeRequest p s))) := by
  have records : upd s.bays b (offRecord (some p)) = upd s.bays b (fun r => { r with hold := some p }) := by
    refine upd_congr _ _ _ _ ?_
    unfold offRecord
    rw [timer, ← hx]
  have effect : powerOffBody p req (takeRequest p s) =
      (withBays (upd s.bays b (fun r => { r with hold := some p })) (takeRequest p s), ⟨.ok, []⟩) := by
    rw [powerOffBody_named named]
    unfold powerOffBay withBays
    rw [takeRequest_bays, hx, decide_eq_true flag, if_pos rfl, free, ← records]
    rfl
  have unseen : Unseen s (withBays (upd s.bays b (fun r => { r with hold := some p })) (takeRequest p s)) := by
    refine withBays_unseen _ fun c => ?_
    rw [getElem_upd]
    split
    · next e => subst e; exact ⟨rfl, rfl⟩
    · exact ⟨rfl, rfl⟩
  exact served_atRest (body := powerOffBody) (unseen.atRest h h.asked) (unseen.held.trans (nextRequest_free serves.next))
    serves effect

theorem powerOff_already (h : AtRest s) (serves : Serves 0x0111 2 p req s) (named : (arg req 0).toNat = b.val)
    (hx : s.bays[b].state = .off) (holds : arg req 1 = 0 ∨ s.bays[b].hold = some p) :
    exec .powerOff s = .next (answered p req .already [] (takeRequest p s)) := by
  have effect : powerOffBody p req (takeRequest p s) = (takeRequest p s, ⟨.already, []⟩) := by
    rw [powerOffBody_named named]
    unfold powerOffBay
    rw [takeRequest_bays, hx]
    dsimp only
    split
    · next flag =>
      rw [holds.resolve_left (of_decide_eq_true flag)]
      exact if_pos rfl
    · rfl
  exact unchanged_served (body := powerOffBody) h serves effect

theorem powerOff_held (h : AtRest s) (serves : Serves 0x0111 2 p req s) (named : (arg req 0).toNat = b.val)
    (hx : s.bays[b].state = .off) (flag : arg req 1 ≠ 0) (other : s.bays[b].hold = some (otherUp p)) :
    exec .powerOff s = .next (answered p req .held [] (takeRequest p s)) := by
  have ne : otherUp p ≠ p := by cases p <;> exact UpPort.noConfusion
  have effect : powerOffBody p req (takeRequest p s) = (takeRequest p s, ⟨.held, []⟩) := by
    rw [powerOffBody_named named]
    unfold powerOffBay
    rw [takeRequest_bays, hx, decide_eq_true flag, if_pos rfl, other]
    exact if_neg ne
  exact unchanged_served (body := powerOffBody) h serves effect

theorem powerCycle_powered (hb : BaysConsistent s) (serves : Serves 0x0112 2 p req s) (named : (arg req 0).toNat = b.val)
    (hp : powered s.bays[b].state = true) : ∃ t, exec .powerCycle s = .next t ∧ LeftPower b s t ∧
      t.bays[b] = { unpowerRecord s.bays[b] with
        state := .cycling, cycleTimer := some (s.now + 100 * max 1 ((arg req 1).toNat % 256)) } ∧
      Responded p req (okOr (decide ((arg req 1).toNat % 256 = 0))) [] s t ∧
      t.mgmt.requests = (takeRequest p s).mgmt.requests := by
  have effect := (powerCycleBody_named (p := p) named (takeRequest p s)).trans
    (powerCycleBay_powered (s := takeRequest p s) hp)
  have keeps := powerCycleBay_keeps ((arg req 1).toNat % 256) b (takeRequest p s)
  rw [powerCycleBay_powered (s := takeRequest p s) hp] at keeps
  have taken : BaysConsistent (takeRequest p s) := Still.keeps (s := s) ⟨rfl, rfl⟩ hb
  exact served_unpowered (body := powerCycleBody) serves effect (keeps taken).queued
    { stripped_unpower s.bays[b] with bare := { unpowerRecord_bare s.bays[b] with } } rfl BayState.noConfusion

end

/-- Settles O45: outside power a request writes the bay's record, and brings an attempt when the bay leaves the queue; a bay
with power leaves power first. -/
theorem powerOffAndCycleStopTheBay : Obligations.PowerOffAndCycleStopTheBay := by
  refine ⟨fun p req b s h hb serves named => ⟨powerOff_queued h hb serves named, powerOff_cycling h serves named, fun hp => ?_,
      powerOff_already h serves named, fun hx flag free => ?_, powerOff_held h serves named⟩,
    fun p req b s h hb serves named hp => ?_⟩
  · obtain ⟨t, run, left, record, responded, requests⟩ := powerOff_powered hb serves named hp
    exact ⟨t, run, left, by rw [record]; rfl, by rw [record]; rfl, responded, requests⟩
  · have timer : s.bays[b].cycleTimer = none := (hb.record b).noCycle (by rw [hx]; exact BayState.noConfusion)
    exact powerOff_holds h serves named hx flag free timer
  · obtain ⟨t, run, left, record, responded, requests⟩ := powerCycle_powered hb serves named hp
    have hold : (unpowerRecord s.bays[b]).hold = none :=
      (hb.record b).noHold fun off => by rw [off] at hp; cases hp
    have result : okOr (decide ((arg req 1).toNat % 256 = 0)) = if (arg req 1).toNat % 256 = 0 then .okClamped else .ok := by
      unfold okOr
      rw [if_congr decide_eq_true_iff rfl rfl]
    exact ⟨t, run, left, by rw [record], by rw [record], by rw [record]; exact hold,
      by rw [← result]; exact responded, requests⟩

end Sys2Proof.Machine

namespace Sys2Proof.Machine

/-! ### Latches, counters and bay queues at the end of a step -/

theorem latchEncl_latches (k : EnclEvent) (n : Nat) (s : State) :
    (latchEncl k n s).ev.enclLatches = put s.ev.enclLatches k.idx true := by
  unfold latchEncl
  split
  · next h =>
    refine tab_ext fun j => ?_
    rw [getElem_put]
    split
    · next hj => rw [hj]; exact h
    · rfl
  · exact (announce_keeps _ _).2.1

theorem latchEncl_sets (k : EnclEvent) (n : Nat) (s : State) : (latchEncl k n s).ev.enclLatches[k.idx] = true := by
  rw [latchEncl_latches, getElem_put_same]

/-- Enclosure latches that were SET stay SET. -/
def EnclKept (s t : State) : Prop := ∀ k : EnclEvent, s.ev.enclLatches[k.idx] = true → t.ev.enclLatches[k.idx] = true

theorem EnclKept.of_eq {s t : State} (h : t.ev.enclLatches = s.ev.enclLatches) : EnclKept s t := fun k hk => by
  rw [h]
  exact hk

theorem EnclKept.trans {s t u : State} (h : EnclKept s t) (k : EnclKept t u) : EnclKept s u := fun x hx => k x (h x hx)

theorem latchEncl_enclKept (k : EnclEvent) (n : Nat) (s : State) : EnclKept s (latchEncl k n s) := fun j hj => by
  rw [latchEncl_latches, getElem_put]
  split
  · rfl
  · exact hj

theorem setCharge_enclKept (b : Bay) (v : Nat) (s : State) : EnclKept s (setCharge b v s) := by
  have lowered (u : State) : EnclKept u (stepDown u) := by
    unfold stepDown
    split
    · exact .of_eq rfl
    · dsimp only
      split
      · exact fun k hk => latchEncl_enclKept _ _ _ k hk
      · exact .of_eq rfl
  unfold setCharge
  dsimp only
  split
  · exact fun k hk => lowered _ k hk
  · exact .of_eq rfl

theorem admitBay_enclKept (b : Bay) (s : State) : EnclKept s (admitBay b s) := by
  have charged (x : Nat) (y : OcFilter) (f : BayRecord → BayRecord) (q : List QueueEntry) :
      EnclKept s (setFilter b y (setCharge b x (modBay b f { s with power := { s.power with queue := q } }))) :=
    fun k hk => setCharge_enclKept b x (modBay b f { s with power := { s.power with queue := q } }) k hk
  have timed (x : Option Nat) (u : State) (h : EnclKept s u) :
      EnclKept s { u with power := { u.power with stagger := x } } := h
  unfold admitBay
  dsimp only
  split
  · exact timed _ _ (charged _ _ _ _)
  · exact charged _ _ _ _

theorem attempt_enclKept (s : State) : EnclKept s (attempt s) :=
  attempt_induction (EnclKept s) (fun t b _ _ h => h.trans (admitBay_enclKept b t)) s (.of_eq rfl)

/-- Notices that go join the priority queues, and move nothing else of the forwarding engine and the latches. -/
structure NoticesMoved (s t : State) : Prop where
  fwd : t.fwd = { s.fwd with up := t.fwd.up }
  up : ∀ u : UpPort, ∃ rest : List Held,
    t.fwd.up[upIdx u] = { s.fwd.up[upIdx u] with priority := s.fwd.up[upIdx u].priority ++ rest }
  bayLatches : t.ev.bayLatches = s.ev.bayLatches
  enclLatches : t.ev.enclLatches = s.ev.enclLatches
  subscribed : t.ev.subscribed = s.ev.subscribed

theorem NoticesMoved.of_eq {s t : State} (fwd : t.fwd = s.fwd) (bayLatches : t.ev.bayLatches = s.ev.bayLatches)
    (enclLatches : t.ev.enclLatches = s.ev.enclLatches) (subscribed : t.ev.subscribed = s.ev.subscribed) :
    NoticesMoved s t where
  fwd := by rw [fwd]
  up u := ⟨[], by rw [fwd, List.append_nil]⟩
  bayLatches := bayLatches
  enclLatches := enclLatches
  subscribed := subscribed

theorem NoticesMoved.trans {s t u : State} (h : NoticesMoved s t) (k : NoticesMoved t u) : NoticesMoved s u where
  fwd := by rw [k.fwd, h.fwd]
  up p := by
    obtain ⟨l, hl⟩ := h.up p
    obtain ⟨r, hr⟩ := k.up p
    exact ⟨l ++ r, by rw [hr, hl, List.append_assoc]⟩
  bayLatches := k.bayLatches.trans h.bayLatches
  enclLatches := k.enclLatches.trans h.enclLatches
  subscribed := k.subscribed.trans h.subscribed

theorem pushPriority_moved (p : UpPort) (x : Held) (s : State) : NoticesMoved s (pushPriority p x s) where
  fwd := rfl
  up u := by
    rw [pushPriority_up]
    by_cases e : u = p
    · subst e
      exact ⟨[x], getElem_upd_same _ _ _⟩
    · exact ⟨[], by rw [getElem_upd_ne _ _ (upIdx_ne e), List.append_nil]⟩
  bayLatches := rfl
  enclLatches := rfl
  subscribed := rfl

theorem releaseLoop_moved (n : Nat) (p : UpPort) (s : State) : NoticesMoved s (releaseLoop n p s) := by
  induction n generalizing s with
  | zero => exact .of_eq rfl rfl rfl rfl
  | succ n ih =>
    rw [releaseLoop]
    split
    · next x rest l _ _ =>
      split
      · have taken : NoticesMoved s { s with ev := { s.ev with notices := put s.ev.notices (upIdx p) rest } } :=
          .of_eq rfl rfl rfl rfl
        exact (taken.trans (pushPriority_moved p _ _)).trans (ih _)
      · exact .of_eq rfl rfl rfl rfl
    · exact .of_eq rfl rfl rfl rfl

theorem release_moved (p : UpPort) (s : State) : NoticesMoved s (release p s) := releaseLoop_moved _ p s

theorem finish_moved (s : State) : NoticesMoved s (finish s) := by
  have alert (u : State) : NoticesMoved u (driveAlert u) := .of_eq (driveAlert_fwd u) rfl rfl rfl
  have pins (u : State) : NoticesMoved u (drivePins u) := .of_eq (drivePins_fwd u) rfl rfl rfl
  exact ((release_moved .u0 s).trans (release_moved .u1 _)).trans ((alert _).trans (pins _))

/-- What the end of a step keeps of the latches and of the forwarding engine. -/
structure EndKept (s t : State) : Prop where
  bayLatches : t.ev.bayLatches = s.ev.bayLatches
  encl : EnclKept s t
  counters : t.fwd.counters = s.fwd.counters
  bayQueue : t.fwd.bayQueue = s.fwd.bayQueue

theorem settle_endKept (s : State) : EndKept s (settle s) := by
  have refreshed : (refreshBlocks (refreshHot s)).ev = s.ev := by rw [refreshBlocks_ev, refreshHot_ev]
  have tried (u : State) : (attemptIfAsked u).ev.bayLatches = u.ev.bayLatches ∧ EnclKept u (attemptIfAsked u) := by
    unfold attemptIfAsked
    split
    · exact ⟨attempt_bayLatches _, fun k hk => attempt_enclKept _ k hk⟩
    · exact ⟨rfl, .of_eq rfl⟩
  obtain ⟨latches, encl⟩ := tried (refreshBlocks (refreshHot s))
  have forwarding : (attemptIfAsked (refreshBlocks (refreshHot s))).fwd = s.fwd := by simp
  have moved := finish_moved (attemptIfAsked (refreshBlocks (refreshHot s)))
  rw [settle_eq]
  exact
    { bayLatches := by rw [moved.bayLatches, latches, refreshed]
      encl := ((EnclKept.of_eq (by rw [refreshed])).trans encl).trans (.of_eq moved.enclLatches)
      counters := by rw [moved.fwd, forwarding]
      bayQueue := by rw [moved.fwd, forwarding] }

end Sys2Proof.Machine

namespace Sys2Proof.Machine

/-! ### Learning (R94, R95, R96) -/

theorem staticHolding_none {a : Addr} {s : State} (h : ∀ i : Fin 30, staticAddr s i ≠ some a) : staticHolding a s = none := by
  unfold staticHolding
  refine List.findSome?_eq_none_iff.2 fun i _ => ?_
  have other := h i
  unfold staticAddr at other
  cases hs : s.route.statics[i] with
  | none => rfl
  | some x =>
    rw [hs] at other
    exact if_neg fun e => other (congrArg some e)

theorem staticHolding_some {a : Addr} {s : State} {i : Fin 30} {q : Port} (h : staticHolding a s = some (i, q)) :
    s.route.statics[i] = some ⟨a, q⟩ := by
  obtain ⟨j, -, hj⟩ := List.exists_of_findSome?_eq_some h
  cases hs : s.route.statics[j] with
  | none => rw [hs] at hj; cases hj
  | some x =>
    rw [hs] at hj
    dsimp only at hj
    split at hj
    · next e =>
      cases hj
      rw [hs, ← e]
    · cases hj

/-- The slot that holds an address is the only one (R91). -/
theorem staticHolding_eq {a : Addr} {s : State} {i : Fin 30} {q : Port} (hd : RoutesDistinct s)
    (h : s.route.statics[i] = some ⟨a, q⟩) : staticHolding a s = some (i, q) := by
  have here : staticAddr s i = some a := by
    unfold staticAddr
    rw [h]
    rfl
  cases hs : staticHolding a s with
  | none =>
    have missed := List.findSome?_eq_none_iff.1 hs i (List.mem_finRange i)
    rw [h] at missed
    dsimp only at missed
    rw [if_pos rfl] at missed
    cases missed
  | some x =>
    obtain ⟨j, r⟩ := x
    have found := staticHolding_some hs
    have there : staticAddr s j = some a := by
      unfold staticAddr
      rw [found]
      rfl
    have same : j = i := hd.statics j i a there here
    subst same
    rw [h] at found
    cases found
    rfl

theorem staticHolding_congr {a : Addr} {s u : State} (h : u.route = s.route) : staticHolding a u = staticHolding a s := by
  unfold staticHolding
  rw [h]

theorem learn_free {p : Port} {a : Addr} {s : State} (h : staticHolding a s = none) :
    learn p a s = { s with route := { s.route with learned := put s.route.learned (portIdx p) (some ⟨a, none⟩) } } := by
  unfold learn
  rw [h]

theorem learn_displaces {p q : Port} {a : Addr} {s : State} {i : Fin 30} (h : staticHolding a s = some (i, q)) :
    learn p a s = latchEncl .routeDisplaced (18 + i.val) { s with route :=
      { learned := put s.route.learned (portIdx p) (some ⟨a, some ⟨18 + i.val, q⟩⟩)
        statics := put s.route.statics i none } } := by
  unfold learn
  rw [h]

/-- Learning writes the route table and the event unit alone. -/
structure RouteWritten (s t : State) : Prop where
  now : t.now = s.now
  line : t.line = s.line
  bays : t.bays = s.bays
  power : t.power = s.power
  fwd : t.fwd = s.fwd
  therm : t.therm = s.therm
  cool : t.cool = s.cool
  bayLatches : t.ev.bayLatches = s.ev.bayLatches
  encl : EnclKept s t

theorem learn_written (p : Port) (a : Addr) (s : State) : RouteWritten s (learn p a s) := by
  cases h : staticHolding a s with
  | none =>
    rw [learn_free h]
    exact ⟨rfl, rfl, rfl, rfl, rfl, rfl, rfl, rfl, .of_eq rfl⟩
  | some x =>
    rw [learn_displaces h]
    exact ⟨latchEncl_now _ _ _, latchEncl_line _ _ _, latchEncl_bays _ _ _, latchEncl_power _ _ _, latchEncl_fwd _ _ _,
      latchEncl_therm _ _ _, latchEncl_cool _ _ _, latchEncl_bayLatches _ _ _, fun k hk => latchEncl_enclKept _ _ _ k hk⟩

theorem RouteWritten.aside {s t : State} (h : RouteWritten s t) (b : Bay) : Aside b s t :=
  .of_frame (by rw [h.bays]) h.power h.line h.now h.fwd fun k hk => by rw [h.bayLatches]; exact hk

/-- What the route table holds once port `p` has learned an address: its slot holds it, the other learned slots stay, and no
static slot holds it (R94, R95). -/
structure LearnedAt (p : Port) (a : Addr) (s t : State) : Prop where
  slot : learnedAddr t p = some a
  others : ∀ q : Port, q ≠ p → t.route.learned[portIdx q] = s.route.learned[portIdx q]
  retired : ∀ i : Fin 30, staticAddr s i = some a → t.route.statics[i] = none
  kept : ∀ i : Fin 30, staticAddr s i ≠ some a → t.route.statics[i] = s.route.statics[i]

theorem learn_learned {p : Port} {a : Addr} {s : State} (hd : RoutesDistinct s) : LearnedAt p a s (learn p a s) := by
  cases h : staticHolding a s with
  | none =>
    rw [learn_free h]
    refine ⟨?_, fun q hq => getElem_put_ne _ _ (portIdx_ne hq), fun i hi => ?_, fun i _ => rfl⟩
    · unfold learnedAddr
      rw [getElem_put_same]
      rfl
    · unfold staticAddr at hi
      obtain ⟨x, hx, e⟩ := Option.map_eq_some_iff.1 hi
      have held := staticHolding_eq hd (i := i) (q := x.port) (a := a) (by rw [hx, ← e])
      rw [h] at held
      cases held
  | some x =>
    obtain ⟨j, r⟩ := x
    have there : staticAddr s j = some a := by
      unfold staticAddr
      rw [staticHolding_some h]
      rfl
    rw [learn_displaces h]
    refine ⟨?_, fun q hq => ?_, fun i hi => ?_, fun i hi => ?_⟩
    · unfold learnedAddr
      rw [latchEncl_route, getElem_put_same]
      rfl
    · rw [latchEncl_route, getElem_put_ne _ _ (portIdx_ne hq)]
    · rw [latchEncl_route, hd.statics i j a hi there, getElem_put_same]
    · have ne : i ≠ j := fun e => hi (e ▸ there)
      rw [latchEncl_route, getElem_put_ne _ _ ne]

theorem learn_route_congr (p : Port) (a : Addr) {s u : State} (h : u.route = s.route) :
    (learn p a u).route = (learn p a s).route := by
  have same := staticHolding_congr (a := a) h
  cases hs : staticHolding a s with
  | none => rw [learn_free hs, learn_free (same.trans hs), h]
  | some x =>
    rw [learn_displaces hs, learn_displaces (same.trans hs), latchEncl_route, latchEncl_route, h]

theorem LearnedAt.congr {p : Port} {a : Addr} {s t u : State} (h : LearnedAt p a s t) (e : u.route = t.route) :
    LearnedAt p a s u where
  slot := by unfold learnedAddr; rw [e]; exact h.slot
  others q hq := by rw [e]; exact h.others q hq
  retired i hi := by rw [e]; exact h.retired i hi
  kept i hi := by rw [e]; exact h.kept i hi

/-! ### The tests of a drive's HELLO (R27, R28, R29) -/

theorem mem_portsInOrder (p : Port) : p ∈ portsInOrder := by
  cases p with
  | up u =>
    cases u with
    | u0 => exact List.mem_cons_self
    | u1 => exact List.mem_cons_of_mem _ List.mem_cons_self
  | bay b => exact List.mem_cons_of_mem _ (List.mem_cons_of_mem _ (List.mem_map_of_mem (mem_allBays b)))

theorem addressTaken_iff {p : Port} {a : Addr} {s : State} : addressTaken p a s = true ↔
    a = switchAddr s ∨ ∃ q : Port, q ≠ p ∧ learnedAddr s q = some a := by
  have holds (q : Port) : (match s.route.learned[portIdx q] with
      | some l => decide (l.addr = a)
      | none => false) = true ↔ learnedAddr s q = some a := by
    unfold learnedAddr
    cases s.route.learned[portIdx q] with
    | none => exact iff_of_false Bool.false_ne_true (Option.some_ne_none a).symm
    | some l => rw [decide_eq_true_iff]; exact Option.some_inj.symm
  unfold addressTaken learnedElsewhere
  rw [Bool.or_eq_true, decide_eq_true_iff, List.any_eq_true]
  refine or_congr Iff.rfl ⟨?_, ?_⟩
  · rintro ⟨q, -, hq⟩
    obtain ⟨ne, held⟩ := Bool.and_eq_true_iff.1 hq
    exact ⟨q, of_decide_eq_true ne, (holds q).1 held⟩
  · rintro ⟨q, ne, held⟩
    exact ⟨q, mem_portsInOrder q, Bool.and_eq_true_iff.2 ⟨decide_eq_true ne, (holds q).2 held⟩⟩

theorem overBudget_iff {b : Bay} {c : ClassNo} {s : State} : overBudget b c s = true ↔
    ¬committed s - s.power.charge[b] + s.power.classes[c].runDraw ≤ s.power.live :=
  decide_eq_true_iff.trans Nat.not_le.symm

theorem screenDriveHello_some {f : Frame} {a : Announcement} (h : screenDriveHello f = some a) : a.addr = f.src ∧
    a.cls.val = helloClass f ∧ a.profile.val = helloProfile f ∧ f.words = 2 ∧ helloRole f = 1 := by
  unfold screenDriveHello at h
  split at h
  · cases h
  · next words =>
    split at h
    · cases h
    · next role =>
      split at h
      · split at h
        · cases h
          exact ⟨rfl, rfl, rfl, not_not.1 words, not_not.1 role⟩
        · cases h
      · cases h

theorem screenDriveHello_none {f : Frame}
    (h : f.words ≠ 2 ∨ helloRole f ≠ 1 ∨ 8 ≤ helloClass f ∨ 8 ≤ helloProfile f) :
    screenDriveHello f = none := by
  cases hs : screenDriveHello f with
  | none => rfl
  | some a =>
    obtain ⟨-, cls, profile, words, role⟩ := screenDriveHello_some hs
    have small := a.cls.isLt
    have low := a.profile.isLt
    omega

/-- A HELLO on an enabled bay port that holds nothing back is handed to the bay controller. -/
theorem driveHello_taken {b : Bay} {bytes : List Byte} {f : Frame} {s : State} (outside : heldBack (.bay b) s = false)
    (on : enabled b s = true) (parsed : parseFrame bytes = some f) (hello : f.kind = .hello) :
    exec (.driveHello b bytes) s = .next (settle (helloAtBay b f s)) := by
  have taken : arrive (.bay b) bytes s = helloAtBay b f s := by
    unfold arrive takeIn classify
    dsimp only
    rw [if_pos on, parsed]
    exact if_pos hello
  change arrival (.bay b) bytes s = _
  unfold arrival
  rw [outside, taken]
  rfl

end Sys2Proof.Machine

namespace Sys2Proof.Machine

/-! ### HELLOs that are refused (R28, R29) -/

theorem Follows.trans {b : Bay} {u v w : State} (h : Follows b u v) (k : Follows b v w) : Follows b u w where
  charge := k.charge.trans h.charge
  filter := k.filter.trans h.filter
  classes := k.classes.trans h.classes
  port hu := k.port (h.port hu)
  route := k.route.trans h.route
  readings := k.readings.trans h.readings
  lights := k.lights.trans h.lights
  cooling := k.cooling.trans h.cooling
  others c hc := (h.others c hc).trans (k.others c hc)

/-- A refused HELLO faults the bay with its cause, and latches the event (R28, R29). -/
theorem refuseHello_faults {b : Bay} {c : FaultCause} {k : BayEvent} {s : State} (h : BaysConsistent s)
    (hp : powered s.bays[b].state = true) : FaultedBy b c s (settle (refuseHello b c k s)) ∧
      ((settle (refuseHello b c k s)).ev.bayLatches[b])[k.idx] = true := by
  have hq : (view (refuseHello b c k s)).Queued := (refuseHello_keeps b c k s hp h).queued
  have follows : Follows b (faultBay b c s) (refuseHello b c k s) :=
    (latchBay_follows b k _).trans (count_follows b (.bay b) .discarded 1 _)
  have record : (refuseHello b c k s).bays[b] = (faultBay b c s).bays[b] := by
    unfold refuseHello
    rw [count_bays, latchBay_bays]
  have latched : ((refuseHello b c k s).ev.bayLatches[b])[k.idx] = true := by
    unfold refuseHello
    rw [count_ev, latchBay_sets]
  exact ⟨faultedBy_of_follows follows record hq, settle_latch hq latched⟩

/-! ### HELLOs that are accepted (R28, R29) -/

/-- Bay `b` has taken a HELLO in, and nothing else has changed but the route table and what the HELLO latches. -/
structure HelloTaken (b : Bay) (r : BayRecord) (draw : Nat) (s u : State) : Prop where
  record : u.bays[b] = r
  charge : u.power.charge[b] = draw
  others : ∀ c : Bay, c ≠ b → Aside c s u
  fwd : u.fwd = s.fwd
  cool : u.cool = s.cool

theorem chargedHello_taken (b : Bay) (f : BayRecord → BayRecord) (draw : Nat) (s : State) :
    HelloTaken b (f s.bays[b]) draw s (setCharge b draw (modBay b f s)) where
  record := by rw [setCharge_bays, modBay_bays, getElem_upd_same]
  charge := by rw [setCharge_charge, getElem_put_same]
  others c hc := (modBay_aside hc f s).trans (setCharge_aside hc draw _)
  fwd := by rw [setCharge_fwd, modBay_fwd]
  cool := by rw [setCharge_cool, modBay_cool]

theorem HelloTaken.learn {b : Bay} {r : BayRecord} {draw : Nat} {s u : State} (h : HelloTaken b r draw s u) (p : Port)
    (a : Addr) : HelloTaken b r draw s (learn p a u) :=
  have w := learn_written p a u
  { record := by rw [w.bays]; exact h.record
    charge := by rw [w.power]; exact h.charge
    others := fun c hc => (h.others c hc).trans (w.aside c)
    fwd := w.fwd.trans h.fwd
    cool := w.cool.trans h.cool }

theorem HelloTaken.latch {b : Bay} {r : BayRecord} {draw : Nat} {s u : State} (h : HelloTaken b r draw s u) (k : BayEvent) :
    HelloTaken b r draw s (latchBay b k u) where
  record := by rw [latchBay_bays]; exact h.record
  charge := by rw [latchBay_power]; exact h.charge
  others c hc := (h.others c hc).trans (latchBay_aside c b k u)
  fwd := (latchBay_fwd b k u).trans h.fwd
  cool := (latchBay_cool b k u).trans h.cool

theorem HelloTaken.measured {b : Bay} {r : BayRecord} {draw : Nat} {s u : State} (h : HelloTaken b r draw s u)
    (f : ThermalRecord → ThermalRecord) : HelloTaken b r draw s (modTherm b f u) where
  record := h.record
  charge := h.charge
  others c hc := (h.others c hc).trans (.of_frame rfl rfl rfl rfl rfl fun _ hk => hk)
  fwd := h.fwd
  cool := h.cool

theorem HelloTaken.ask {b : Bay} {r : BayRecord} {draw : Nat} {s u : State} (h : HelloTaken b r draw s u) :
    HelloTaken b r draw s (ask u) where
  record := h.record
  charge := h.charge
  others c hc := (h.others c hc).trans (ask_aside c u)
  fwd := h.fwd
  cool := h.cool

/-- The end of the step adds the admissions of other bays. -/
theorem HelloTaken.settled {b : Bay} {r : BayRecord} {draw : Nat} {s u : State} (h : HelloTaken b r draw s u)
    (hq : (view u).Queued) (hr : r.state ≠ .queued) : (settle u).bays[b] = r ∧ (settle u).power.charge[b] = draw ∧
      (∀ c : Bay, c ≠ b → UntouchedOrAdmitted c s (settle u)) ∧ (settle u).fwd.counters = s.fwd.counters ∧
      (settle u).fwd.bayQueue = s.fwd.bayQueue ∧ (settle u).cool = s.cool := by
  have kept := unadmitted_of_state (b := b) hq (by rw [h.record]; exact hr)
  exact ⟨kept.record.trans h.record, kept.charge.trans h.charge,
    fun c hc => ((h.others c hc).trans (settle_aside c u hq)).bay.untouchedOrAdmitted,
    by rw [(settle_endKept u).counters, h.fwd], by rw [(settle_endKept u).bayQueue, h.fwd], by rw [settle_cool, h.cool]⟩

/-- The record of a bay that a HELLO starts. -/
def startedRecord (a : Announcement) (r : BayRecord) : BayRecord :=
  { storeHello a r with state := .online, startTimer := none }

/-- The part of acceptance that comes before ONLINE is latched. -/
def startedHello (b : Bay) (a : Announcement) (s : State) : State :=
  learn (.bay b) a.addr (setCharge b (runDraw a.cls s) (modBay b (startedRecord a) s))

theorem acceptStart_eq (b : Bay) (a : Announcement) (s : State) : acceptStart b a s =
    ask (latchBay b .online (modTherm b (fun _ => ⟨none, 0, 65535, 0, 0⟩) (startedHello b a s))) := rfl

section
variable {b : Bay} {a : Announcement} {s : State}

theorem acceptStart_taken : HelloTaken b (startedRecord a s.bays[b]) (runDraw a.cls s) s (acceptStart b a s) := by
  have learned : HelloTaken b (startedRecord a s.bays[b]) (runDraw a.cls s) s (startedHello b a s) :=
    (chargedHello_taken b (startedRecord a) (runDraw a.cls s) s).learn (.bay b) a.addr
  rw [acceptStart_eq]
  exact ((learned.measured _).latch .online).ask

theorem acceptStart_learned (hd : RoutesDistinct s) : LearnedAt (.bay b) a.addr s (acceptStart b a s) := by
  have before : (setCharge b (runDraw a.cls s) (modBay b (startedRecord a) s)).route = s.route := by
    rw [setCharge_route, modBay_route]
  refine (learn_learned hd).congr ?_
  have asked (u : State) : (ask u).route = u.route := rfl
  rw [acceptStart_eq, asked, latchBay_route, modTherm_route, startedHello, learn_route_congr _ _ before]

theorem acceptStart_reading : (acceptStart b a s).therm.records[b] = ⟨none, 0, 65535, 0, 0⟩ := by
  have asked (u : State) : (ask u).therm = u.therm := rfl
  rw [acceptStart_eq, asked, latchBay_therm]
  exact getElem_upd_same _ _ _

theorem acceptStart_latch : ((acceptStart b a s).ev.bayLatches[b])[BayEvent.online.idx] = true := by
  have asked (u : State) : (ask u).ev = u.ev := rfl
  rw [acceptStart_eq, asked, latchBay_sets]

/-- A HELLO that passes both tests starts the bay (R28). -/
theorem acceptStart_settled (h : BaysConsistent s) (hx : s.bays[b].state = .starting) (hd : RoutesDistinct s) :
    let t := settle (acceptStart b a s)
    t.bays[b] = startedRecord a s.bays[b] ∧ t.power.charge[b] = runDraw a.cls s ∧ LearnedAt (.bay b) a.addr s t ∧
      t.therm.records[b] = ⟨none, 0, 65535, 0, 0⟩ ∧ (t.ev.bayLatches[b])[BayEvent.online.idx] = true ∧
      (∀ c : Bay, c ≠ b → UntouchedOrAdmitted c s t) ∧ t.fwd.counters = s.fwd.counters ∧ t.cool = s.cool := by
  have hq := (acceptStart_keeps b a s hx h).queued
  obtain ⟨record, charge, others, counters, -, cool⟩ := acceptStart_taken.settled hq BayState.noConfusion
  exact ⟨record, charge, (acceptStart_learned hd).congr (settle_route _), by rw [settle_records]; exact acceptStart_reading,
    settle_latch hq acceptStart_latch, others, counters, cool⟩

theorem helloAtBay_starting {f : Frame} (hx : s.bays[b].state = .starting) (screened : screenDriveHello f = some a) :
    helloAtBay b f s = helloStarting b a s := by
  unfold helloAtBay
  rw [screened, hx]

theorem helloAtBay_online {f : Frame} (hx : s.bays[b].state = .online) (screened : screenDriveHello f = some a) :
    helloAtBay b f s = helloOnline b a s := by
  unfold helloAtBay
  rw [screened, hx]

theorem driveHello_starting {bytes : List Byte} {f : Frame} (hx : s.bays[b].state = .starting)
    (outside : heldBack (.bay b) s = false) (parsed : parseFrame bytes = some f) (hello : f.kind = .hello)
    (screened : screenDriveHello f = some a) : exec (.driveHello b bytes) s = .next (settle (helloStarting b a s)) := by
  rw [driveHello_taken outside (by unfold enabled; rw [hx]; rfl) parsed hello, helloAtBay_starting hx screened]

theorem driveHello_online {bytes : List Byte} {f : Frame} (hx : s.bays[b].state = .online)
    (outside : heldBack (.bay b) s = false) (parsed : parseFrame bytes = some f) (hello : f.kind = .hello)
    (screened : screenDriveHello f = some a) : exec (.driveHello b bytes) s = .next (settle (helloOnline b a s)) := by
  rw [driveHello_taken outside (by unfold enabled; rw [hx]; rfl) parsed hello, helloAtBay_online hx screened]

end

/-- Settles O32: the address is tested before the draw, and a HELLO that passes both starts the bay. -/
theorem driveHelloIsJudged : Obligations.DriveHelloIsJudged := by
  refine ⟨fun b bytes f a s h hd hx outside parsed hello screened apart notSwitch fits => ?_,
    fun b bytes f a s h hx outside parsed hello screened => ?_⟩
  · have run := driveHello_starting hx outside parsed hello screened
    unfold helloStarting at run
    have free : ¬addressTaken (.bay b) a.addr s = true := fun taken =>
      (addressTaken_iff.1 taken).elim notSwitch fun ⟨q, ne, held⟩ => apart q ne held
    rw [if_neg free, if_neg fun above => overBudget_iff.1 above fits] at run
    obtain ⟨record, charge, learned, reading, latch, others, counters, cool⟩ := acceptStart_settled (a := a) h hx hd
    exact ⟨_, run, record, charge, learned.slot, learned.retired, learned.kept, learned.others, reading, latch, others,
      counters, cool⟩
  · have run := driveHello_starting hx outside parsed hello screened
    unfold helloStarting at run
    have on : powered s.bays[b].state = true := by rw [hx]; rfl
    refine ⟨fun taken => ?_, fun free above => ?_⟩
    · obtain ⟨faulted, latch⟩ := refuseHello_faults (c := .addressConflict) (k := .addressConflict) h on
      rw [if_pos taken] at run
      exact ⟨_, run, faulted.left, faulted.state, faulted.fault, faulted.alert, latch⟩
    · obtain ⟨faulted, latch⟩ := refuseHello_faults (c := .overbudget) (k := .overbudget) h on
      rw [if_neg (by rw [free]; exact Bool.false_ne_true), if_pos (overBudget_iff.2 (Nat.not_le.2 above))] at run
      exact ⟨_, run, faulted.left, faulted.state, faulted.fault, faulted.alert, latch⟩

end Sys2Proof.Machine

namespace Sys2Proof.Machine

/-! ### HELLOs of ONLINE bays, and HELLOs that are turned away (R27, R29) -/

theorem count_atRest {s : State} (h : AtRest s) (p : Port) (k : CounterKind) (n : Nat) : AtRest (count p k n s) :=
  Unseen.atRest (s := s) ⟨rfl, rfl, rfl, rfl, rfl, rfl, rfl, rfl, rfl, rfl, fun _ => rfl, fun _ => rfl⟩ h h.asked

theorem driveHello_screened {b : Bay} {bytes : List Byte} {f : Frame} {s : State} (h : AtRest s) (on : enabled b s = true)
    (outside : heldBack (.bay b) s = false) (parsed : parseFrame bytes = some f) (hello : f.kind = .hello)
    (fails : f.words ≠ 2 ∨ helloRole f ≠ 1 ∨ 8 ≤ helloClass f ∨ 8 ≤ helloProfile f) :
    exec (.driveHello b bytes) s = .next (count (.bay b) .discarded 1 s) := by
  have counted : helloAtBay b f s = count (.bay b) .discarded 1 s := by
    unfold helloAtBay
    rw [screenDriveHello_none fails]
  rw [driveHello_taken outside on parsed hello, counted, settle_of_atRest _ (count_atRest h _ _ _)]

section
variable {b : Bay} {a : Announcement} {s : State}

/-- The part of acceptance in ONLINE that a refresh and a move share. -/
def refreshedHello (b : Bay) (a : Announcement) (s : State) : State :=
  setCharge b (runDraw a.cls s) (modBay b (storeHello a) s)

theorem acceptOnline_refresh : acceptOnline false b a s = refreshedHello b a s := rfl

theorem acceptOnline_move : acceptOnline true b a s = learn (.bay b) a.addr (refreshedHello b a s) := rfl

theorem refreshedHello_route : (refreshedHello b a s).route = s.route := by
  unfold refreshedHello
  rw [setCharge_route, modBay_route]

theorem acceptOnline_taken (move : Bool) :
    HelloTaken b (storeHello a s.bays[b]) (runDraw a.cls s) s (acceptOnline move b a s) := by
  have refreshed : HelloTaken b (storeHello a s.bays[b]) (runDraw a.cls s) s (refreshedHello b a s) :=
    chargedHello_taken b (storeHello a) (runDraw a.cls s) s
  cases move with
  | false => exact refreshed
  | true => exact refreshed.learn (.bay b) a.addr

/-- An accepted HELLO of an ONLINE bay takes no reading and latches nothing of a bay. -/
theorem acceptOnline_quiet (move : Bool) : (acceptOnline move b a s).therm = s.therm ∧
    (acceptOnline move b a s).ev.bayLatches = s.ev.bayLatches := by
  have therm : (refreshedHello b a s).therm = s.therm := by
    unfold refreshedHello
    rw [setCharge_therm, modBay_therm]
  have latches : (refreshedHello b a s).ev.bayLatches = s.ev.bayLatches := by
    unfold refreshedHello
    rw [setCharge_bayLatches, modBay_ev]
  cases move with
  | false => exact ⟨therm, latches⟩
  | true =>
    have learned := learn_written (.bay b) a.addr (refreshedHello b a s)
    exact ⟨learned.therm.trans therm, learned.bayLatches.trans latches⟩

/-- What an ONLINE bay keeps and replaces when its HELLO is accepted (R29). -/
structure StaysOnline (b : Bay) (a : Announcement) (s t : State) : Prop where
  charge : t.power.charge[b] = runDraw a.cls s
  record : t.bays[b] = storeHello a s.bays[b]
  readings : t.therm.records = s.therm.records
  latches : t.ev.bayLatches = s.ev.bayLatches
  others : ∀ c : Bay, c ≠ b → UntouchedOrAdmitted c s t
  counters : t.fwd.counters = s.fwd.counters
  queues : t.fwd.bayQueue = s.fwd.bayQueue
  cool : t.cool = s.cool

theorem acceptOnline_stays (h : BaysConsistent s) (hx : s.bays[b].state = .online) (move : Bool) :
    StaysOnline b a s (settle (acceptOnline move b a s)) := by
  have hq := (acceptOnline_keeps move b a s hx h).queued
  have state : (storeHello a s.bays[b]).state ≠ .queued := by
    change s.bays[b].state ≠ .queued
    rw [hx]
    exact BayState.noConfusion
  obtain ⟨record, charge, others, counters, queues, cool⟩ := (acceptOnline_taken move).settled hq state
  obtain ⟨therm, latches⟩ := acceptOnline_quiet (b := b) (a := a) (s := s) move
  exact ⟨charge, record, by rw [settle_records, therm], (settle_endKept _).bayLatches.trans latches, others, counters, queues,
    cool⟩

theorem move_others (hd : RoutesDistinct s) (q : Port) (hq : q ≠ .bay b) :
    (settle (acceptOnline true b a s)).route.learned[portIdx q] = s.route.learned[portIdx q] := by
  rw [settle_route, acceptOnline_move, learn_route_congr _ _ refreshedHello_route]
  exact (learn_learned hd).others q hq

/-- A move to an address that no static slot holds writes the learned slot alone. -/
theorem move_free (h : ∀ i : Fin 30, staticAddr s i ≠ some a.addr) :
    (settle (acceptOnline true b a s)).route.statics = s.route.statics ∧
      (settle (acceptOnline true b a s)).route.learned[portIdx (.bay b)] = some ⟨a.addr, none⟩ := by
  have moved : (acceptOnline true b a s).route =
      { s.route with learned := put s.route.learned (portIdx (.bay b)) (some ⟨a.addr, none⟩) } := by
    rw [acceptOnline_move, learn_route_congr _ _ refreshedHello_route, learn_free (staticHolding_none h)]
  rw [settle_route, moved]
  exact ⟨rfl, getElem_put_same _ _ _⟩

/-- A move to the address of a static slot retires the slot, with the note and ROUTE_DISPLACED (R95). -/
theorem move_displaces {i : Fin 30} {q : Port} (hd : RoutesDistinct s) (held : s.route.statics[i] = some ⟨a.addr, q⟩) :
    (settle (acceptOnline true b a s)).route.statics = put s.route.statics i none ∧
      (settle (acceptOnline true b a s)).ev.enclLatches[EnclEvent.routeDisplaced.idx] = true ∧
      (settle (acceptOnline true b a s)).route.learned[portIdx (.bay b)] = some ⟨a.addr, some ⟨18 + i.val, q⟩⟩ := by
  have found : staticHolding a.addr s = some (i, q) := staticHolding_eq hd held
  have moved : (acceptOnline true b a s).route =
      { learned := put s.route.learned (portIdx (.bay b)) (some ⟨a.addr, some ⟨18 + i.val, q⟩⟩)
        statics := put s.route.statics i none } := by
    rw [acceptOnline_move, learn_route_congr _ _ refreshedHello_route, learn_displaces found, latchEncl_route]
  have latched : (acceptOnline true b a s).ev.enclLatches[EnclEvent.routeDisplaced.idx] = true := by
    rw [acceptOnline_move, learn_displaces ((staticHolding_congr refreshedHello_route).trans found), latchEncl_sets]
  refine ⟨by rw [settle_route, moved], (settle_endKept _).encl _ latched, ?_⟩
  rw [settle_route, moved, getElem_put_same]

theorem helloOnline_refresh (same : s.bays[b].driveAddr = some a.addr) (fits : ¬overBudget b a.cls s = true) :
    helloOnline b a s = acceptOnline false b a s := by
  have refresh : decide (s.bays[b].driveAddr ≠ some a.addr) = false := decide_eq_false fun other => other same
  unfold helloOnline
  dsimp only
  rw [refresh, if_neg (by rw [Bool.false_and]; exact Bool.false_ne_true), if_neg fits]

theorem helloOnline_move (other : s.bays[b].driveAddr ≠ some a.addr) (free : ¬addressTaken (.bay b) a.addr s = true)
    (fits : ¬overBudget b a.cls s = true) : helloOnline b a s = acceptOnline true b a s := by
  unfold helloOnline
  dsimp only
  rw [decide_eq_true other, if_neg (by rw [Bool.true_and]; exact free), if_neg fits]

theorem helloOnline_taken (other : s.bays[b].driveAddr ≠ some a.addr) (taken : addressTaken (.bay b) a.addr s = true) :
    helloOnline b a s = refuseHello b .addressConflict .addressConflict s := by
  unfold helloOnline
  dsimp only
  rw [decide_eq_true other, if_pos (by rw [Bool.true_and]; exact taken)]

theorem helloOnline_unfit (passes : s.bays[b].driveAddr = some a.addr ∨ ¬addressTaken (.bay b) a.addr s = true)
    (unfit : overBudget b a.cls s = true) : helloOnline b a s = refuseHello b .overbudget .overbudget s := by
  unfold helloOnline
  dsimp only
  rw [if_neg fun k => ?_, if_pos unfit]
  obtain ⟨other, taken⟩ := Bool.and_eq_true_iff.1 k
  have moved : s.bays[b].driveAddr ≠ some a.addr := of_decide_eq_true other
  exact passes.elim moved fun free => free taken

end

/-- Settles O33: a HELLO of an ONLINE bay is a refresh or a move by its address; only a move is tested for its address. -/
theorem onlineHellosRefreshMoveOrFault : Obligations.OnlineHellosRefreshMoveOrFault := by
  refine ⟨fun b bytes f s h on outside parsed hello fails => driveHello_screened h on outside parsed hello fails,
    fun f a screened => screenDriveHello_some screened, fun b bytes f a s h hd hx outside parsed hello screened => ?_⟩
  intro taken fits stays
  have run := driveHello_online hx outside parsed hello screened
  have on : powered s.bays[b].state = true := by rw [hx]; rfl
  have unfit : overBudget b a.cls s = true ↔ ¬fits := overBudget_iff
  have isTaken : addressTaken (.bay b) a.addr s = true ↔ taken := addressTaken_iff
  have accepted (move : Bool) : stays (settle (acceptOnline move b a s)) := by
    obtain ⟨charge, record, readings, latches, others, counters, queues, cool⟩ := acceptOnline_stays (a := a) h hx move
    exact ⟨charge, record, readings, latches, others, counters, queues, cool⟩
  refine ⟨fun same fit => ?_, fun other free fit => ?_, fun other conflict => ?_, fun passes above => ?_⟩
  · rw [helloOnline_refresh same fun k => unfit.1 k fit] at run
    exact ⟨_, run, accepted false, by rw [settle_route, acceptOnline_refresh, refreshedHello_route]⟩
  · rw [helloOnline_move other (fun k => free (isTaken.1 k)) fun k => unfit.1 k fit] at run
    exact ⟨_, run, accepted true, move_others hd, move_free, fun i q held => move_displaces hd held⟩
  · obtain ⟨faulted, latch⟩ := refuseHello_faults (c := .addressConflict) (k := .addressConflict) h on
    rw [helloOnline_taken other (isTaken.2 conflict)] at run
    exact ⟨_, run, faulted.left, faulted.state, faulted.fault, faulted.alert, latch⟩
  · obtain ⟨faulted, latch⟩ := refuseHello_faults (c := .overbudget) (k := .overbudget) h on
    rw [helloOnline_unfit (passes.imp_right fun free k => free (isTaken.1 k)) (unfit.2 above)] at run
    exact ⟨_, run, faulted.left, faulted.state, faulted.fault, faulted.alert, latch⟩

end Sys2Proof.Machine

namespace Sys2Proof.Machine

/-! ### A port, seen alone (R67, R74, R75, R78, R88) -/

/-- What the part holds for one port: the queue its statuses join with its size, and the rest of its unit; a bay port has no
normal queue of its own, no link state and no arbiter, and an upstream port has no lights. -/
structure PortState where
  queue : List Held
  size : Nat
  normal : List Held
  linkUp : Bool
  arbiter : Nat
  transmitting : Option Held
  waiting : Option Waiting
  counters : Vector Nat 7
  light : Option LightUnit

/-- The port `q` of a state. -/
def portAt (q : Port) (s : State) : PortState where
  queue := match q with
    | .up u => s.fwd.up[upIdx u].priority
    | .bay b => s.fwd.bayQueue[b]
  size := match q with
    | .up u => if s.fwd.up[upIdx u].linkUp then Config.priorityQueueSize else 0
    | .bay _ => Config.bayQueueSize
  normal := match q with
    | .up u => s.fwd.up[upIdx u].normal
    | .bay _ => []
  linkUp := match q with
    | .up u => s.fwd.up[upIdx u].linkUp
    | .bay _ => true
  arbiter := match q with
    | .up u => s.fwd.up[upIdx u].arbiter
    | .bay _ => 0
  transmitting := s.fwd.transmitting[portIdx q]
  waiting := s.fwd.waiting[portIdx q]
  counters := s.fwd.counters[portIdx q]
  light := match q with
    | .up _ => none
    | .bay b => some s.light.bays[b]

theorem statusQueue_eq (q : Port) (s : State) : statusQueue q s = (portAt q s).queue := by cases q <;> rfl

theorem statusPlaces_eq (q : Port) (s : State) : statusPlaces q s = (portAt q s).size - (portAt q s).queue.length := by
  cases q with
  | bay b => rfl
  | up u =>
    unfold statusPlaces portAt
    dsimp only
    split
    · rfl
    · exact (Nat.zero_sub _).symm

/-- A counter of the port is raised (R88). -/
def PortState.counted (k : CounterKind) (n : Nat) (x : PortState) : PortState :=
  { x with counters := upd x.counters k.idx fun v => min Config.counterMax (v + n) }

/-- A status is queued at the port, or dropped, and counted either way (R73, R74); one that joins a bay's queue makes an
activity mark (R83). -/
def PortState.answered (h : Held) (mark : LightUnit → LightUnit) (x : PortState) : PortState :=
  if x.queue.length < x.size then
    ({ x with queue := x.queue ++ [h], light := x.light.map mark } : PortState).counted .statusSent 1
  else x.counted .statusDropped 1

/-- The frame `f` in the wait slot of the port is discarded and answered (R84, R86); a STATUS frame draws no answer (R73). -/
def PortState.refused (f : Frame) (h : Held) (mark : LightUnit → LightUnit) (x : PortState) : PortState :=
  if f.kind = .status then ({ x with waiting := none } : PortState).counted .discarded 1
  else (({ x with waiting := none } : PortState).counted .discarded 1).answered h mark

/-- The window of a bay after an activity mark (R83, R152). -/
def activityMark (now hold : Nat) (u : LightUnit) : LightUnit :=
  { u with window := some (match u.window with
    | none => now + hold
    | some e => max e (now + hold)) }

theorem markActivity_eq (b : Bay) (s : State) : markActivity b s = modLight b (activityMark s.now s.light.hold) s := rfl

section
variable {p q : Port} {s : State}

theorem portAt_count_same (k : CounterKind) (n : Nat) : portAt p (count p k n s) = (portAt p s).counted k n := by
  have row : (count p k n s).fwd.counters[portIdx p] =
      upd s.fwd.counters[portIdx p] k.idx (fun v => min Config.counterMax (v + n)) := getElem_upd_same _ _ _
  unfold portAt
  rw [row]
  rfl

theorem portAt_count_ne (h : q ≠ p) (k : CounterKind) (n : Nat) : portAt q (count p k n s) = portAt q s := by
  have row : (count p k n s).fwd.counters[portIdx q] = s.fwd.counters[portIdx q] := getElem_upd_ne _ _ (portIdx_ne h)
  unfold portAt
  rw [row]
  rfl

theorem portAt_clearSlot_same : portAt p (clearSlot p s) = { portAt p s with waiting := none } := by
  have slot : (clearSlot p s).fwd.waiting[portIdx p] = none := getElem_put_same _ _ _
  unfold portAt
  rw [slot]
  rfl

theorem portAt_clearSlot_ne (h : q ≠ p) : portAt q (clearSlot p s) = portAt q s := by
  have slot : (clearSlot p s).fwd.waiting[portIdx q] = s.fwd.waiting[portIdx q] := getElem_put_ne _ _ (portIdx_ne h)
  unfold portAt
  rw [slot]
  rfl

end

section
variable {q : Port} {s : State}

theorem portAt_modUp_ne {u : UpPort} (h : q ≠ .up u) (f : UpUnit → UpUnit) : portAt q (modUp u f s) = portAt q s := by
  cases q with
  | bay b => rfl
  | up v =>
    have unit : (modUp u f s).fwd.up[upIdx v] = s.fwd.up[upIdx v] :=
      getElem_upd_ne _ _ (upIdx_ne fun e => h (congrArg Port.up e))
    unfold portAt
    dsimp only
    rw [unit]
    rfl

theorem portAt_pushPriority_same (u : UpPort) (h : Held) :
    portAt (.up u) (pushPriority u h s) = { portAt (.up u) s with queue := (portAt (.up u) s).queue ++ [h] } := by
  have unit : (pushPriority u h s).fwd.up[upIdx u] =
      { s.fwd.up[upIdx u] with priority := s.fwd.up[upIdx u].priority ++ [h] } := getElem_upd_same _ _ _
  unfold portAt
  dsimp only
  rw [unit]
  rfl

theorem portAt_pushBay_same (b : Bay) (h : Held) :
    portAt (.bay b) (pushBay b h s) = { portAt (.bay b) s with queue := (portAt (.bay b) s).queue ++ [h] } := by
  have queue : (pushBay b h s).fwd.bayQueue[b] = s.fwd.bayQueue[b] ++ [h] := getElem_upd_same _ _ _
  unfold portAt
  dsimp only
  rw [queue]
  rfl

theorem portAt_pushBay_ne {b : Bay} (hq : q ≠ .bay b) (h : Held) : portAt q (pushBay b h s) = portAt q s := by
  cases q with
  | up u => rfl
  | bay c =>
    have queue : (pushBay b h s).fwd.bayQueue[c] = s.fwd.bayQueue[c] :=
      getElem_upd_ne _ _ fun e => hq (congrArg Port.bay e)
    unfold portAt
    dsimp only
    rw [queue]
    rfl

theorem portAt_modLight_same (b : Bay) (f : LightUnit → LightUnit) :
    portAt (.bay b) (modLight b f s) = { portAt (.bay b) s with light := (portAt (.bay b) s).light.map f } := by
  have unit : (modLight b f s).light.bays[b] = f s.light.bays[b] := getElem_upd_same _ _ _
  unfold portAt
  dsimp only
  rw [unit]
  rfl

theorem portAt_modLight_ne {b : Bay} (hq : q ≠ .bay b) (f : LightUnit → LightUnit) :
    portAt q (modLight b f s) = portAt q s := by
  cases q with
  | up u => rfl
  | bay c =>
    have unit : (modLight b f s).light.bays[c] = s.light.bays[c] :=
      getElem_upd_ne _ _ fun e => hq (congrArg Port.bay e)
    unfold portAt
    dsimp only
    rw [unit]
    rfl

/-- A status touches no port but that of the frame it answers. -/
theorem portAt_sendStatus_ne {p : Port} (hq : q ≠ p) (c : StatusCode) (f : Frame) :
    portAt q (sendStatus c p f s) = portAt q s := by
  unfold sendStatus
  split
  · rfl
  · cases p with
    | up u =>
      dsimp only
      split
      · rw [portAt_count_ne hq]
        exact portAt_modUp_ne hq _
      · rw [portAt_count_ne hq]
    | bay b =>
      dsimp only
      split
      · rw [markActivity_eq, portAt_modLight_ne hq, portAt_count_ne hq, portAt_pushBay_ne hq]
      · rw [portAt_count_ne hq]

theorem portAt_sendStatus_same {p : Port} {c : StatusCode} {f : Frame} (hf : f.kind ≠ .status) :
    portAt p (sendStatus c p f s) = (portAt p s).answered ⟨statusFrame (switchAddr s) c f, .built⟩
      (activityMark s.now s.light.hold) := by
  unfold sendStatus PortState.answered
  rw [if_neg hf]
  cases p with
  | up u =>
    have room : (s.fwd.up[upIdx u].linkUp && priorityRoom u s) = true ↔
        (portAt (.up u) s).queue.length < (portAt (.up u) s).size := by
      unfold portAt priorityRoom
      dsimp only
      cases s.fwd.up[upIdx u].linkUp with
      | false => exact iff_of_false Bool.false_ne_true (Nat.not_lt_zero _)
      | true => exact decide_eq_true_iff
    dsimp only
    rw [if_congr room rfl rfl]
    split
    · rw [portAt_count_same, portAt_pushPriority_same]
      rfl
    · rw [portAt_count_same]
  | bay b =>
    dsimp only
    split
    · next h =>
      rw [if_pos (show (portAt (.bay b) s).queue.length < (portAt (.bay b) s).size from h), markActivity_eq,
        portAt_modLight_same, portAt_count_same, portAt_pushBay_same]
      rfl
    · next h =>
      rw [if_neg (show ¬(portAt (.bay b) s).queue.length < (portAt (.bay b) s).size from h), portAt_count_same]

/-! ### The waits that end when a port closes (R84, R86) -/

theorem portAt_endWait_ne {x : Port × Waiting} (hq : q ≠ x.1) (c : StatusCode) : portAt q (endWait c x s) = portAt q s := by
  unfold endWait refuseFrame
  rw [portAt_sendStatus_ne hq, portAt_count_ne hq, portAt_clearSlot_ne hq]

theorem portAt_endWait_same (x : Port × Waiting) (c : StatusCode) : portAt x.1 (endWait c x s) =
    (portAt x.1 s).refused x.2.frame ⟨statusFrame (switchAddr s) c x.2.frame, .built⟩
      (activityMark s.now s.light.hold) := by
  have cleared : portAt x.1 (count x.1 .discarded 1 (clearSlot x.1 s)) =
      ({ portAt x.1 s with waiting := none } : PortState).counted .discarded 1 := by
    rw [portAt_count_same, portAt_clearSlot_same]
  unfold endWait refuseFrame PortState.refused
  by_cases hf : x.2.frame.kind = .status
  · rw [if_pos hf, ← cleared]
    unfold sendStatus
    rw [if_pos hf]
  · rw [if_neg hf, ← cleared]
    exact portAt_sendStatus_same hf

end

end Sys2Proof.Machine

namespace Sys2Proof.Machine

/-! ### The frames that wait for a port (R79, R84, R86) -/

/-- The frame that waits at `p` for the queue of `q`, with its port, if one does. -/
def waiterAt (q : Port) (s : State) (p : Port) : Option (Port × Waiting) :=
  match s.fwd.waiting[portIdx p] with
  | some w => if w.target = q then some (p, w) else none
  | none => none

theorem waiterAt_some {q p : Port} {s : State} {x : Port × Waiting} : waiterAt q s p = some x ↔
    x.1 = p ∧ s.fwd.waiting[portIdx p] = some x.2 ∧ x.2.target = q := by
  unfold waiterAt
  cases s.fwd.waiting[portIdx p] with
  | none => exact iff_of_false (Option.some_ne_none x).symm fun h => Option.some_ne_none _ h.2.1.symm
  | some w =>
    dsimp only
    constructor
    · intro h
      split at h
      · next target => cases h; exact ⟨rfl, rfl, target⟩
      · cases h
    · rintro ⟨port, slot, target⟩
      cases slot
      rw [if_pos target, ← port]

theorem insertWaiting_perm (x : Port × Waiting) (l : List (Port × Waiting)) : (insertWaiting x l).Perm (x :: l) := by
  induction l with
  | nil => exact .refl _
  | cons y l ih =>
    unfold insertWaiting
    split
    · exact (ih.cons y).trans (.swap x y l)
    · exact .refl _

theorem waitersFor_perm (q : Port) (s : State) : (waitersFor q s).Perm (portsInOrder.filterMap (waiterAt q s)) := by
  have inserted (l acc : List (Port × Waiting)) : (l.foldl (fun acc x => insertWaiting x acc) acc).Perm (l ++ acc) := by
    induction l generalizing acc with
    | nil => exact .refl _
    | cons x l ih =>
      exact (ih (insertWaiting x acc)).trans (((insertWaiting_perm x acc).append_left l).trans List.perm_middle)
  have all := inserted (portsInOrder.filterMap (waiterAt q s)) []
  rw [List.append_nil] at all
  exact all

theorem mem_waitersFor_iff {q : Port} {s : State} {x : Port × Waiting} :
    x ∈ waitersFor q s ↔ s.fwd.waiting[portIdx x.1] = some x.2 ∧ x.2.target = q := by
  rw [(waitersFor_perm q s).mem_iff, List.mem_filterMap]
  constructor
  · rintro ⟨p, -, h⟩
    obtain ⟨rfl, waits⟩ := waiterAt_some.1 h
    exact waits
  · exact fun waits => ⟨x.1, mem_portsInOrder x.1, waiterAt_some.2 ⟨rfl, waits⟩⟩

theorem portsInOrder_nodup : portsInOrder.Nodup := by
  have bays : (allBays.map Port.bay).Nodup := allBays_nodup.map fun _ _ e => Port.bay.inj e
  have noUp (u : UpPort) : Port.up u ∉ allBays.map Port.bay := fun h => by
    obtain ⟨b, -, e⟩ := List.mem_map.1 h
    exact Port.noConfusion e
  refine List.nodup_cons.2 ⟨fun h => ?_, List.nodup_cons.2 ⟨noUp .u1, bays⟩⟩
  rcases List.mem_cons.1 h with e | h
  · cases e
  · exact noUp .u0 h

/-- No port waits twice. -/
theorem waitersFor_ports (q : Port) (s : State) : (waitersFor q s).Pairwise fun x y => x.1 ≠ y.1 := by
  have ordered : (portsInOrder.filterMap (waiterAt q s)).Pairwise fun x y => x.1 ≠ y.1 := by
    refine List.Pairwise.filterMap _ (fun a b ne x hx y hy e => ?_) portsInOrder_nodup
    exact ne ((waiterAt_some.1 hx).1.symm.trans (e.trans (waiterAt_some.1 hy).1))
  exact (waitersFor_perm q s).symm.pairwise ordered fun h e => h e.symm

/-- The moment, the activity hold and the strap on which statuses and marks turn. -/
structure Ground (s t : State) : Prop where
  now : t.now = s.now
  hold : t.light.hold = s.light.hold
  strap : t.addrStrap = s.addrStrap

theorem sendStatus_hold (c : StatusCode) (p : Port) (f : Frame) (s : State) :
    (sendStatus c p f s).light.hold = s.light.hold := by
  unfold sendStatus
  split
  · rfl
  · cases p <;> dsimp only <;> split <;> rfl

theorem endWait_ground (c : StatusCode) (x : Port × Waiting) (s : State) : Ground s (endWait c x s) :=
  ⟨endWait_now c x s, sendStatus_hold c _ _ _, endWait_addrStrap c x s⟩

/-- The waits of a list end, one after another. -/
def endWaits (c : StatusCode) (l : List (Port × Waiting)) (s : State) : State := l.foldl (fun s x => endWait c x s) s

theorem portAt_endWaits_ne {q : Port} {l : List (Port × Waiting)} (h : ∀ x ∈ l, q ≠ x.1) (c : StatusCode) (s : State) :
    portAt q (endWaits c l s) = portAt q s := by
  induction l generalizing s with
  | nil => rfl
  | cons x l ih =>
    exact (ih (fun y hy => h y (List.mem_cons_of_mem x hy)) (endWait c x s)).trans
      (portAt_endWait_ne (h x List.mem_cons_self) c)

/-- A wait of the list ends at its port, whatever the others do. -/
theorem portAt_endWaits_mem {l : List (Port × Waiting)} (ports : l.Pairwise fun x y => x.1 ≠ y.1) {x : Port × Waiting}
    (hx : x ∈ l) (c : StatusCode) (s : State) : portAt x.1 (endWaits c l s) =
      (portAt x.1 s).refused x.2.frame ⟨statusFrame (switchAddr s) c x.2.frame, .built⟩
        (activityMark s.now s.light.hold) := by
  induction l generalizing s with
  | nil => cases hx
  | cons y l ih =>
    obtain ⟨first, rest⟩ := List.pairwise_cons.1 ports
    rcases List.mem_cons.1 hx with rfl | hx
    · exact (portAt_endWaits_ne first c (endWait c x s)).trans (portAt_endWait_same x c)
    · have ground := endWait_ground c y s
      have ended := ih rest hx (endWait c y s)
      rw [portAt_endWait_ne (first x hx).symm, ground.now, ground.hold, switchAddr_congr ground.strap] at ended
      exact ended

/-! ### The closing of an upstream port, port by port (R86) -/

theorem waitingFor_eq {q p : Port} {s : State} {w : Waiting} (slot : s.fwd.waiting[portIdx p] = some w)
    (target : w.target = q) : waitingFor q p s = [w.frame] := by
  unfold waitingFor
  rw [slot]
  exact if_pos target

theorem waitingFor_cases (q p : Port) (s : State) : waitingFor q p s = [] ∨
    ∃ w, s.fwd.waiting[portIdx p] = some w ∧ w.target = q ∧ waitingFor q p s = [w.frame] := by
  cases slot : s.fwd.waiting[portIdx p] with
  | none =>
    unfold waitingFor
    rw [slot]
    exact .inl rfl
  | some w =>
    by_cases target : w.target = q
    · exact .inr ⟨w, rfl, target, waitingFor_eq slot target⟩
    · unfold waitingFor
      rw [slot]
      exact .inl (if_neg target)

section
variable {p : UpPort} {q : Port} {s : State}

theorem portAt_refuseWaiters_own : portAt (.up p) (refuseWaiters p s) = portAt (.up p) s :=
  portAt_endWaits_ne (fun _ hx => Ne.symm (of_decide_eq_true (List.mem_filter.1 hx).2)) .noPath s

theorem portAt_refuseWaiters_idle (h : waitingFor (.up p) q s = []) : portAt q (refuseWaiters p s) = portAt q s := by
  refine portAt_endWaits_ne (fun x hx e => ?_) .noPath s
  obtain ⟨slot, target⟩ := mem_waitersFor_iff.1 (List.mem_filter.1 hx).1
  subst e
  rw [waitingFor_eq slot target] at h
  cases h

theorem portAt_refuseWaiters_waits (hq : q ≠ .up p) {w : Waiting} (slot : s.fwd.waiting[portIdx q] = some w)
    (target : w.target = .up p) : portAt q (refuseWaiters p s) = (portAt q s).refused w.frame
      ⟨statusFrame (switchAddr s) .noPath w.frame, .built⟩ (activityMark s.now s.light.hold) := by
  have waits : (q, w) ∈ (waitersFor (.up p) s).filter fun x => x.1 ≠ .up p :=
    List.mem_filter.2 ⟨mem_waitersFor_iff.2 ⟨slot, target⟩, decide_eq_true hq⟩
  exact portAt_endWaits_mem ((waitersFor_ports (.up p) s).filter _) waits .noPath s

end

end Sys2Proof.Machine

namespace Sys2Proof.Machine

/-! ### The counters of a port that closes, and of the ports that wait for it (R86, R88) -/

theorem CounterKind.idx_inj {j k : CounterKind} (h : j.idx = k.idx) : j = k := by
  revert h
  cases j <;> cases k <;> decide

theorem PortState.counted_counter (x : PortState) (j k : CounterKind) (n : Nat) : (x.counted k n).counters[j.idx] =
    if j = k then min Config.counterMax (x.counters[k.idx] + n) else x.counters[j.idx] := by
  unfold PortState.counted
  by_cases h : j = k
  · subst h
    rw [if_pos rfl]
    exact getElem_upd_same _ _ _
  · rw [if_neg h]
    exact getElem_upd_ne _ _ fun e => h (CounterKind.idx_inj e)

/-- What a refused wait adds to the counters of its port: the frame is discarded, and its answer is sent or dropped. -/
def refusalCounts (places answers : Nat) : CounterKind → Nat
  | .discarded => 1
  | .statusSent => min answers places
  | .statusDropped => answers - places
  | _ => 0

/-- The answers that the frame in a wait slot draws (R73). -/
def answersOf (f : Frame) : List Frame := [f].filter fun f => decide (f.kind ≠ .status)

theorem answersOf_status {f : Frame} (h : f.kind = .status) : answersOf f = [] :=
  List.filter_cons_of_neg (by rw [decide_eq_true_iff]; exact fun ne => ne h)

theorem answersOf_other {f : Frame} (h : f.kind ≠ .status) : answersOf f = [f] :=
  List.filter_cons_of_pos (decide_eq_true h)

section
variable (x : PortState) (f : Frame) (answer : Frame → Held) (mark : LightUnit → LightUnit)

theorem PortState.answered_counter (h : Held) (k : CounterKind) (low : x.counters[k.idx] ≤ Config.counterMax) :
    (x.answered h mark).counters[k.idx] = min Config.counterMax (x.counters[k.idx] +
      (if k = .discarded then 0 else refusalCounts (x.size - x.queue.length) 1 k)) := by
  have kept : x.counters[k.idx] = min Config.counterMax x.counters[k.idx] := (Nat.min_eq_right low).symm
  have counted := PortState.counted_counter
    ({ x with queue := x.queue ++ [h], light := x.light.map mark } : PortState) k .statusSent 1
  unfold PortState.answered
  split
  · next room =>
    have sent : min 1 (x.size - x.queue.length) = 1 ∧ 1 - (x.size - x.queue.length) = 0 := by omega
    rw [counted]
    cases k with
    | statusSent => rw [if_pos rfl, if_neg CounterKind.noConfusion, refusalCounts, sent.1]
    | statusDropped => rw [if_neg CounterKind.noConfusion, if_neg CounterKind.noConfusion, refusalCounts, sent.2]; exact kept
    | discarded => exact kept
    | _ => exact kept
  · next full =>
    have dropped : min 1 (x.size - x.queue.length) = 0 ∧ 1 - (x.size - x.queue.length) = 1 := by omega
    rw [x.counted_counter]
    cases k with
    | statusSent => rw [if_neg CounterKind.noConfusion, if_neg CounterKind.noConfusion, refusalCounts, dropped.1]; exact kept
    | statusDropped => rw [if_pos rfl, if_neg CounterKind.noConfusion, refusalCounts, dropped.2]
    | discarded => exact kept
    | _ => exact kept

theorem PortState.refused_counter (k : CounterKind) (low : x.counters[k.idx] ≤ Config.counterMax) :
    (x.refused f (answer f) mark).counters[k.idx] = min Config.counterMax (x.counters[k.idx] +
      refusalCounts (x.size - x.queue.length) (answersOf f).length k) := by
  have counted := PortState.counted_counter ({ x with waiting := none } : PortState) k .discarded 1
  have still : k ≠ .discarded → (({ x with waiting := none } : PortState).counted .discarded 1).counters[k.idx] =
      x.counters[k.idx] := fun ne => by rw [counted, if_neg ne]
  unfold PortState.refused
  split
  · next status =>
    rw [answersOf_status status]
    by_cases hk : k = .discarded
    · subst hk
      exact counted
    · have none : refusalCounts (x.size - x.queue.length) 0 k = 0 := by
        cases k with
        | discarded => exact absurd rfl hk
        | statusSent => exact Nat.zero_min _
        | statusDropped => exact Nat.zero_sub _
        | _ => rfl
      rw [still hk, List.length_nil, none]
      exact (Nat.min_eq_right low).symm
  · next other =>
    rw [answersOf_other other]
    by_cases hk : k = .discarded
    · subst hk
      rw [PortState.answered_counter _ _ _ _ (by rw [counted]; exact Nat.min_le_left _ _), counted]
      exact Nat.min_eq_right (Nat.min_le_left _ _)
    · rw [PortState.answered_counter _ _ _ _ (by rw [still hk]; exact low), still hk, if_neg hk]
      rfl

theorem PortState.answered_queue (h : Held) :
    (x.answered h mark).queue = x.queue ++ [h].take (x.size - x.queue.length) := by
  unfold PortState.answered
  split
  · next room =>
    rw [List.take_of_length_le (show [h].length ≤ _ from Nat.sub_pos_of_lt room)]
    rfl
  · next full =>
    rw [Nat.sub_eq_zero_of_le (Nat.not_lt.1 full), List.take_zero, List.append_nil]
    rfl

theorem PortState.answered_light (h : Held) :
    (x.answered h mark).light = if x.queue.length < x.size then x.light.map mark else x.light := by
  unfold PortState.answered
  split <;> rfl

theorem PortState.refused_queue : (x.refused f (answer f) mark).queue =
    x.queue ++ ((answersOf f).take (x.size - x.queue.length)).map answer := by
  unfold PortState.refused
  split
  · next status =>
    rw [answersOf_status status, List.take_nil, List.map_nil, List.append_nil]
    rfl
  · next other =>
    rw [answersOf_other other, List.map_take, PortState.answered_queue]
    rfl

theorem PortState.refused_light (h : Held) : (x.refused f h mark).light =
    if answersOf f ≠ [] ∧ x.queue.length < x.size then x.light.map mark else x.light := by
  unfold PortState.refused
  split
  · next status =>
    rw [answersOf_status status, if_neg fun k => k.1 rfl]
    rfl
  · next other =>
    rw [answersOf_other other, PortState.answered_light, if_congr (and_iff_right (List.cons_ne_nil f [])) rfl rfl]
    rfl

/-- The rest of a port whose wait is refused. -/
theorem PortState.refused_rest (h : Held) : (x.refused f h mark).waiting = none ∧
    (x.refused f h mark).transmitting = x.transmitting ∧ (x.refused f h mark).normal = x.normal ∧
    (x.refused f h mark).linkUp = x.linkUp := by
  unfold PortState.refused
  split
  · exact ⟨rfl, rfl, rfl, rfl⟩
  · unfold PortState.answered
    split <;> exact ⟨rfl, rfl, rfl, rfl⟩

end

/-! ### The port itself (R86) -/

theorem portAt_modUp_same (p : UpPort) (s : State) :
    portAt (.up p) (modUp p (fun u => { u with linkUp := false, normal := [], priority := [], arbiter := 0 }) s) =
      { portAt (.up p) s with queue := [], size := 0, normal := [], linkUp := false, arbiter := 0 } := by
  have unit : (modUp p (fun u => { u with linkUp := false, normal := [], priority := [], arbiter := 0 }) s).fwd.up[upIdx p] =
      { s.fwd.up[upIdx p] with linkUp := false, normal := [], priority := [], arbiter := 0 } := getElem_upd_same _ _ _
  unfold portAt
  dsimp only
  rw [unit]
  rfl

/-- Frames of the port are lost, and counted as discarded if there are any (R76, R86). -/
def PortState.lost (n : Nat) (x : PortState) : PortState := if n = 0 then x else x.counted .discarded n

theorem PortState.lost_rest (x : PortState) (n : Nat) : (x.lost n).queue = x.queue ∧ (x.lost n).normal = x.normal ∧
    (x.lost n).linkUp = x.linkUp ∧ (x.lost n).arbiter = x.arbiter ∧ (x.lost n).transmitting = x.transmitting ∧
    (x.lost n).waiting = x.waiting := by
  unfold PortState.lost
  split <;> exact ⟨rfl, rfl, rfl, rfl, rfl, rfl⟩

theorem PortState.lost_discarded (x : PortState) (n : Nat)
    (low : x.counters[CounterKind.discarded.idx] ≤ Config.counterMax) :
    (x.lost n).counters[CounterKind.discarded.idx] =
      min Config.counterMax (x.counters[CounterKind.discarded.idx] + n) := by
  unfold PortState.lost
  split
  · next none =>
    subst none
    exact (Nat.min_eq_right low).symm
  · rw [PortState.counted_counter, if_pos rfl]

theorem PortState.lost_counter (x : PortState) (n : Nat) {k : CounterKind} (hk : k ≠ .discarded) :
    (x.lost n).counters[k.idx] = x.counters[k.idx] := by
  unfold PortState.lost
  split
  · rfl
  · rw [PortState.counted_counter, if_neg hk]

theorem portAt_abandon_ne {p q : Port} (h : q ≠ p) (s : State) : portAt q (abandon p s) = portAt q s := by
  unfold abandon
  split
  · rfl
  · have slot : (put s.fwd.transmitting (portIdx p) none)[portIdx q] = s.fwd.transmitting[portIdx q] :=
      getElem_put_ne _ _ (portIdx_ne h)
    rw [portAt_count_ne h]
    unfold portAt
    dsimp only
    rw [slot]

theorem portAt_abandon_same (p : Port) (s : State) : portAt p (abandon p s) =
    ({ portAt p s with transmitting := none } : PortState).lost (s.fwd.transmitting[portIdx p]).toList.length := by
  unfold abandon PortState.lost
  cases h : s.fwd.transmitting[portIdx p] with
  | none =>
    have idle : (portAt p s).transmitting = none := h
    rw [if_pos (show (none : Option Held).toList.length = 0 from rfl)]
    exact congrArg (fun x => ({ portAt p s with transmitting := x } : PortState)) idle
  | some x =>
    have slot : (put s.fwd.transmitting (portIdx p) none)[portIdx p] = none := getElem_put_same _ _ _
    rw [if_neg (show ¬(some x).toList.length = 0 from Nat.one_ne_zero)]
    dsimp only
    rw [portAt_count_same]
    unfold portAt
    dsimp only
    rw [slot]
    rfl

theorem portAt_dropOwnWait_ne {p q : Port} (h : q ≠ p) (s : State) : portAt q (dropOwnWait p s) = portAt q s := by
  unfold dropOwnWait
  split
  · rfl
  · rw [portAt_count_ne h, portAt_clearSlot_ne h]

theorem portAt_dropOwnWait_same (p : UpPort) (s : State) : portAt (.up p) (dropOwnWait (.up p) s) =
    ({ portAt (.up p) s with waiting := none } : PortState).lost (s.fwd.waiting[portIdx (.up p)]).toList.length := by
  unfold dropOwnWait PortState.lost
  cases h : s.fwd.waiting[portIdx (.up p)] with
  | none =>
    have idle : (portAt (.up p) s).waiting = none := h
    rw [if_pos (show (none : Option Waiting).toList.length = 0 from rfl)]
    exact congrArg (fun x => ({ portAt (.up p) s with waiting := x } : PortState)) idle
  | some w =>
    rw [if_neg (show ¬(some w).toList.length = 0 from Nat.one_ne_zero)]
    dsimp only
    rw [portAt_count_same, portAt_clearSlot_same]
    rfl

theorem portAt_dropQueues_ne {p : UpPort} {q : Port} (h : q ≠ .up p) (s : State) :
    portAt q (dropQueues p s) = portAt q s := by
  unfold dropQueues
  rw [portAt_dropOwnWait_ne h, portAt_abandon_ne h, portAt_count_ne h, portAt_modUp_ne h]

/-- A port that has lost its link: nothing stands there, and what stood there is counted as discarded. -/
structure LinkLost (p : UpPort) (s : State) (x : PortState) : Prop where
  queue : x.queue = []
  normal : x.normal = []
  linkUp : x.linkUp = false
  arbiter : x.arbiter = 0
  transmitting : x.transmitting = none
  waiting : x.waiting = none
  discarded : x.counters[CounterKind.discarded.idx] = min Config.counterMax
    ((s.fwd.counters[portIdx (.up p)])[CounterKind.discarded.idx] + heldAt (.up p) s)
  others : ∀ k : CounterKind, k ≠ .discarded → x.counters[k.idx] = (s.fwd.counters[portIdx (.up p)])[k.idx]

theorem heldAt_up (p : UpPort) (s : State) : heldAt (.up p) s =
    s.fwd.up[upIdx p].normal.length + s.fwd.up[upIdx p].priority.length +
      (s.fwd.transmitting[portIdx (.up p)]).toList.length + (s.fwd.waiting[portIdx (.up p)]).toList.length := by
  unfold heldAt
  exact Nat.add_zero _

/-- The port once its queues are emptied, its link state lost and its frames counted. -/
def closedUnit (n : Nat) (x : PortState) : PortState :=
  ({ x with queue := [], size := 0, normal := [], linkUp := false, arbiter := 0 } : PortState).counted .discarded n

theorem dropQueues_own (p : UpPort) (s : State) : portAt (.up p) (dropQueues p s) =
    ({ ({ closedUnit (s.fwd.up[upIdx p].normal.length + s.fwd.up[upIdx p].priority.length) (portAt (.up p) s) with
        transmitting := none } : PortState).lost (s.fwd.transmitting[portIdx (.up p)]).toList.length with
        waiting := none } : PortState).lost (s.fwd.waiting[portIdx (.up p)]).toList.length := by
  have slot : (abandon (.up p) (count (.up p) .discarded (s.fwd.up[upIdx p].normal.length + s.fwd.up[upIdx p].priority.length)
      (modUp p (fun u => { u with linkUp := false, normal := [], priority := [], arbiter := 0 }) s))).fwd.waiting =
      s.fwd.waiting := (abandon_eq _ _).2.2.1
  unfold dropQueues
  dsimp only
  rw [portAt_dropOwnWait_same, slot, portAt_abandon_same, portAt_count_same, portAt_modUp_same]
  rfl

theorem dropQueues_lost (p : UpPort) (s : State) : LinkLost p s (portAt (.up p) (dropQueues p s)) := by
  rw [dropQueues_own]
  generalize hx : closedUnit (s.fwd.up[upIdx p].normal.length + s.fwd.up[upIdx p].priority.length) (portAt (.up p) s) = x
  have shut : x.queue = [] ∧ x.normal = [] ∧ x.linkUp = false ∧ x.arbiter = 0 := by
    rw [← hx]
    exact ⟨rfl, rfl, rfl, rfl⟩
  have counter (k : CounterKind) : x.counters[k.idx] = if k = .discarded then
      min Config.counterMax ((s.fwd.counters[portIdx (.up p)])[CounterKind.discarded.idx] +
        (s.fwd.up[upIdx p].normal.length + s.fwd.up[upIdx p].priority.length))
      else (s.fwd.counters[portIdx (.up p)])[k.idx] := by
    rw [← hx]
    exact PortState.counted_counter _ k .discarded _
  have first := counter .discarded
  rw [if_pos rfl] at first
  have low : x.counters[CounterKind.discarded.idx] ≤ Config.counterMax := by
    rw [first]
    exact Nat.min_le_left _ _
  have second := PortState.lost_discarded ({ x with transmitting := none } : PortState)
    (s.fwd.transmitting[portIdx (.up p)]).toList.length low
  have others (k : CounterKind) (hk : k ≠ .discarded) := PortState.lost_counter ({ x with transmitting := none } : PortState)
    (s.fwd.transmitting[portIdx (.up p)]).toList.length hk
  obtain ⟨queue, normal, linkUp, arbiter, transmitting, -⟩ := PortState.lost_rest
    ({ x with transmitting := none } : PortState) (s.fwd.transmitting[portIdx (.up p)]).toList.length
  generalize ({ x with transmitting := none } : PortState).lost (s.fwd.transmitting[portIdx (.up p)]).toList.length = y at *
  have third := PortState.lost_discarded ({ y with waiting := none } : PortState)
    (s.fwd.waiting[portIdx (.up p)]).toList.length (by rw [second]; exact Nat.min_le_left _ _)
  obtain ⟨queue', normal', linkUp', arbiter', transmitting', waiting⟩ := PortState.lost_rest
    ({ y with waiting := none } : PortState) (s.fwd.waiting[portIdx (.up p)]).toList.length
  exact
    { queue := queue'.trans (queue.trans shut.1)
      normal := normal'.trans (normal.trans shut.2.1)
      linkUp := linkUp'.trans (linkUp.trans shut.2.2.1)
      arbiter := arbiter'.trans (arbiter.trans shut.2.2.2)
      transmitting := transmitting'.trans transmitting
      waiting := waiting
      discarded := by
        rw [third, second, first, heldAt_up]
        omega
      others := fun k hk => by
        rw [PortState.lost_counter _ _ hk, others k hk, counter, if_neg hk] }

end Sys2Proof.Machine

namespace Sys2Proof.Machine

/-! ### A change of the forwarding engine and of activity windows -/

/-- Only the forwarding engine and the lights of bays have changed. -/
def Forwarded (s t : State) : Prop := t = { s with fwd := t.fwd, light := { s.light with bays := t.light.bays } }

theorem Forwarded.eq {s t : State} (h : Forwarded s t) :
    t = { s with fwd := t.fwd, light := { s.light with bays := t.light.bays } } := h

theorem Forwarded.now {s t : State} (h : Forwarded s t) : t.now = s.now := (congrArg State.now h.eq).trans rfl

theorem Forwarded.hold {s t : State} (h : Forwarded s t) : t.light.hold = s.light.hold :=
  (congrArg (fun x : State => x.light.hold) h.eq).trans rfl

theorem Forwarded.strap {s t : State} (h : Forwarded s t) : t.addrStrap = s.addrStrap :=
  (congrArg State.addrStrap h.eq).trans rfl

theorem Forwarded.trans {s t u : State} (h : Forwarded s t) (k : Forwarded t u) : Forwarded s u := by
  unfold Forwarded at h
  rw [h] at k
  exact k

theorem sendStatus_forwarded (c : StatusCode) (p : Port) (f : Frame) (s : State) : Forwarded s (sendStatus c p f s) := by
  unfold sendStatus
  split
  · rfl
  · cases p <;> dsimp only <;> split <;> rfl

theorem endWaits_forwarded (c : StatusCode) (l : List (Port × Waiting)) (s : State) : Forwarded s (endWaits c l s) := by
  induction l generalizing s with
  | nil => rfl
  | cons x l ih =>
    have counted : Forwarded s (count x.1 .discarded 1 (clearSlot x.1 s)) := rfl
    exact (counted.trans (sendStatus_forwarded c x.1 x.2.frame _)).trans (ih (endWait c x s))

theorem dropQueues_forwarded (p : UpPort) (s : State) : Forwarded s (dropQueues p s) := by
  have emptied (n : Nat) (f : UpUnit → UpUnit) : Forwarded s (count (.up p) .discarded n (modUp p f s)) := rfl
  have abandoned (u : State) : Forwarded u (abandon (.up p) u) := by
    unfold abandon
    split <;> rfl
  have dropped (u : State) : Forwarded u (dropOwnWait (.up p) u) := by
    unfold dropOwnWait
    split <;> rfl
  exact ((emptied _ _).trans (abandoned _)).trans (dropped _)

/-! ### LINK_DOWN (R86, R103, R180, R191) -/

/-- The forwarding engine's part of a link loss. -/
def linkDropped (p : UpPort) (s : State) : State := refuseWaiters p (dropQueues p s)

/-- The other blocks' part of a link loss. -/
def linkClosed (p : UpPort) (s : State) : State :=
  unsubscribe p (dropRequests p (releaseHolds p (clearLearned (.up p) s)))

theorem loseLink_eq (p : UpPort) (s : State) : loseLink p s =
    if restartOn p s then restartNow (linkClosed p (linkDropped p s)) else linkClosed p (linkDropped p s) := by
  unfold loseLink linkClosed linkDropped
  rfl

theorem linkDropped_forwarded (p : UpPort) (s : State) : Forwarded s (linkDropped p s) :=
  (dropQueues_forwarded p s).trans (endWaits_forwarded .noPath _ _)

/-- What the other blocks' part of a link loss leaves. -/
structure ClosedFrame (p : UpPort) (s t : State) : Prop where
  now : t.now = s.now
  line : t.line = s.line
  power : t.power = s.power
  fwd : t.fwd = s.fwd
  therm : t.therm = s.therm
  cool : t.cool = s.cool
  light : t.light = s.light
  learned : t.route.learned = put s.route.learned (portIdx (.up p)) none
  statics : t.route.statics = s.route.statics
  requests : t.mgmt.requests = put s.mgmt.requests (upIdx p) []
  held : t.mgmt.held = if holdsFor p s then none else s.mgmt.held
  restart : t.mgmt.restart = s.mgmt.restart
  subscribed : t.ev.subscribed = put s.ev.subscribed (upIdx p) false
  notices : t.ev.notices = put s.ev.notices (upIdx p) []
  overflow : t.ev.overflow = put s.ev.overflow (upIdx p) false
  latches : t.ev.bayLatches = s.ev.bayLatches ∧ t.ev.enclLatches = s.ev.enclLatches ∧ t.ev.alert = s.ev.alert

theorem linkClosed_frame (p : UpPort) (s : State) : ClosedFrame p s (linkClosed p s) := by
  have dropped (u : State) (mgmt : u.mgmt = s.mgmt) : (dropRequests p u).mgmt = { s.mgmt with
      requests := put s.mgmt.requests (upIdx p) [], held := if holdsFor p s then none else s.mgmt.held } := by
    unfold dropRequests holdsFor
    rw [mgmt]
  have mgmt : (linkClosed p s).mgmt = { s.mgmt with
      requests := put s.mgmt.requests (upIdx p) [], held := if holdsFor p s then none else s.mgmt.held } := by
    unfold linkClosed
    rw [unsubscribe_mgmt, dropped _ (by rw [releaseHolds_mgmt, clearLearned_mgmt])]
  have ev : (linkClosed p s).ev = { s.ev with
      subscribed := put s.ev.subscribed (upIdx p) false, notices := put s.ev.notices (upIdx p) []
      overflow := put s.ev.overflow (upIdx p) false } := by
    unfold linkClosed unsubscribe
    rw [dropRequests_ev, releaseHolds_ev, clearLearned_ev]
  have route : (linkClosed p s).route = { s.route with learned := put s.route.learned (portIdx (.up p)) none } := by
    unfold linkClosed
    rw [unsubscribe_route, dropRequests_route, releaseHolds_route]
    rfl
  constructor
  case learned => rw [route]
  case statics => rw [route]
  case requests => rw [mgmt]
  case held => rw [mgmt]
  case restart => rw [mgmt]
  case subscribed => rw [ev]
  case notices => rw [ev]
  case overflow => rw [ev]
  case latches => rw [ev]; exact ⟨rfl, rfl, rfl⟩
  all_goals simp [linkClosed]

theorem linkClosed_holds (p : UpPort) (s : State) (b : Bay) : (linkClosed p s).bays[b] =
    if s.bays[b].hold = some p then { s.bays[b] with hold := none } else s.bays[b] := by
  have records : (linkClosed p s).bays[b] =
      if decide (s.bays[b].hold = some p) then { s.bays[b] with hold := none } else s.bays[b] := getElem_tab _ b
  rw [records, if_congr decide_eq_true_iff rfl rfl]

section
variable {p : UpPort} {s : State}

theorem ClosedFrame.holdsFor {t : State} (h : ClosedFrame p s t) : holdsFor p t = false := by
  unfold Machine.holdsFor
  rw [h.held]
  cases own : Machine.holdsFor p s with
  | true => rfl
  | false =>
    rw [if_neg Bool.false_ne_true]
    exact own

/-- Nothing is left of a port that has lost its link and on which no restart waits. -/
theorem linkClosed_quiet {x : State} (lost : LinkLost p x (portAt (.up p) s)) (restart : restartOn p s = false) :
    DownQuiet (linkClosed p s) p := by
  have frame := linkClosed_frame p s
  have holds (b : Bay) : (linkClosed p s).bays[b].hold ≠ some p := by
    rw [linkClosed_holds]
    split
    · exact Option.some_ne_none p ∘ Eq.symm
    · next other => exact other
  generalize linkClosed p s = t at *
  exact
    { normal := by rw [frame.fwd]; exact lost.normal
      priority := by rw [frame.fwd]; exact lost.queue
      transmitting := by rw [frame.fwd]; exact lost.transmitting
      waiting := by rw [frame.fwd]; exact lost.waiting
      requests := by rw [frame.requests, getElem_put_same]
      held := frame.holdsFor
      restart := by
        unfold restartOn at restart ⊢
        rw [frame.restart]
        exact restart
      learned := by rw [frame.learned, getElem_put_same]
      subscribed := by rw [frame.subscribed, getElem_put_same]
      holds := holds
      notices := by rw [frame.notices, getElem_put_same]
      overflow := by rw [frame.overflow, getElem_put_same]
      arbiter := by rw [frame.fwd]; exact lost.arbiter }

/-- A warm restart leaves nothing at a port whose slot is not valid (R178). -/
theorem restartNow_quiet (learned : s.route.learned[portIdx (.up p)] = none) : DownQuiet (restartNow s) p := by
  have unit : (restartNow s).fwd.up[upIdx p] = { s.fwd.up[upIdx p] with normal := [], priority := [], arbiter := 0 } :=
    getElem_tab _ _
  have record (b : Bay) : (restartNow s).bays[b] = { s.bays[b] with hold := none } := getElem_tab _ b
  exact
    { normal := by rw [unit]
      priority := by rw [unit]
      transmitting := getElem_tab _ _
      waiting := getElem_tab _ _
      requests := getElem_tab _ _
      held := rfl
      restart := rfl
      learned := learned
      subscribed := getElem_tab _ _
      holds := fun b => by rw [record]; exact Option.some_ne_none p ∘ Eq.symm
      notices := getElem_tab _ _
      overflow := getElem_tab _ _
      arbiter := by rw [unit] }

end

/-! ### The other ports (R73, R74, R86) -/

section
variable {p : UpPort} {q : Port} {s : State}

theorem portAt_linkDropped_own : LinkLost p s (portAt (.up p) (linkDropped p s)) := by
  unfold linkDropped
  rw [portAt_refuseWaiters_own]
  exact dropQueues_lost p s

theorem dropQueues_waiting (hq : q ≠ .up p) : (dropQueues p s).fwd.waiting[portIdx q] = s.fwd.waiting[portIdx q] :=
  congrArg PortState.waiting (portAt_dropQueues_ne hq s)

theorem portAt_linkDropped_idle (hq : q ≠ .up p) (h : waitingFor (.up p) q s = []) :
    portAt q (linkDropped p s) = portAt q s := by
  have idle : waitingFor (.up p) q (dropQueues p s) = [] := by
    rw [← h]
    unfold waitingFor
    rw [dropQueues_waiting hq]
  unfold linkDropped
  rw [portAt_refuseWaiters_idle idle, portAt_dropQueues_ne hq]

/-- The answer to a frame whose way out has closed. -/
def noPathAnswer (s : State) (f : Frame) : Held := ⟨statusFrame (switchAddr s) .noPath f, .built⟩

theorem portAt_linkDropped_waits (hq : q ≠ .up p) {w : Waiting} (slot : s.fwd.waiting[portIdx q] = some w)
    (target : w.target = .up p) : portAt q (linkDropped p s) =
      (portAt q s).refused w.frame (noPathAnswer s w.frame) (activityMark s.now s.light.hold) := by
  have dropped := dropQueues_forwarded p s
  have now : (dropQueues p s).now = s.now := dropped.now
  have hold : (dropQueues p s).light.hold = s.light.hold := dropped.hold
  have strap : (dropQueues p s).addrStrap = s.addrStrap := dropped.strap
  unfold linkDropped noPathAnswer
  rw [portAt_refuseWaiters_waits hq ((dropQueues_waiting hq).trans slot) target, portAt_dropQueues_ne hq, now, hold,
    switchAddr_congr strap]

theorem answeredAt_up : answeredAt (.up p) q s = (waitingFor (.up p) q s).filter fun f => decide (f.kind ≠ .status) := by
  cases q <;> rfl

/-- What a closing upstream port adds to the counters of a port that waits for it. -/
theorem closingCounts_eq {f : Frame} (h : waitingFor (.up p) q s = [f]) (k : CounterKind) :
    closingCounts (.up p) q s k = refusalCounts ((portAt q s).size - (portAt q s).queue.length) (answersOf f).length k := by
  have answered : answeredAt (.up p) q s = answersOf f := by
    rw [answeredAt_up, h]
    rfl
  rw [← statusPlaces_eq]
  cases k with
  | discarded => exact congrArg List.length h
  | statusSent => unfold closingCounts refusalCounts; rw [answered]
  | statusDropped => unfold closingCounts refusalCounts; rw [answered]
  | _ => rfl

theorem closingCounts_idle (h : waitingFor (.up p) q s = []) (k : CounterKind) : closingCounts (.up p) q s k = 0 := by
  have answered : answeredAt (.up p) q s = [] := by
    rw [answeredAt_up, h]
    rfl
  cases k with
  | discarded => exact congrArg List.length h
  | statusSent => unfold closingCounts; rw [answered]; exact Nat.zero_min _
  | statusDropped => unfold closingCounts; rw [answered]; exact Nat.zero_sub _
  | _ => rfl

end

theorem portAt_normal (u : UpPort) (s : State) : (portAt (.up u) s).normal = s.fwd.up[upIdx u].normal := rfl

/-- A link loss closes its port: every other port is as it was, or its wait is answered NO_PATH. -/
theorem linkDropped_closed {p : UpPort} {s : State} (hb : QueuesBounded s) :
    Closed .noPath 0 (.up p) s (linkDropped p s) where
  answers q hq := by
    refine ⟨[], ?_, fun _ => rfl⟩
    rw [List.append_nil, statusQueue_eq, statusQueue_eq, statusPlaces_eq, answeredAt_up]
    rcases waitingFor_cases (.up p) q s with idle | ⟨w, slot, target, waits⟩
    · rw [idle, portAt_linkDropped_idle hq idle, List.filter_nil, List.take_nil, List.map_nil, List.append_nil]
    · rw [waits, portAt_linkDropped_waits hq slot target]
      exact PortState.refused_queue (portAt q s) w.frame (noPathAnswer s) _
  slots q hq := by
    change (portAt q (linkDropped p s)).waiting = _
    rcases waitingFor_cases (.up p) q s with idle | ⟨w, slot, target, waits⟩
    · rw [if_pos idle, portAt_linkDropped_idle hq idle]
      rfl
    · rw [waits, if_neg (List.cons_ne_nil _ _), portAt_linkDropped_waits hq slot target, (PortState.refused_rest _ _ _ _).1]
  counters q k hq := by
    change (portAt q (linkDropped p s)).counters[k.idx] = _
    have low : (portAt q s).counters[k.idx] ≤ Config.counterMax := hb.counters q k
    rcases waitingFor_cases (.up p) q s with idle | ⟨w, slot, target, waits⟩
    · rw [closingCounts_idle idle, portAt_linkDropped_idle hq idle]
      exact (Nat.min_eq_right low).symm
    · rw [closingCounts_eq waits, portAt_linkDropped_waits hq slot target, PortState.refused_counter _ _ _ _ _ low]
      rfl
  discarded := portAt_linkDropped_own.discarded
  ownCounters k hk := portAt_linkDropped_own.others k hk
  transmissions q hq := by
    change (portAt q (linkDropped p s)).transmitting = _
    rcases waitingFor_cases (.up p) q s with idle | ⟨w, slot, target, -⟩
    · rw [portAt_linkDropped_idle hq idle]
      rfl
    · rw [portAt_linkDropped_waits hq slot target, (PortState.refused_rest _ _ _ _).2.1]
      rfl
  normal v hv := by
    rw [← portAt_normal, ← portAt_normal]
    rcases waitingFor_cases (.up p) (.up v) s with idle | ⟨w, slot, target, -⟩
    · rw [portAt_linkDropped_idle hv idle]
    · rw [portAt_linkDropped_waits hv slot target, (PortState.refused_rest _ _ _ _).2.2.1]

end Sys2Proof.Machine

namespace Sys2Proof.Machine

/-! ### The end of a link report (R67, R86, R87) -/

/-- A change that brings no report, no attempt, no notice and no turn of ALERT. -/
structure Uneventful (s u : State) : Prop where
  power : u.power = s.power
  therm : u.therm = s.therm
  cool : u.cool = s.cool
  alert : u.ev.alert = s.ev.alert
  state : ∀ b : Bay, u.bays[b].state = s.bays[b].state
  zone : ∀ b : Bay, u.bays[b].activeZone = s.bays[b].activeZone
  notices : NoticesReleased u

/-- After such a change only the pins follow. -/
theorem Uneventful.settle {s u : State} (h : Uneventful s u) (k : AtRest s) : settle u = drivePins u := by
  obtain ⟨hot, blocks⟩ := k.reported.of_zones h.therm h.cool (congrArg PowerBlock.blocked h.power) h.state h.zone
  have alert : driveAlert u = u := by
    refine (driveAlert_eq_self_iff u).2 (.trans ?_ (((driveAlert_eq_self_iff s).1 k.alert).trans h.alert.symm))
    exact alertCondition_of_faults h.cool fun b => by rw [h.state]
  rw [settle_eq_finish u hot blocks ((congrArg PowerBlock.attemptAsked h.power).trans k.asked), finish_of_released u h.notices,
    alert]

section
variable {p : UpPort} {s : State}

theorem linkUp_opens (h : AtRest s) (down : s.fwd.up[upIdx p].linkUp = false) :
    exec (.linkUp p) s = .next (modUp p (fun u => { u with linkUp := true }) s) := by
  have priority (q : UpPort) : (modUp p (fun u => { u with linkUp := true }) s).fwd.up[upIdx q].priority =
      s.fwd.up[upIdx q].priority := by
    rw [modUp_up]
    by_cases e : q = p
    · subst e
      rw [getElem_upd_same]
    · rw [getElem_upd_ne _ _ (upIdx_ne e)]
  have notices : NoticesReleased (modUp p (fun u => { u with linkUp := true }) s) := fun q => by
    have still := h.notices q
    unfold releasable priorityRoom holdsFor at still ⊢
    rw [priority]
    exact still
  have opened : Uneventful s (modUp p (fun u => { u with linkUp := true }) s) :=
    ⟨rfl, rfl, rfl, rfl, fun _ => rfl, fun _ => rfl, notices⟩
  have pins : drivePins (modUp p (fun u => { u with linkUp := true }) s) = modUp p (fun u => { u with linkUp := true }) s := by
    obtain ⟨lines, patterns⟩ := (drivePins_eq_self_iff s).1 h.pins
    exact (drivePins_eq_self_iff _).2 ⟨fun b => driven_congr rfl rfl rfl rfl rfl rfl (lines b), patterns⟩
  change execLinkUp p s = _
  unfold execLinkUp
  rw [if_neg (by rw [down]; exact Bool.false_ne_true), opened.settle h, pins]

theorem notices_none {q : UpPort} (h : s.ev.notices[upIdx q] = []) : releasable q s = false :=
  Bool.eq_false_iff.2 fun k => ((releasable_iff q s).1 k).1 h

theorem portAt_priority (q : UpPort) (u : State) : (portAt (.up q) u).queue = u.fwd.up[upIdx q].priority := rfl

theorem portAt_linkUp (q : UpPort) (u : State) : (portAt (.up q) u).linkUp = u.fwd.up[upIdx q].linkUp := rfl

/-- No priority queue of another port gets shorter. -/
theorem linkDropped_priority {q : UpPort} (hq : q ≠ p) :
    s.fwd.up[upIdx q].priority.length ≤ (linkDropped p s).fwd.up[upIdx q].priority.length := by
  have other : Port.up q ≠ .up p := fun e => hq (Port.up.inj e)
  rw [← portAt_priority, ← portAt_priority]
  rcases waitingFor_cases (.up p) (.up q) s with idle | ⟨w, slot, target, -⟩
  · rw [portAt_linkDropped_idle other idle]
  · rw [portAt_linkDropped_waits other slot target, PortState.refused_queue _ w.frame (noPathAnswer s), List.length_append]
    exact Nat.le_add_right _ _

/-- The other blocks' part of a link loss releases no notice of another port. -/
theorem linkClosed_notices {v : State} (h : NoticesReleased s) (forwarded : Forwarded s v)
    (longer : ∀ q : UpPort, q ≠ p → s.fwd.up[upIdx q].priority.length ≤ v.fwd.up[upIdx q].priority.length) :
    NoticesReleased (linkClosed p v) := fun q => by
  have frame := linkClosed_frame p v
  have ev : v.ev = s.ev := (congrArg State.ev forwarded.eq).trans rfl
  have route : v.route = s.route := (congrArg State.route forwarded.eq).trans rfl
  have mgmt : v.mgmt = s.mgmt := (congrArg State.mgmt forwarded.eq).trans rfl
  by_cases hq : q = p
  · subst hq
    exact notices_none (by rw [frame.notices, getElem_put_same])
  · refine Bool.eq_false_iff.2 fun k => Bool.eq_false_iff.1 (h q) ((releasable_iff q s).2 ?_)
    obtain ⟨some, learned, room, free⟩ := (releasable_iff q _).1 k
    refine ⟨?_, ?_, ?_, ?_⟩
    · rw [frame.notices, getElem_put_ne _ _ (upIdx_ne hq), ev] at some
      exact some
    · rw [frame.learned, getElem_put_ne _ _ (portIdx_ne fun e => hq (Port.up.inj e)), route] at learned
      exact learned
    · unfold priorityRoom at room ⊢
      rw [frame.fwd] at room
      exact decide_eq_true (Nat.lt_of_le_of_lt (longer q hq) (of_decide_eq_true room))
    · cases own : holdsFor q s with
      | false => rfl
      | true =>
        have mine : holdsFor p v = false := by
          unfold holdsFor at own ⊢
          rw [mgmt]
          cases held : s.mgmt.held with
          | none => rfl
          | some x =>
            rw [held] at own
            exact decide_eq_false fun e => hq ((of_decide_eq_true own).symm.trans e)
        unfold holdsFor at free own
        rw [frame.held, mine, if_neg Bool.false_ne_true, mgmt] at free
        exact absurd own (Bool.eq_false_iff.1 free)

theorem linkClosed_records (b : Bay) : (linkClosed p s).bays[b].state = s.bays[b].state ∧
    (linkClosed p s).bays[b].activeZone = s.bays[b].activeZone := by
  rw [linkClosed_holds]
  split <;> exact ⟨rfl, rfl⟩

theorem linkClosed_uneventful (h : AtRest s) : Uneventful s (linkClosed p (linkDropped p s)) := by
  have forwarded := linkDropped_forwarded p s
  have frame := linkClosed_frame p (linkDropped p s)
  have bays : (linkDropped p s).bays = s.bays := (congrArg State.bays forwarded.eq).trans rfl
  exact
    { power := frame.power.trans ((congrArg State.power forwarded.eq).trans rfl)
      therm := frame.therm.trans ((congrArg State.therm forwarded.eq).trans rfl)
      cool := frame.cool.trans ((congrArg State.cool forwarded.eq).trans rfl)
      alert := frame.latches.2.2.trans ((congrArg (fun x : State => x.ev.alert) forwarded.eq).trans rfl)
      state := fun b => by rw [(linkClosed_records b).1, bays]
      zone := fun b => by rw [(linkClosed_records b).2, bays]
      notices := linkClosed_notices h.notices forwarded fun q hq => linkDropped_priority hq }

/-- A warm restart brings nothing at the end of its step. -/
theorem Uneventful.restart {u : State} (h : Uneventful s u) : Uneventful s (restartNow u) := by
  have record (b : Bay) : (restartNow u).bays[b] = { u.bays[b] with hold := none } := getElem_tab _ b
  exact
    { power := (restartNow_power u).trans h.power
      therm := (restartNow_therm u).trans h.therm
      cool := (restartNow_cool u).trans h.cool
      alert := h.alert
      state := fun b => by rw [record]; exact h.state b
      zone := fun b => by rw [record]; exact h.zone b
      notices := fun q => notices_none (getElem_tab _ _) }

theorem loseLink_uneventful (h : AtRest s) : Uneventful s (loseLink p s) := by
  have closed : Uneventful s (linkClosed p (linkDropped p s)) := linkClosed_uneventful h
  rw [loseLink_eq]
  split
  · exact closed.restart
  · exact closed

theorem loseLink_latches : (loseLink p s).ev.bayLatches = s.ev.bayLatches ∧
    (loseLink p s).ev.enclLatches = s.ev.enclLatches := by
  obtain ⟨bay, encl, -⟩ := (linkClosed_frame p (linkDropped p s)).latches
  have ev : (linkDropped p s).ev = s.ev := (congrArg State.ev (linkDropped_forwarded p s).eq).trans rfl
  have restarted (u : State) : (restartNow u).ev.bayLatches = u.ev.bayLatches ∧
      (restartNow u).ev.enclLatches = u.ev.enclLatches := ⟨rfl, rfl⟩
  rw [ev] at bay encl
  rw [loseLink_eq]
  split
  · rw [(restarted _).1, (restarted _).2]
    exact ⟨bay, encl⟩
  · exact ⟨bay, encl⟩

/-- Nothing is left of a port that loses its link, whether or not the loss brings a warm restart. -/
theorem loseLink_quiet : DownQuiet (loseLink p s) p := by
  rw [loseLink_eq]
  split
  · exact restartNow_quiet (by rw [(linkClosed_frame p _).learned, getElem_put_same])
  · next other =>
    have mgmt : (linkDropped p s).mgmt = s.mgmt := (congrArg State.mgmt (linkDropped_forwarded p s).eq).trans rfl
    refine linkClosed_quiet portAt_linkDropped_own ?_
    unfold restartOn at other ⊢
    rw [mgmt]
    exact Bool.eq_false_iff.2 other

/-- The link states after a loss: the port is DOWN, the other is as it was. -/
theorem loseLink_linkUp (q : UpPort) :
    (loseLink p s).fwd.up[upIdx q].linkUp = if q = p then false else s.fwd.up[upIdx q].linkUp := by
  have closed : (linkClosed p (linkDropped p s)).fwd.up[upIdx q].linkUp =
      if q = p then false else s.fwd.up[upIdx q].linkUp := by
    rw [(linkClosed_frame p _).fwd, ← portAt_linkUp]
    by_cases hq : q = p
    · rw [if_pos hq, hq]
      exact portAt_linkDropped_own.linkUp
    · have other : Port.up q ≠ .up p := fun e => hq (Port.up.inj e)
      rw [if_neg hq]
      rcases waitingFor_cases (.up p) (.up q) s with idle | ⟨w, slot, target, -⟩
      · rw [portAt_linkDropped_idle other idle]
        rfl
      · rw [portAt_linkDropped_waits other slot target, (PortState.refused_rest _ _ _ _).2.2.2]
        rfl
  have restarted (u : State) : (restartNow u).fwd.up[upIdx q].linkUp = u.fwd.up[upIdx q].linkUp := by
    have unit : (restartNow u).fwd.up[upIdx q] = { u.fwd.up[upIdx q] with normal := [], priority := [], arbiter := 0 } :=
      getElem_tab _ _
    rw [unit]
  rw [loseLink_eq]
  split
  · rw [restarted, closed]
  · exact closed

/-- A bay's lights change where the NO_PATH of its waiting frame joins its queue (R83). -/
theorem linkDropped_light (b : Bay) : (linkDropped p s).light.bays[b] =
    if answeredAt (.up p) (.bay b) s ≠ [] ∧ (s.fwd.bayQueue[b]).length < 8 then (markActivity b s).light.bays[b]
    else s.light.bays[b] := by
  have marked : (markActivity b s).light.bays[b] = activityMark s.now s.light.hold s.light.bays[b] := getElem_upd_same _ _ _
  have some : (portAt (.bay b) (linkDropped p s)).light =
      if answeredAt (.up p) (.bay b) s ≠ [] ∧ (s.fwd.bayQueue[b]).length < 8 then some ((markActivity b s).light.bays[b])
      else some s.light.bays[b] := by
    rw [answeredAt_up]
    rcases waitingFor_cases (.up p) (.bay b) s with idle | ⟨w, slot, target, waits⟩
    · rw [portAt_linkDropped_idle Port.noConfusion idle, idle, if_neg fun k => k.1 rfl]
      rfl
    · rw [portAt_linkDropped_waits Port.noConfusion slot target, waits, PortState.refused_light, marked]
      rfl
  rw [← apply_ite Option.some] at some
  exact Option.some.inj some

/-- The rest of a link loss that brings no warm restart. -/
theorem loseLink_closes (restart : restartOn p s = false) :
    (loseLink p s).route.statics = s.route.statics ∧
      (∀ b : Bay, (loseLink p s).bays[b] =
        if s.bays[b].hold = some p then { s.bays[b] with hold := none } else s.bays[b]) ∧
      (loseLink p s).mgmt.requests[upIdx (otherUp p)] = s.mgmt.requests[upIdx (otherUp p)] ∧
      (loseLink p s).ev.subscribed[upIdx (otherUp p)] = s.ev.subscribed[upIdx (otherUp p)] ∧
      (loseLink p s).fwd = (linkDropped p s).fwd ∧ (loseLink p s).light = (linkDropped p s).light := by
  have forwarded := (linkDropped_forwarded p s).eq
  have frame := linkClosed_frame p (linkDropped p s)
  have holds := linkClosed_holds p (linkDropped p s)
  have route : (linkDropped p s).route = s.route := (congrArg State.route forwarded).trans rfl
  have bays : (linkDropped p s).bays = s.bays := (congrArg State.bays forwarded).trans rfl
  have mgmt : (linkDropped p s).mgmt = s.mgmt := (congrArg State.mgmt forwarded).trans rfl
  have ev : (linkDropped p s).ev = s.ev := (congrArg State.ev forwarded).trans rfl
  have ne : upIdx (otherUp p) ≠ upIdx p := upIdx_ne (by cases p <;> exact UpPort.noConfusion)
  rw [bays] at holds
  rw [loseLink_eq, if_neg (by rw [restart]; exact Bool.false_ne_true)]
  exact ⟨by rw [frame.statics, route], holds, by rw [frame.requests, getElem_put_ne _ _ ne, mgmt],
    by rw [frame.subscribed, getElem_put_ne _ _ ne, ev], frame.fwd, frame.light⟩

/-- What closing says turns on the forwarding engine alone. -/
theorem Closed.of_fwd {c : StatusCode} {n : Nat} {q : Port} {t u : State} (h : Closed c n q s t) (fwd : u.fwd = t.fwd) :
    Closed c n q s u where
  answers r hr := by
    obtain ⟨rest, joined, none⟩ := h.answers r hr
    have same : statusQueue r u = statusQueue r t := by
      cases r with
      | up v => exact congrArg (fun x : ForwardBlock => x.up[upIdx v].priority) fwd
      | bay b => exact congrArg (fun x : ForwardBlock => x.bayQueue[b]) fwd
    exact ⟨rest, same.trans joined, none⟩
  slots r hr := by rw [fwd]; exact h.slots r hr
  counters r k hr := by rw [fwd]; exact h.counters r k hr
  discarded := by rw [fwd]; exact h.discarded
  ownCounters k hk := by rw [fwd]; exact h.ownCounters k hk
  transmissions r hr := by rw [fwd]; exact h.transmissions r hr
  normal u hu := by rw [fwd]; exact h.normal u hu

end

theorem DownQuiet.pins {p : UpPort} {u : State} (h : DownQuiet u p) : DownQuiet (drivePins u) p where
  normal := by rw [drivePins_fwd]; exact h.normal
  priority := by rw [drivePins_fwd]; exact h.priority
  transmitting := by rw [drivePins_fwd]; exact h.transmitting
  waiting := by rw [drivePins_fwd]; exact h.waiting
  requests := by rw [drivePins_mgmt]; exact h.requests
  held := by unfold holdsFor; rw [drivePins_mgmt]; exact h.held
  restart := by unfold restartOn; rw [drivePins_mgmt]; exact h.restart
  learned := by rw [drivePins_route]; exact h.learned
  subscribed := by rw [drivePins_ev]; exact h.subscribed
  holds b := by rw [drivePins_bays]; exact h.holds b
  notices := by rw [drivePins_ev]; exact h.notices
  overflow := by rw [drivePins_ev]; exact h.overflow
  arbiter := by rw [drivePins_fwd]; exact h.arbiter

/-- Settles O38: after a link report only the pins follow, and a loss is followed port by port. -/
theorem linkReportsOpenAndCloseThePort : Obligations.LinkReportsOpenAndCloseThePort := by
  intro p s h
  refine ⟨linkUp_opens h, fun up => ?_, fun down => ?_, fun up => ?_⟩
  · change execLinkUp p s = _
    unfold execLinkUp
    rw [if_pos up]
  · change execLinkDown p s = _
    unfold execLinkDown
    rw [if_neg (by rw [down]; exact Bool.false_ne_true)]
  · have run : exec (.linkDown p) s = .next (drivePins (loseLink p s)) := by
      change execLinkDown p s = _
      unfold execLinkDown
      rw [if_pos up, (loseLink_uneventful h).settle h]
    have lost : Uneventful s (loseLink p s) := loseLink_uneventful h
    have quiet : DownQuiet (loseLink p s) p := loseLink_quiet
    obtain ⟨bayLatches, enclLatches⟩ := loseLink_latches (p := p) (s := s)
    have linkUp := loseLink_linkUp (p := p) (s := s)
    have closes := loseLink_closes (p := p) (s := s)
    generalize loseLink p s = u at run lost quiet bayLatches enclLatches linkUp closes
    have down := linkUp p
    have other := linkUp (otherUp p)
    rw [if_pos rfl] at down
    rw [if_neg (by cases p <;> exact UpPort.noConfusion)] at other
    refine ⟨_, run, ?_⟩
    rw [drivePins_fwd, drivePins_route, drivePins_mgmt, drivePins_ev, drivePins_power, drivePins_therm, drivePins_cool]
    refine ⟨quiet.pins, down, other, fun restart => ?_, lost.power, lost.therm, lost.cool, bayLatches, enclLatches, lost.alert⟩
    obtain ⟨statics, bays, requests, subscribed, fwd, light⟩ := closes restart
    refine ⟨statics, fun b => ?_, requests, subscribed, fun hb => ?_, fun b => ?_⟩
    · rw [drivePins_bays]
      exact bays b
    · exact (linkDropped_closed hb).of_fwd ((drivePins_fwd u).trans fwd)
    · rw [drivePins_lightBays, light]
      exact linkDropped_light b

end Sys2Proof.Machine

namespace Sys2Proof.Machine

/-! ### The budget, as the view sees it (R45, R47, R49) -/

/-- While a pending ceiling stands, the live ceiling is the committed draw and has not come below the pending one. -/
def View.Paced (v : View) : Prop := ∀ p : Nat, v.pendingCeiling = some p → p ≤ v.live ∧ v.live = v.committed

/-- The invariant of single effects behind `BudgetKept`. -/
structure View.Budgeted (v : View) : Prop where
  idle : v.Idle
  within : v.Within
  paced : v.Paced

theorem budgetKept_iff (s : State) : BudgetKept s ↔ (view s).Budgeted :=
  ⟨fun h => ⟨h.idle, h.held, h.pending⟩, fun h => ⟨h.idle, h.within, h.paced⟩⟩

/-- A step-down leaves the live ceiling at the committed draw, unless it has reached the pending ceiling, which is then gone
(R49). -/
theorem View.stepDown_paced (v : View) : v.stepDown.Paced := by
  unfold View.stepDown
  split
  · next none => exact fun p hp => nomatch none.symm.trans hp
  · next p hp =>
    split
    · exact fun _ hq => nomatch hq
    · next above =>
      rintro q hq
      cases hp.symm.trans hq
      simp only [View.committed] at above ⊢
      omega

/-- A charge that the budget allows cannot rise while a pending ceiling stands. -/
theorem View.setCharge_paced (v : View) (b : Bay) (x : Nat) (paced : v.Paced)
    (fits : x ≤ v.charge[b] ∨ v.committed - v.charge[b] + x ≤ v.live) : (v.setCharge b x).Paced := by
  have sum := sum_put v.charge b x
  have here : v.charge[b] ≤ v.committed := List.single_le_sum (fun _ _ => Nat.zero_le _) _ (by simp)
  unfold View.setCharge
  split
  · exact View.stepDown_paced _
  · intro p hp
    obtain ⟨above, live⟩ := paced p hp
    refine ⟨above, live.trans ?_⟩
    simp only [View.committed] at *
    omega

theorem Effect.keeps_paced {σ : Settings} {v w : View} (e : Effect σ v w) (h : v.Paced) : w.Paced := by
  cases e with
  | reseat => exact h
  | unseat => exact h
  | join => exact h
  | leave => exact h
  | charge b x owner fits => exact v.setCharge_paced b x h fits
  | retries => exact h
  | admission b x waits fits =>
    exact View.setCharge_paced _ b x h (.inr (Nat.le_trans (Nat.add_le_add_right (Nat.sub_le _ _) x) fits))
  | ceiling x =>
    unfold View.setCeiling
    split
    · exact fun _ hp => nomatch hp
    · next above =>
      rintro p hp
      cases hp
      exact ⟨Nat.le_of_lt (Nat.lt_of_not_le above), rfl⟩

theorem Effect.keeps_budgeted {σ : Settings} {v w : View} (e : Effect σ v w) (h : v.Budgeted) : w.Budgeted :=
  ⟨e.keeps_idle h.idle, e.keeps_within h.within, e.keeps_paced h.paced⟩

theorem Runs.budgeted {s t : State} (r : Runs s t) (h : (view s).Budgeted) : (view t).Budgeted :=
  r.1.keep (fun _ _ => Effect.keeps_budgeted) h

theorem settle_budgetKept {s : State} (h : (view s).Budgeted) : BudgetKept (settle s) :=
  (budgetKept_iff _).2 ((settle_runs s).budgeted h)

theorem powerOn_budgetKept (now : Nat) (pins : PowerOnPins) (rest : List Instr) :
    BudgetKept (State.powerOn now pins rest) where
  unpowered b _ := getElem_tab _ b
  within := Nat.zero_le _
  pending _ hp := nomatch hp

theorem Done.budgetKept {s t : State} (d : Done s t) (hb : BaysConsistent s) (h : BudgetKept s) : BudgetKept t := by
  have kept : (view s).Budgeted := (budgetKept_iff s).1 h
  cases d with
  | reset pins ht => exact ht ▸ powerOn_budgetKept _ _ _
  | idle ht => exact ht ▸ h
  | held p ht =>
    rw [ht, budgetKept_iff, (quiet_holdNext p s).1]
    exact kept
  | works u w ht =>
    rw [ht]
    rcases w with r | ⟨same, -⟩
    · exact settle_budgetKept (r.budgeted kept)
    · exact settle_budgetKept (same ▸ kept)
  | scan u run _ ht => exact ht ▸ settle_budgetKept ((run hb).budgeted ⟨kept.idle, kept.within, kept.paced⟩)

/-- Settles O6: a single effect raises a charge only as far as the live ceiling, which is the committed draw while a pending
ceiling stands, and every command is made of such effects. -/
theorem committedDrawStaysWithinTheCeiling : Obligations.CommittedDrawStaysWithinTheCeiling := by
  intro s t hb h e
  rcases step_done e with rfl | ⟨rest, d⟩
  · exact ⟨h.unpowered, h.within, h.pending⟩
  · exact d.budgetKept ⟨hb.record, ⟨hb.queue.member, hb.queue.once, hb.queue.order⟩⟩
      ⟨h.unpowered, h.within, h.pending⟩

end Sys2Proof.Machine

namespace Sys2Proof.Machine

/-! ### SET_CEILING (R48) -/

theorem setCeiling_eq {p : UpPort} {req : Frame} {v : Nat} (s : State) (hv : v = min 4000 (max 100 (arg req 0).toNat)) :
    setCeiling p req s = (applyCeiling v s, ⟨if v = (arg req 0).toNat then .ok else .okClamped,
      [wNat (applyCeiling v s).power.live, wOpt wNat (applyCeiling v s).power.pendingCeiling,
        wNat (reportedDraw (applyCeiling v s))]⟩) := by
  unfold setCeiling
  dsimp only
  rw [clamp_eq 100 4000 _ (by decide), ← hv, okOr_eq _ (v = (arg req 0).toNat) decide_eq_true_iff]

theorem applyCeiling_below {v : Nat} {s : State} (below : v < committed s) :
    applyCeiling v s = withPower { s.power with live := committed s, pendingCeiling := some v } s := by
  unfold applyCeiling
  exact if_neg (Nat.not_le.2 below)

theorem applyCeiling_lowered {v : Nat} {s : State} (within : committed s ≤ v) (low : v ≤ s.power.live) :
    applyCeiling v s = withPower { s.power with live := v, pendingCeiling := none } s := by
  unfold applyCeiling
  exact (if_pos within).trans (if_neg (Nat.not_lt.2 low))

theorem applyCeiling_raised {v : Nat} {s : State} (within : committed s ≤ v) (rise : s.power.live < v) :
    applyCeiling v s = ask (withPower { s.power with live := v, pendingCeiling := none } s) := by
  unfold applyCeiling
  exact (if_pos within).trans (if_pos rise)

/-- Without an attempt there is one committed draw to report. -/
theorem reportedDraw_of_not_asked {s : State} (h : s.power.attemptAsked = false) : reportedDraw s = committed s := by
  unfold reportedDraw
  rw [attemptIfAsked_of_not_asked s h]
  exact if_pos rfl

/-- With an attempt the draw before it or the one after it is reported (log entry 8). -/
theorem reportedDraw_ask {s : State} (h : s.power.attemptAsked = false) :
    reportedDraw (ask s) = committed s ∨ reportedDraw (ask s) = committed (attempt s) := by
  have owed : attemptIfAsked (ask s) = attempt s := by
    have clear : { ask s with power := { (ask s).power with attemptAsked := false } } = s := by
      unfold ask
      rw [← h]
    exact (if_pos rfl).trans (congrArg attempt clear)
  unfold reportedDraw
  dsimp only
  rw [owed]
  split
  · exact .inl rfl
  · split
    · exact .inr rfl
    · exact .inl rfl

section
variable {p : UpPort} {req : Frame} {s : State} (h : AtRest s) (serves : Serves 0x0130 1 p req s) {v : Nat}
  (hv : v = min 4000 (max 100 (arg req 0).toNat))
include h serves hv

/-- A ceiling that brings no attempt is written and answered, and nothing else follows. -/
theorem setCeiling_writes {live : Nat} {pending : Option Nat} (u : State)
    (hu : u = withPower { s.power with live := live, pendingCeiling := pending } (takeRequest p s))
    (written : applyCeiling v (takeRequest p s) = u) :
    exec .setCeiling s = .next (answered p req (if v = (arg req 0).toNat then .ok else .okClamped)
      [wNat live, wOpt wNat pending, wNat (committed s)] u) := by
  have unseen : Unseen s u := hu ▸ withPower_unseen _ rfl
  have asked : u.power.attemptAsked = false := hu ▸ h.asked
  have shown : u.power.live = live ∧ u.power.pendingCeiling = pending ∧ committed u = committed s := hu ▸ ⟨rfl, rfl, rfl⟩
  obtain ⟨hl, hp, hc⟩ := shown
  have effect := setCeiling_eq (p := p) (takeRequest p s) hv
  rw [written, reportedDraw_of_not_asked asked, hl, hp, hc] at effect
  exact served_atRest (body := setCeiling) (unseen.atRest h asked) (unseen.held.trans (nextRequest_free serves.next))
    serves effect

/-- A raised ceiling is written and answered, and an attempt follows. -/
theorem setCeiling_raises (within : committed s ≤ v) (rise : s.power.live < v) (raised : State)
    (hr : raised = withPower { s.power with live := v, pendingCeiling := none } (takeRequest p s)) :
    ∃ draw, (draw = committed s ∨ draw = committed (attempt raised)) ∧
      exec .setCeiling s = .next (finish (attempt (answered p req (if v = (arg req 0).toNat then .ok else .okClamped)
        [wNat v, wAbsent, wNat draw] raised))) := by
  have unseen : Unseen s raised := hr ▸ withPower_unseen _ rfl
  have asked : raised.power.attemptAsked = false := hr ▸ h.asked
  have shown : raised.power.live = v ∧ raised.power.pendingCeiling = none ∧ committed raised = committed s :=
    hr ▸ ⟨rfl, rfl, rfl⟩
  obtain ⟨hl, hp, hc⟩ := shown
  have written : applyCeiling v (takeRequest p s) = ask raised := hr ▸ applyCeiling_raised within rise
  have effect := setCeiling_eq (p := p) (takeRequest p s) hv
  rw [written, ask_live, ask_pendingCeiling, hl, hp] at effect
  exact ⟨reportedDraw (ask raised), hc ▸ reportedDraw_ask asked,
    served_attempt (unseen.reported h.reported) asked (unseen.notices h.notices) serves effect⟩

end

/-- Settles O52: the ceiling is written where nothing that the end of a step looks at stands, and a rise asks for an
attempt. -/
theorem theCeilingMovesOrWaits : Obligations.TheCeilingMovesOrWaits := by
  intro p req s h serves v r raised
  have hv : v = min 4000 (max 100 (arg req 0).toNat) := rfl
  clear_value v
  refine ⟨fun below => ?_, fun within low => ?_, fun within rise => ?_⟩
  · exact setCeiling_writes h serves hv (pending := some v) _ rfl (applyCeiling_below (s := takeRequest p s) below)
  · exact setCeiling_writes h serves hv (pending := none) _ rfl (applyCeiling_lowered (s := takeRequest p s) within low)
  · exact setCeiling_raises h serves hv within rise _ rfl

end Sys2Proof.Machine

namespace Sys2Proof.Machine

/-! ### The windows of the rotors (R139, R140, R141) -/

/-- A rotor's window gives its rpm and is closed; unless it was low, its judgement goes on with the run of windows against the
rotor's state, or ends it, and a run of the filter's length turns the state. -/
structure WindowJudged (lowFlag : Bool) (length stallRpm filter : Nat) (r r' : RotorUnit) : Prop where
  pulses : r'.pulses = 0
  rpm : r'.rpm = r.pulses * 30000 / length
  low : lowFlag = true → r'.stalled = r.stalled ∧ r'.run = r.run
  agrees : lowFlag = false → (r'.rpm < stallRpm ↔ r.stalled = true) → r'.stalled = r.stalled ∧ r'.run = 0
  runs : lowFlag = false → (r'.rpm < stallRpm ↔ r.stalled = false) → r.run + 1 < filter →
    r'.stalled = r.stalled ∧ r'.run = r.run + 1
  turns : lowFlag = false → (r'.rpm < stallRpm ↔ r.stalled = false) → filter ≤ r.run + 1 →
    r'.stalled = !r.stalled ∧ r'.run = 0

theorem addToRun_window (filter : Nat) (r : RotorUnit) :
    (addToRun filter r).pulses = r.pulses ∧ (addToRun filter r).rpm = r.rpm := by
  unfold addToRun
  split <;> exact ⟨rfl, rfl⟩

theorem addToRun_short {filter : Nat} {r : RotorUnit} (h : r.run + 1 < filter) :
    addToRun filter r = { r with run := r.run + 1 } := if_neg (Nat.not_le.2 h)

theorem addToRun_full {filter : Nat} {r : RotorUnit} (h : filter ≤ r.run + 1) :
    addToRun filter r = { r with stalled := !r.stalled, run := 0 } := if_pos h

theorem moveRotor_window (filter : Nat) (j : Judgement) (r : RotorUnit) :
    (moveRotor filter j r).pulses = r.pulses ∧ (moveRotor filter j r).rpm = r.rpm := by
  unfold moveRotor
  split
  · exact ⟨rfl, rfl⟩
  · exact addToRun_window filter r
  · exact ⟨rfl, rfl⟩
  · exact ⟨rfl, rfl⟩
  · exact addToRun_window filter r

theorem judge_bad {rpm stallRpm : Nat} (h : rpm < stallRpm) : judge false rpm stallRpm = .bad := if_pos h

theorem judge_good {rpm stallRpm : Nat} (h : ¬rpm < stallRpm) : judge false rpm stallRpm = .good := if_neg h

/-- A judgement that agrees with the state of the rotor ends its run. -/
theorem moveRotor_agrees {filter rpm stallRpm : Nat} {r : RotorUnit} (h : rpm < stallRpm ↔ r.stalled = true) :
    moveRotor filter (judge false rpm stallRpm) r = { r with run := 0 } := by
  by_cases slow : rpm < stallRpm
  · unfold moveRotor
    rw [judge_bad slow, h.1 slow]
  · unfold moveRotor
    rw [judge_good slow, Bool.eq_false_iff.2 fun hs => slow (h.2 hs)]

/-- A judgement against the state of the rotor adds to its run. -/
theorem moveRotor_against {filter rpm stallRpm : Nat} {r : RotorUnit} (h : rpm < stallRpm ↔ r.stalled = false) :
    moveRotor filter (judge false rpm stallRpm) r = addToRun filter r := by
  by_cases slow : rpm < stallRpm
  · unfold moveRotor
    rw [judge_bad slow, h.1 slow]
  · unfold moveRotor
    rw [judge_good slow, Bool.eq_true_of_not_eq_false fun hs => slow (h.2 hs)]

/-- The rotor as its closed window leaves it to the judgement. -/
def measuredRotor (length : Nat) (r : RotorUnit) : RotorUnit := { r with rpm := windowRpm r.pulses length, pulses := 0 }

theorem closeRotor_eq (lowFlag : Bool) (length stallRpm filter : Nat) (r : RotorUnit) :
    closeRotor lowFlag length stallRpm filter r =
      moveRotor filter (judge lowFlag (measuredRotor length r).rpm stallRpm) (measuredRotor length r) := rfl

theorem closeRotor_judged (lowFlag : Bool) (length stallRpm filter : Nat) (r : RotorUnit) :
    WindowJudged lowFlag length stallRpm filter r (closeRotor lowFlag length stallRpm filter r) := by
  obtain ⟨pulses, rpm⟩ := moveRotor_window filter (judge lowFlag (measuredRotor length r).rpm stallRpm)
    (measuredRotor length r)
  rw [closeRotor_eq]
  refine ⟨pulses, rpm, ?low, ?agrees, ?runs, ?turns⟩
  case low =>
    rintro rfl
    exact ⟨rfl, rfl⟩
  case agrees =>
    rintro rfl h
    rw [rpm] at h
    rw [moveRotor_agrees (r := measuredRotor length r) h]
    exact ⟨rfl, rfl⟩
  case runs =>
    rintro rfl h short
    rw [rpm] at h
    rw [moveRotor_against (r := measuredRotor length r) h, addToRun_short (r := measuredRotor length r) short]
    exact ⟨rfl, rfl⟩
  case turns =>
    rintro rfl h full
    rw [rpm] at h
    rw [moveRotor_against (r := measuredRotor length r) h, addToRun_full (r := measuredRotor length r) full]
    exact ⟨rfl, rfl⟩

end Sys2Proof.Machine

namespace Sys2Proof.Machine

/-! ### The latches of the fans (R142, R185) -/

/-- The latch of the module state `x` is SET, and `m` is in its set. -/
def FanLatched (x : FanState) (m : FanModule) (s : State) : Prop :=
  s.ev.enclLatches[(fanEvent x).idx] = true ∧ (s.ev.fanSets[fanSetIdx x])[m] = true

/-- A change of the event unit alone that keeps the bay latches, and takes no enclosure latch and no module away. -/
structure FansLatched (s t : State) : Prop where
  others : t = { s with ev := t.ev }
  bayLatches : t.ev.bayLatches = s.ev.bayLatches
  encl : EnclKept s t
  sets : ∀ (x : FanState) (m : FanModule), (s.ev.fanSets[fanSetIdx x])[m] = true → (t.ev.fanSets[fanSetIdx x])[m] = true

theorem FansLatched.refl (s : State) : FansLatched s s := ⟨rfl, rfl, .of_eq rfl, fun _ _ h => h⟩

theorem FansLatched.trans {s t u : State} (h : FansLatched s t) (k : FansLatched t u) : FansLatched s u where
  others := by rw [k.others, h.others]
  bayLatches := k.bayLatches.trans h.bayLatches
  encl := h.encl.trans k.encl
  sets x m hs := k.sets x m (h.sets x m hs)

theorem FansLatched.keeps {s t : State} (h : FansLatched s t) {x : FanState} {m : FanModule} (l : FanLatched x m s) :
    FanLatched x m t := ⟨h.encl _ l.1, h.sets x m l.2⟩

theorem FanLatched.of_ev {s t : State} {x : FanState} {m : FanModule} (h : FanLatched x m s) (ev : t.ev = s.ev) :
    FanLatched x m t := by
  unfold FanLatched
  rw [ev]
  exact h

theorem latchEncl_fanSets (k : EnclEvent) (n : Nat) (s : State) : (latchEncl k n s).ev.fanSets = s.ev.fanSets := by
  unfold latchEncl
  split
  · rfl
  · obtain ⟨-, -, sets, -⟩ := announce_keeps (.enclosure k n) { s.ev with enclLatches := put s.ev.enclLatches k.idx true }
    exact sets

theorem latchEncl_others (k : EnclEvent) (n : Nat) (s : State) : latchEncl k n s = { s with ev := (latchEncl k n s).ev } := by
  unfold latchEncl
  split <;> rfl

theorem latchFan_sets (x : FanState) (m : FanModule) (s : State) :
    (latchFan x m s).ev.fanSets = upd s.ev.fanSets (fanSetIdx x) (put · m true) := latchEncl_fanSets _ _ _

theorem latchFan_fansLatched (x : FanState) (m : FanModule) (s : State) : FansLatched s (latchFan x m s) where
  others := latchEncl_others (fanEvent x) m.val
    { s with ev := { s.ev with fanSets := upd s.ev.fanSets (fanSetIdx x) (put · m true) } }
  bayLatches := latchEncl_bayLatches _ _ _
  encl k hk := latchEncl_enclKept (fanEvent x) m.val
    { s with ev := { s.ev with fanSets := upd s.ev.fanSets (fanSetIdx x) (put · m true) } } k hk
  sets y n hs := by
    rw [latchFan_sets, getElem_upd]
    split
    · next e =>
      rw [getElem_put]
      split
      · rfl
      · rw [← e]; exact hs
    · exact hs

theorem latchFan_fanLatched (x : FanState) (m : FanModule) (s : State) : FanLatched x m (latchFan x m s) :=
  ⟨latchEncl_sets _ _ _, by rw [latchFan_sets, getElem_upd_same, getElem_put_same]⟩

/-- The modules of a list set the latches of their states, one by one. -/
theorem latchFans_fansLatched (f : FanModule → FanState) (l : List FanModule) (s : State) :
    FansLatched s (l.foldl (fun s m => latchFan (f m) m s) s) ∧
      ∀ m ∈ l, FanLatched (f m) m (l.foldl (fun s m => latchFan (f m) m s) s) := by
  induction l generalizing s with
  | nil => exact ⟨.refl s, fun m hm => nomatch hm⟩
  | cons n l ih =>
    obtain ⟨later, rest⟩ := ih (latchFan (f n) n s)
    rw [List.foldl_cons]
    refine ⟨(latchFan_fansLatched (f n) n s).trans later, fun m hm => ?_⟩
    rcases List.mem_cons.1 hm with rfl | hm
    · exact later.keeps (latchFan_fanLatched (f m) m s)
    · exact rest m hm

/-! ### The module sets stand to the end of a step -/

theorem setCharge_fanSets (b : Bay) (x : Nat) (s : State) : (setCharge b x s).ev.fanSets = s.ev.fanSets := by
  unfold setCharge stepDown
  dsimp only
  repeat' split
  all_goals first | rfl | exact latchEncl_fanSets _ _ _

theorem admitBay_fanSets (b : Bay) (s : State) : (admitBay b s).ev.fanSets = s.ev.fanSets := by
  have charged (x : Nat) (y : OcFilter) (f : BayRecord → BayRecord) (q : List QueueEntry) :
      (setFilter b y (setCharge b x (modBay b f { s with power := { s.power with queue := q } }))).ev.fanSets =
        s.ev.fanSets := by
    rw [setFilter_ev, setCharge_fanSets, modBay_ev]
  unfold admitBay
  dsimp only
  split
  · dsimp only
    rw [charged]
  · rw [charged]

theorem attemptIfAsked_fanSets (s : State) : (attemptIfAsked s).ev.fanSets = s.ev.fanSets := by
  unfold attemptIfAsked
  split
  · exact attempt_induction (fun t => t.ev.fanSets = s.ev.fanSets) (fun t b _ _ h => (admitBay_fanSets b t).trans h) _ rfl
  · rfl

theorem releaseLoop_fanSets (n : Nat) (p : UpPort) (s : State) : (releaseLoop n p s).ev.fanSets = s.ev.fanSets := by
  induction n generalizing s with
  | zero => rfl
  | succ n ih =>
    rw [releaseLoop]
    split
    · split
      · exact (ih _).trans (by rw [pushPriority_ev])
      · rfl
    · rfl

theorem settle_fanSets (s : State) : (settle s).ev.fanSets = s.ev.fanSets := by
  have released (p : UpPort) (u : State) : (release p u).ev.fanSets = u.ev.fanSets := releaseLoop_fanSets _ p u
  have finished (u : State) : (finish u).ev.fanSets = u.ev.fanSets := by
    unfold finish
    rw [drivePins_ev, driveAlert, released, released]
  rw [settle_eq, finished, attemptIfAsked_fanSets, refreshBlocks_ev, refreshHot_ev]

theorem FanLatched.settle {x : FanState} {m : FanModule} {s : State} (h : FanLatched x m s) : FanLatched x m (settle s) :=
  ⟨(settle_endKept s).encl _ h.1, by rw [settle_fanSets]; exact h.2⟩

end Sys2Proof.Machine

namespace Sys2Proof.Machine

/-! ### The parts of the update period, one by one (R130) -/

/-- A module whose two windows close with the timing of the state (R139 to R142). -/
def windowed (s : State) (m : FanModule) : ModuleUnit :=
  closeModule s.cool.periodLength s.cool.stallRpm s.cool.stallFilter s.cool.modules[m]

/-- What part 1 does to the blocks of the state. -/
structure WindowsClosed (s t : State) : Prop where
  now : t.now = s.now
  bays : t.bays = s.bays
  route : t.route = s.route
  light : t.light = s.light
  therm : t.therm = s.therm
  period : t.cool.period = s.cool.period ∧ t.cool.periodEnd = s.cool.periodEnd
  modules : ∀ m : FanModule, t.cool.modules[m] = windowed s m
  bayLatches : t.ev.bayLatches = s.ev.bayLatches
  latched : ∀ m : FanModule, (windowed s m).state ≠ s.cool.modules[m].state → FanLatched (windowed s m).state m t

theorem mem_allModules (m : FanModule) : m ∈ allModules := by revert m; decide

/-- The modules whose state their windows change. -/
def changedModules (s : State) : List FanModule :=
  allModules.filter fun m => decide ((windowed s m).state ≠ s.cool.modules[m].state)

theorem closeWindows_eq (s : State) : closeWindows s =
    refreshZoneStates ((changedModules s).foldl (fun t m => latchFan (windowed s m).state m t)
      { s with cool := { s.cool with modules := tab (windowed s) } }) := by
  unfold closeWindows changedModules
  simp only [getElem_tab]
  rfl

theorem closeWindows_closed (s : State) : WindowsClosed s (closeWindows s) := by
  obtain ⟨kept, latched⟩ := latchFans_fansLatched (fun m => (windowed s m).state) (changedModules s)
    { s with cool := { s.cool with modules := tab (windowed s) } }
  rw [closeWindows_eq]
  generalize (changedModules s).foldl (fun t m => latchFan (windowed s m).state m t) _ = u at kept latched
  have others := kept.others
  have cool : u.cool = { s.cool with modules := tab (windowed s) } := by rw [others]
  exact
    { now := by rw [refreshZoneStates_now, others]
      bays := by rw [refreshZoneStates_bays, others]
      route := by rw [refreshZoneStates_route, others]
      light := by rw [refreshZoneStates_light, others]
      therm := by rw [refreshZoneStates_therm, others]
      period := by
        unfold refreshZoneStates
        rw [cool]
        exact ⟨rfl, rfl⟩
      modules := fun m => by
        unfold refreshZoneStates
        rw [cool]
        exact getElem_tab _ m
      bayLatches := kept.bayLatches
      latched := fun m hm =>
        (latched m (List.mem_filter.2 ⟨mem_allModules m, decide_eq_true hm⟩)).of_ev (refreshZoneStates_ev u) }

theorem thermalInputs_congr {s u : State} (channels : Vector (Option Int) 4) (therm : u.therm = s.therm) :
    (thermalInputs channels u).therm = (thermalInputs channels s).therm := by
  unfold thermalInputs
  dsimp only
  rw [therm]

/-- The duty part of a module is all that part 3 changes. -/
theorem takeOutput_keeps (zones : Vector ZoneUnit 4) (m : ModuleUnit) :
    takeOutput zones m = { m with duty := (takeOutput zones m).duty } := by
  unfold takeOutput
  split <;> rfl

/-- `askOnRise` changes nothing but `power`. -/
theorem askOnRise_frame (s t : State) : (askOnRise s t).now = t.now ∧ (askOnRise s t).bays = t.bays ∧
    (askOnRise s t).route = t.route ∧ (askOnRise s t).therm = t.therm ∧ (askOnRise s t).cool = t.cool ∧
    (askOnRise s t).light = t.light ∧ (askOnRise s t).ev = t.ev := by
  unfold askOnRise
  split <;> simp

/-- The three parts of the update period on a state whose clock has come to the period's end. -/
def periodWork (channels : Vector (Option Int) 4) (s : State) : State :=
  askOnRise s (restartPeriod (zoneDemand (thermalInputs channels (closeWindows s))))

/-- What the three parts leave of the blocks of the state. -/
structure PeriodTaken (channels : Vector (Option Int) 4) (s t : State) : Prop where
  quiet : Quiet s t
  now : t.now = s.now
  bays : t.bays = s.bays
  route : t.route = s.route
  light : t.light = s.light
  periodEnd : t.cool.periodEnd = s.cool.periodEnd + s.cool.period
  periodLength : t.cool.periodLength = s.cool.period
  modules : ∀ m : FanModule, ∃ d : Nat, t.cool.modules[m] = openWindow { windowed s m with duty := d }
  therm : t.therm = (thermalInputs channels s).therm
  bayLatches : t.ev.bayLatches = s.ev.bayLatches
  latched : ∀ m : FanModule, (windowed s m).state ≠ s.cool.modules[m].state → FanLatched (windowed s m).state m t

theorem periodWork_taken (channels : Vector (Option Int) 4) (s : State) : PeriodTaken channels s (periodWork channels s) := by
  have quiet : Quiet s (periodWork channels s) := (quiet_updatePeriod channels s).trans (quiet_askOnRise s _)
  have closed := closeWindows_closed s
  unfold periodWork at quiet ⊢
  generalize closeWindows s = u at quiet closed ⊢
  obtain ⟨now, bays, route, therm, cool, light, ev⟩ :=
    askOnRise_frame s (restartPeriod (zoneDemand (thermalInputs channels u)))
  generalize askOnRise s (restartPeriod (zoneDemand (thermalInputs channels u))) = t
    at quiet now bays route therm cool light ev ⊢
  rw [restartPeriod_now, zoneDemand_now, thermalInputs_now] at now
  rw [restartPeriod_bays, zoneDemand_bays, thermalInputs_bays] at bays
  rw [restartPeriod_route, zoneDemand_route, thermalInputs_route] at route
  rw [restartPeriod_therm, zoneDemand_therm] at therm
  rw [restartPeriod_light, zoneDemand_light, thermalInputs_light] at light
  rw [restartPeriod_ev, zoneDemand_ev, thermalInputs_ev] at ev
  obtain ⟨period, periodEnd⟩ := closed.period
  exact
    { quiet := quiet
      now := now.trans closed.now
      bays := bays.trans closed.bays
      route := route.trans closed.route
      light := light.trans closed.light
      periodEnd := (congrArg CoolingBlock.periodEnd cool).trans (congrArg₂ (· + ·) periodEnd period)
      periodLength := (congrArg CoolingBlock.periodLength cool).trans period
      modules := fun m => by
        refine ⟨(takeOutput (tab (computeZone (thermalInputs channels u))) u.cool.modules[m]).duty, ?_⟩
        rw [cool, ← closed.modules m, ← takeOutput_keeps]
        exact getElem_tab _ m
      therm := therm.trans (thermalInputs_congr channels closed.therm)
      bayLatches := (congrArg EventBlock.bayLatches ev).trans closed.bayLatches
      latched := fun m hm => (closed.latched m hm).of_ev ev }

/-! ### The reports of hot readings and of blocks (R55, R116) -/

theorem zoneHot_iff (s : State) (z : Zone) : zoneHot s z = true ↔ ∃ (b : Bay) (x : Int), s.bays[b].state = .online ∧
    s.bays[b].activeZone = some z ∧ s.therm.records[b].reading = some x ∧ s.therm.warn ≤ x ∧
    s.therm.records[b].age ≤ s.therm.staleLimit := by
  unfold zoneHot
  rw [any_allBays_iff]
  refine exists_congr fun b => ?_
  unfold hotIn fresh
  cases s.therm.records[b].reading with
  | none => simp
  | some x => simp [and_assoc, and_comm (a := s.therm.warn ≤ x)]

theorem zoneFailed_iff (s : State) (z : Zone) :
    zoneFailed s z = true ↔ ∃ m : FanModule, s.cool.modules[m].zone = z ∧ s.cool.modules[m].state = .failed := by
  unfold zoneFailed
  rw [any_toList_iff]
  simp only [Bool.and_eq_true, decide_eq_true_eq]

theorem settle_therm (s : State) : (settle s).therm = (refreshHot s).therm := by
  rw [settle_eq, finish_therm, attemptIfAsked_therm, refreshBlocks_therm]

theorem settle_hot (s : State) (z : Zone) : (settle s).therm.hot[z] = zoneHot s z := by
  rw [settle_therm]
  exact getElem_tab _ z

theorem settle_sensors (s : State) : (settle s).therm.sensors = s.therm.sensors := by
  rw [settle_therm]
  rfl

theorem settle_blocked (s : State) (z : Zone) :
    (settle s).power.blocked[z] = (zoneHot s z || zoneFailed s z) := by
  obtain ⟨-, -, -, kept, -⟩ := attemptIfAsked_powerKept (refreshBlocks (refreshHot s))
  have hot : (refreshHot s).therm.hot[z] = zoneHot s z := getElem_tab _ z
  rw [settle_eq, finish_power, kept, refreshBlocks_blocked, blocksNow, getElem_tab, hot]
  rfl

end Sys2Proof.Machine

namespace Sys2Proof.Machine

/-! ### UPDATE_PERIOD (R115, R121, R130, R139 to R142) -/

theorem updatePeriod_run (channels : Vector (Option Int) 4) (s : State) : ∃ w,
    PeriodTaken channels (advance s.cool.periodEnd s) w ∧ exec (.updatePeriod channels) s = .next (settle w) :=
  ⟨_, periodWork_taken channels _, rfl⟩

theorem Quiet.charge {s t : State} (h : Quiet s t) : t.power.charge = s.power.charge := congrArg View.charge h.1
theorem Quiet.classes {s t : State} (h : Quiet s t) : t.power.classes = s.power.classes := congrArg Settings.classes h.2
theorem Quiet.warn {s t : State} (h : Quiet s t) : t.therm.warn = s.therm.warn := congrArg Settings.warn h.2
theorem Quiet.staleLimit {s t : State} (h : Quiet s t) : t.therm.staleLimit = s.therm.staleLimit :=
  congrArg Settings.staleLimit h.2

section
variable {channels : Vector (Option Int) 4} {s w : State} (h : PeriodTaken channels (advance s.cool.periodEnd s) w)
include h

/-- A module after the step: its windows are closed, and its new window is judged by the duty it has. -/
theorem PeriodTaken.settle_module (m : FanModule) : ∃ d : Nat,
    (settle w).cool.modules[m] = openWindow { windowed s m with duty := d } := by
  rw [settle_cool]
  exact h.modules m

/-- Each of the two rotors of a module has its window closed and judged. -/
theorem PeriodTaken.settle_rotor (m : FanModule) (r r' : RotorUnit)
    (hr : (r = s.cool.modules[m].rotorA ∧ r' = (settle w).cool.modules[m].rotorA) ∨
      (r = s.cool.modules[m].rotorB ∧ r' = (settle w).cool.modules[m].rotorB)) :
    WindowJudged s.cool.modules[m].lowWindow s.cool.periodLength s.cool.stallRpm s.cool.stallFilter r r' := by
  obtain ⟨d, hm⟩ := h.settle_module m
  rw [hm] at hr
  rcases hr with ⟨rfl, rfl⟩ | ⟨rfl, rfl⟩ <;> exact closeRotor_judged _ _ _ _ _

theorem PeriodTaken.settle_latches (m : FanModule) (changed : (windowed s m).state ≠ s.cool.modules[m].state) :
    FanLatched (windowed s m).state m (settle w) := (h.latched m changed).settle

theorem PeriodTaken.settle_record (b : Bay) : (settle w).therm.records[b] = ageRecord s.therm.records[b] := by
  rw [settle_records, h.therm]
  exact getElem_tab _ b

theorem PeriodTaken.settle_sensor (n : SensorNo) :
    (settle w).therm.sensors[n] = { s.therm.sensors[n] with reading := convert channels[n] } := by
  rw [settle_sensors, h.therm]
  exact getElem_tab _ n

theorem PeriodTaken.settle_hot (z : Zone) : (settle w).therm.hot[z] = true ↔
    ∃ (b : Bay) (x : Int), s.bays[b].state = .online ∧ s.bays[b].activeZone = some z ∧
      (settle w).therm.records[b].reading = some x ∧ s.therm.warn ≤ x ∧
      (settle w).therm.records[b].age ≤ s.therm.staleLimit := by
  rw [Machine.settle_hot, zoneHot_iff, settle_records, h.bays, h.quiet.warn, h.quiet.staleLimit]
  rfl

theorem PeriodTaken.settle_untouched (hb : BaysConsistent s) (b : Bay) : UntouchedOrAdmitted b s (settle w) := by
  have worked : AtMostAdmitted b s w := .of_eq (by rw [h.bays, advance_bays]) (by rw [h.quiet.charge, advance_power])
  have ended := (settle_aside b w (h.quiet.1 ▸ hb.queued)).bay
  exact (worked.trans ended h.quiet.classes).untouchedOrAdmitted

end

theorem settle_blocked_iff (s : State) (z : Zone) : (settle s).power.blocked[z] = true ↔ (settle s).therm.hot[z] = true ∨
    ∃ m : FanModule, (settle s).cool.modules[m].zone = z ∧ (settle s).cool.modules[m].state = .failed := by
  rw [settle_blocked, settle_hot, settle_cool, Bool.or_eq_true, zoneFailed_iff]

theorem ageRecord_eq (r : ThermalRecord) :
    ageRecord r = if r.reading = none then r else { r with age := min 255 (r.age + 1) } := by
  unfold ageRecord
  cases r.reading <;> rfl

theorem convert_eq (c : Option Int) :
    convert c = match c with
      | none => none
      | some x => if -20 ≤ x ∧ x ≤ 120 then some x else none := by
  unfold convert validTemp
  cases c with
  | none => rfl
  | some x => simp only [Bool.and_eq_true, decide_eq_true_eq]

/-- Settles O39: the three parts of the period leave the bays alone, so the settling that follows reports what they
computed, and admits at most. -/
theorem updatePeriodJudgesAndAges : Obligations.UpdatePeriodJudgesAndAges := by
  constructor
  · intro channels s
    obtain ⟨w, taken, run⟩ := updatePeriod_run channels s
    refine ⟨_, run, (settle_now w).trans taken.now, ?_, ?_, fun m => ⟨fun r r' hr => ?_, ?_, fun changed => ?_, ?_⟩⟩
    · exact (congrArg CoolingBlock.periodEnd (settle_cool w)).trans taken.periodEnd
    · exact (congrArg CoolingBlock.periodLength (settle_cool w)).trans taken.periodLength
    · obtain ⟨pulses, rpm, low, agrees, runs, turns⟩ := taken.settle_rotor m r r' hr
      exact ⟨pulses, rpm, low, agrees, runs, turns⟩
    · obtain ⟨d, hm⟩ := taken.settle_module m
      rw [hm]
      rfl
    · obtain ⟨_, hm⟩ := taken.settle_module m
      have state : (settle w).cool.modules[m].state = (windowed s m).state := by rw [hm]; rfl
      have latched := taken.settle_latches m (state ▸ changed)
      rw [← state] at latched
      exact latched
    · obtain ⟨d, hm⟩ := taken.settle_module m
      rw [hm]
      rfl
  · intro channels s hb
    obtain ⟨w, taken, run⟩ := updatePeriod_run channels s
    refine ⟨_, run, fun b => ?_, fun n => ?_, taken.settle_hot, settle_blocked_iff w, taken.settle_untouched hb,
      (settle_route w).trans taken.route, ?_, ?_⟩
    · rw [taken.settle_record, ageRecord_eq]
    · have shown := taken.settle_sensor n
      rw [convert_eq] at shown
      exact shown
    · exact (settle_lightBays w).trans (congrArg LightBlock.bays taken.light)
    · exact (settle_endKept w).bayLatches.trans taken.bayLatches

end Sys2Proof.Machine

namespace Sys2Proof.Machine

/-! ### Fields and the bytes that carry them (section 12.1) -/

/-- The bytes of a field, put together again, are the field. -/
theorem addrBytes_join (a : Addr) : a.extractLsb' 16 8 ++ a.extractLsb' 8 8 ++ a.extractLsb' 0 8 = a := by
  rw [BitVec.extractLsb'_append_extractLsb'_eq_extractLsb' (show 16 = 8 + 8 from rfl),
    BitVec.extractLsb'_append_extractLsb'_eq_extractLsb' (show 8 = 0 + 8 from rfl)]
  exact BitVec.extractLsb'_eq_self

theorem wordBytes_join (w : Word) :
    w.extractLsb' 24 8 ++ w.extractLsb' 16 8 ++ w.extractLsb' 8 8 ++ w.extractLsb' 0 8 = w := by
  rw [BitVec.extractLsb'_append_extractLsb'_eq_extractLsb' (show 24 = 16 + 8 from rfl),
    BitVec.extractLsb'_append_extractLsb'_eq_extractLsb' (show 16 = 8 + 8 from rfl),
    BitVec.extractLsb'_append_extractLsb'_eq_extractLsb' (show 8 = 0 + 8 from rfl)]
  exact BitVec.extractLsb'_eq_self

/-- The low byte of a field that ends in the byte `b`, and what lies above it. -/
theorem extractLsb'_append_low {n : Nat} (x : BitVec n) (b : Byte) : (x ++ b).extractLsb' 0 8 = b := by
  ext i hi
  simp [BitVec.getLsbD_append, hi]

theorem extractLsb'_append_high {n : Nat} (x : BitVec n) (b : Byte) (k : Nat) :
    (x ++ b).extractLsb' (k + 8) 8 = x.extractLsb' k 8 := by
  ext i hi
  simp only [BitVec.getElem_extractLsb', BitVec.getLsbD_append]
  rw [if_neg (by omega), show k + 8 + i - 8 = k + i by omega]

theorem halfBytes_of_bytes (x y : Byte) : halfBytes (x ++ y) = [x, y] := by
  unfold halfBytes
  rw [extractLsb'_append_low, extractLsb'_append_high x y 0, BitVec.extractLsb'_eq_self]

theorem addrBytes_of_bytes (x y z : Byte) : addrBytes (x ++ y ++ z) = [x, y, z] := by
  unfold addrBytes
  rw [extractLsb'_append_low, extractLsb'_append_high _ z 8, extractLsb'_append_high _ z 0, extractLsb'_append_low,
    extractLsb'_append_high x y 0, BitVec.extractLsb'_eq_self]

theorem wordBytes_of_bytes (x y z w : Byte) : wordBytes (x ++ y ++ z ++ w) = [x, y, z, w] := by
  unfold wordBytes
  rw [extractLsb'_append_low, extractLsb'_append_high _ w 16, extractLsb'_append_high _ w 8, extractLsb'_append_high _ w 0,
    extractLsb'_append_low, extractLsb'_append_high _ z 8, extractLsb'_append_high _ z 0, extractLsb'_append_low,
    extractLsb'_append_high x y 0, BitVec.extractLsb'_eq_self]

theorem kindOf_kindCode (k : FrameKind) : kindOf (kindCode k) = some k := by cases k <;> rfl

/-- A code that names a kind is the code of that kind. -/
theorem kindCode_of_kindOf {code : Byte} {k : FrameKind} (h : kindOf code = some k) : kindCode k = code := by
  apply BitVec.eq_of_toNat_eq
  unfold kindOf at h
  split at h
  case h_7 => exact absurd h (by simp)
  all_goals next e => rw [e, ← Option.some.inj h]; rfl

/-! ### What the four tests of R69 ask of the bytes of a frame -/

theorem byteAt_append_right (l r : List Byte) (k : Nat) : byteAt (l ++ r) (l.length + k) = byteAt r k := by
  unfold byteAt
  rw [List.getD_append_right _ _ _ _ (Nat.le_add_right _ _), Nat.add_sub_cancel_left]

/-- The check word is read where the body ends. -/
theorem wordAt_append (l : List Byte) (x y z w : Byte) : wordAt (l ++ [x, y, z, w]) l.length = x ++ y ++ z ++ w := by
  unfold wordAt
  rw [byteAt_append_right l _ 1, byteAt_append_right l _ 2, byteAt_append_right l _ 3, ← Nat.add_zero l.length,
    byteAt_append_right l _ 0]
  rfl

/-- The header that these twelve bytes spell, over the payload that follows. -/
def frameOf (kind : FrameKind) (t₀ t₁ d₀ d₁ d₂ s₀ s₁ s₂ c₀ c₁ : Byte) (payload : List Byte) : Frame where
  kind := kind
  tag := t₀ ++ t₁
  dest := d₀ ++ d₁ ++ d₂
  src := s₀ ++ s₁ ++ s₂
  carried := c₀ ++ c₁
  payload := payload

theorem headerBytes_frameOf (kind : FrameKind) (t₀ t₁ d₀ d₁ d₂ s₀ s₁ s₂ c₀ c₁ : Byte) (payload : List Byte) :
    headerBytes (frameOf kind t₀ t₁ d₀ d₁ d₂ s₀ s₁ s₂ c₀ c₁ payload) =
      [kindCode kind, BitVec.ofNat 8 (payload.length / 4), t₀, t₁, d₀, d₁, d₂, s₀, s₁, s₂, c₀, c₁] := by
  unfold headerBytes frameOf Frame.words
  dsimp only
  rw [halfBytes_of_bytes, halfBytes_of_bytes, addrBytes_of_bytes, addrBytes_of_bytes]
  rfl

/-- The tests of R69, on a header, a payload and a check word. -/
theorem parseFrame_append (k l t₀ t₁ d₀ d₁ d₂ s₀ s₁ s₂ c₀ c₁ : Byte) (payload : List Byte) (x y z w : Byte) :
    let body := [k, l, t₀, t₁, d₀, d₁, d₂, s₀, s₁, s₂, c₀, c₁] ++ payload
    parseFrame (body ++ [x, y, z, w]) =
      if payload.length = 4 * l.toNat ∧ crc32 body = x ++ y ++ z ++ w then
        (kindOf k).map fun kind => frameOf kind t₀ t₁ d₀ d₁ d₂ s₀ s₁ s₂ c₀ c₁ payload
      else none := by
  intro body
  have size : (body ++ [x, y, z, w]).length = 12 + payload.length + 4 := by
    simp only [body, List.length_append, List.length_cons, List.length_nil]
  have end_ : 12 + payload.length + 4 - 4 = body.length := by
    simp only [body, List.length_append, List.length_cons, List.length_nil]
    omega
  have taken : ((body ++ [x, y, z, w]).drop 12).take (12 + payload.length + 4 - 16) = payload := by
    rw [show 12 + payload.length + 4 - 16 = payload.length by omega]
    exact List.take_left
  have length : byteAt (body ++ [x, y, z, w]) 1 = l := rfl
  unfold parseFrame
  dsimp only
  rw [size, taken, end_, List.take_left, wordAt_append, length]
  by_cases fits : payload.length = 4 * l.toNat
  · rw [if_neg (by omega), if_neg (show ¬(12 + payload.length + 4 ≠ 12 + 4 * l.toNat + 4) by omega)]
    by_cases sound : crc32 body = x ++ y ++ z ++ w
    · rw [if_neg (not_not.2 sound), if_pos ⟨fits, sound⟩]
      change (match kindOf k with | none => none | some kind => some _) = _
      cases kindOf k <;> rfl
    · rw [if_pos sound, if_neg (show ¬(_ ∧ crc32 body = x ++ y ++ z ++ w) from fun h => sound h.2)]
  · rw [if_neg (show ¬(payload.length = 4 * l.toNat ∧ _) from fun h => fits h.1)]
    split
    · rfl
    · rw [if_pos (show 12 + payload.length + 4 ≠ 12 + 4 * l.toNat + 4 by omega)]

/-- Bytes that pass the first test of R69 are a header, a payload and a check word. -/
theorem exists_parts {bytes : List Byte} (long : 16 ≤ bytes.length) :
    ∃ (k l t₀ t₁ d₀ d₁ d₂ s₀ s₁ s₂ c₀ c₁ : Byte) (payload : List Byte) (x y z w : Byte),
      bytes = [k, l, t₀, t₁, d₀, d₁, d₂, s₀, s₁, s₂, c₀, c₁] ++ payload ++ [x, y, z, w] := by
  obtain ⟨k, l, t₀, t₁, d₀, d₁, d₂, s₀, s₁, s₂, c₀, c₁, rest, rfl⟩ :
      ∃ (k l t₀ t₁ d₀ d₁ d₂ s₀ s₁ s₂ c₀ c₁ : Byte) (rest : List Byte),
        bytes = k :: l :: t₀ :: t₁ :: d₀ :: d₁ :: d₂ :: s₀ :: s₁ :: s₂ :: c₀ :: c₁ :: rest := by
    match bytes, long with
    | k :: l :: t₀ :: t₁ :: d₀ :: d₁ :: d₂ :: s₀ :: s₁ :: s₂ :: c₀ :: c₁ :: rest, _ =>
      exact ⟨k, l, t₀, t₁, d₀, d₁, d₂, s₀, s₁, s₂, c₀, c₁, rest, rfl⟩
  have four : (rest.drop (rest.length - 4)).length = 4 := by
    simp only [List.length_cons] at long
    rw [List.length_drop]
    omega
  obtain ⟨x, y, z, w, tail⟩ : ∃ x y z w : Byte, rest.drop (rest.length - 4) = [x, y, z, w] := by
    match rest.drop (rest.length - 4), four with
    | [x, y, z, w], _ => exact ⟨x, y, z, w, rfl⟩
  refine ⟨k, l, t₀, t₁, d₀, d₁, d₂, s₀, s₁, s₂, c₀, c₁, rest.take (rest.length - 4), x, y, z, w, ?_⟩
  rw [← tail, List.append_assoc, List.take_append_drop]
  rfl

/-- Every frame is spelt by the bytes of its fields. -/
theorem frame_eq_frameOf (f : Frame) :
    f = frameOf f.kind (f.tag.extractLsb' 8 8) (f.tag.extractLsb' 0 8) (f.dest.extractLsb' 16 8) (f.dest.extractLsb' 8 8)
      (f.dest.extractLsb' 0 8) (f.src.extractLsb' 16 8) (f.src.extractLsb' 8 8) (f.src.extractLsb' 0 8)
      (f.carried.extractLsb' 8 8) (f.carried.extractLsb' 0 8) f.payload := by
  unfold frameOf
  rw [halfBytes_join, halfBytes_join, addrBytes_join, addrBytes_join]

/-- Sent bytes are read back as the frame (R69, R199). -/
theorem parseFrame_frameBytes {f : Frame} (whole : f.payload.length % 4 = 0) (short : f.payload.length ≤ 1020) :
    parseFrame (frameBytes f) = some f := by
  have size : f.payload.length = 4 * (BitVec.ofNat 8 f.words).toNat := by
    unfold Frame.words
    rw [BitVec.toNat_ofNat]
    omega
  refine (parseFrame_append _ _ _ _ _ _ _ _ _ _ _ _ f.payload _ _ _ _).trans ?_
  rw [if_pos ⟨size, (wordBytes_join _).symm⟩, kindOf_kindCode, Option.map_some, ← frame_eq_frameOf]

/-- Bytes that pass the four tests are those of the frame they are read as (R69). -/
theorem frameBytes_of_parseFrame {bytes : List Byte} {f : Frame} (h : parseFrame bytes = some f) : frameBytes f = bytes := by
  have long : 16 ≤ bytes.length := by
    by_contra short
    unfold parseFrame at h
    rw [if_pos (.inl (Nat.lt_of_not_le short))] at h
    cases h
  obtain ⟨k, l, t₀, t₁, d₀, d₁, d₂, s₀, s₁, s₂, c₀, c₁, payload, x, y, z, w, rfl⟩ := exists_parts long
  rw [parseFrame_append] at h
  split at h
  case isFalse => cases h
  next tests =>
  obtain ⟨size, check⟩ := tests
  obtain ⟨kind, named, rfl⟩ := Option.map_eq_some_iff.1 h
  have words : BitVec.ofNat 8 (payload.length / 4) = l := by
    rw [size, Nat.mul_div_cancel_left _ (by decide), BitVec.ofNat_toNat, BitVec.setWidth_eq]
  have header := headerBytes_frameOf kind t₀ t₁ d₀ d₁ d₂ s₀ s₁ s₂ c₀ c₁ payload
  rw [words, kindCode_of_kindOf named] at header
  unfold frameBytes
  rw [header]
  change _ ++ payload ++ wordBytes (crc32 (_ ++ payload)) = _
  rw [check, wordBytes_of_bytes]

/-- Settles O20: the tests of R69 on header, payload and check word, and the fields byte by byte. -/
theorem framesAndBytesAgree : Obligations.FramesAndBytesAgree :=
  ⟨fun _ => parseFrame_frameBytes, fun _ _ => frameBytes_of_parseFrame⟩

end Sys2Proof.Machine

namespace Sys2Proof.Machine

/-! ### What stands at a port, and what the ports' invariants ask of it (R67, R68, R75, R79, R88) -/

/-- The places of the queue that the statuses of a port join (R75). -/
def queueSize : Port → Nat
  | .bay _ => Config.bayQueueSize
  | .up _ => Config.priorityQueueSize

/-- The port takes frames: the bay has power, or the link is UP (R67, R68). -/
def portOpen : Port → State → Bool
  | .bay b, s => enabled b s
  | .up u, s => s.fwd.up[upIdx u].linkUp

/-- Nothing stands at the port. -/
structure PortState.Idle (x : PortState) : Prop where
  queue : x.queue = []
  normal : x.normal = []
  arbiter : x.arbiter = 0
  transmitting : x.transmitting = none
  waiting : x.waiting = none

/-- No queue of the port is longer than its size, and no counter above its largest value. -/
structure PortState.Bounded (q : Port) (x : PortState) : Prop where
  queue : x.queue.length ≤ queueSize q
  normal : x.normal.length ≤ Config.normalQueueSize
  counters : ∀ k : CounterKind, x.counters[k.idx] ≤ Config.counterMax

/-- The queue that frames for the port join has room (R72, R78). -/
def PortState.room (q : Port) (x : PortState) : Bool :=
  match q with
  | .bay _ => x.queue.length < Config.bayQueueSize
  | .up _ => x.normal.length < Config.normalQueueSize

theorem queueRoom_eq (q : Port) (s : State) : queueRoom q s = (portAt q s).room q := by cases q <;> rfl

/-- Nothing of an upstream port stands in the other blocks (R103, R180, R191, R36). -/
structure BlocksQuiet (s : State) (p : UpPort) : Prop where
  requests : s.mgmt.requests[upIdx p] = []
  held : holdsFor p s = false
  restart : restartOn p s = false
  learned : s.route.learned[portIdx (.up p)] = none
  subscribed : s.ev.subscribed[upIdx p] = false
  holds : ∀ b : Bay, s.bays[b].hold ≠ some p
  notices : s.ev.notices[upIdx p] = []
  overflow : s.ev.overflow[upIdx p] = false

theorem downQuiet_iff (p : UpPort) (s : State) : DownQuiet s p ↔ (portAt (.up p) s).Idle ∧ BlocksQuiet s p :=
  ⟨fun h => ⟨⟨h.priority, h.normal, h.arbiter, h.transmitting, h.waiting⟩,
    ⟨h.requests, h.held, h.restart, h.learned, h.subscribed, h.holds, h.notices, h.overflow⟩⟩,
   fun ⟨h, k⟩ =>
    { normal := h.normal, priority := h.queue, transmitting := h.transmitting, waiting := h.waiting
      requests := k.requests, held := k.held, restart := k.restart, learned := k.learned, subscribed := k.subscribed
      holds := k.holds, notices := k.notices, overflow := k.overflow, arbiter := h.arbiter }⟩

theorem disabledQuiet_iff (b : Bay) (s : State) : DisabledQuiet s b ↔ (portAt (.bay b) s).Idle :=
  ⟨fun h => ⟨h.queue, rfl, rfl, h.transmitting, h.waiting⟩, fun h => ⟨h.queue, h.transmitting, h.waiting⟩⟩

/-- The invariant of the ports, port by port. -/
theorem portsConsistent_iff (s : State) : PortsConsistent s ↔
    (∀ q : Port, portOpen q s = false → (portAt q s).Idle) ∧
      (∀ p : UpPort, s.fwd.up[upIdx p].linkUp = false → BlocksQuiet s p) ∧
      ∀ (q : Port) (w : Waiting), (portAt q s).waiting = some w → targetOpen s w.target = true := by
  constructor
  · intro h
    refine ⟨fun q hq => ?_, fun p hp => ((downQuiet_iff p s).1 (h.down p hp)).2, h.targets⟩
    cases q with
    | bay b => exact (disabledQuiet_iff b s).1 (h.disabled b hq)
    | up p => exact ((downQuiet_iff p s).1 (h.down p hq)).1
  · rintro ⟨idle, blocks, targets⟩
    exact ⟨fun p hp => (downQuiet_iff p s).2 ⟨idle (.up p) hp, blocks p hp⟩,
      fun b hb => (disabledQuiet_iff b s).2 (idle (.bay b) hb), targets⟩

theorem queuesBounded_iff (s : State) : QueuesBounded s ↔ (∀ q : Port, (portAt q s).Bounded q) ∧
    (∀ p : UpPort, (s.mgmt.requests[upIdx p]).length ≤ Config.requestQueueSize) ∧
      ∀ p : UpPort, (s.ev.notices[upIdx p]).length ≤ Config.noticeQueueSize := by
  constructor
  · intro h
    refine ⟨fun q => ?_, h.requests, h.notices⟩
    cases q with
    | bay b => exact ⟨h.bay b, Nat.zero_le _, h.counters (.bay b)⟩
    | up p => exact ⟨h.priority p, h.normal p, h.counters (.up p)⟩
  · rintro ⟨ports, requests, notices⟩
    exact ⟨fun b => (ports (.bay b)).queue, fun p => (ports (.up p)).normal, fun p => (ports (.up p)).queue, requests, notices,
      fun q => (ports q).counters⟩

theorem waitersBlocked_iff (s : State) : WaitersBlocked s ↔
    ∀ (q : Port) (w : Waiting), (portAt q s).waiting = some w → (portAt w.target s).room w.target = false := by
  unfold WaitersBlocked
  simp only [queueRoom_eq]
  rfl

theorem PortsConsistent.idle {s : State} (h : PortsConsistent s) (q : Port) (shut : portOpen q s = false) :
    (portAt q s).Idle := ((portsConsistent_iff s).1 h).1 q shut

/-- Where anything stands, the port is open. -/
theorem PortsConsistent.open_of {s : State} (h : PortsConsistent s) {q : Port} (busy : ¬(portAt q s).Idle) :
    portOpen q s = true := by
  by_contra shut
  exact busy (h.idle q (Bool.not_eq_true _ ▸ shut))

/-! ### A change at a port that opens no place and starts no wait -/

/-- A port keeps its bounds, does not lose its link, and no wait starts. -/
structure PortState.Eases (q : Port) (x y : PortState) : Prop where
  link : x.linkUp = true → y.linkUp = true
  bounded : x.Bounded q → y.Bounded q
  waiting : ∀ w, y.waiting = some w → ∃ v, x.waiting = some v ∧ v.target = w.target

/-- Moreover no place opens in its queue. -/
structure PortState.Steps (q : Port) (x y : PortState) : Prop extends PortState.Eases q x y where
  room : y.room q = true → x.room q = true

section
variable {q : Port} {x y z : PortState}

theorem PortState.Eases.trans (h : x.Eases q y) (k : y.Eases q z) : x.Eases q z where
  link l := k.link (h.link l)
  bounded b := k.bounded (h.bounded b)
  waiting w hw := by
    obtain ⟨v, hv, target⟩ := k.waiting w hw
    obtain ⟨u, hu, target'⟩ := h.waiting v hv
    exact ⟨u, hu, target'.trans target⟩

theorem PortState.Steps.refl (q : Port) (x : PortState) : x.Steps q x := ⟨⟨id, id, fun w h => ⟨w, h, rfl⟩⟩, id⟩

theorem PortState.Steps.trans (h : x.Steps q y) (k : y.Steps q z) : x.Steps q z :=
  ⟨h.toEases.trans k.toEases, fun r => h.room (k.room r)⟩

theorem PortState.Steps.of_eq (h : y = x) : x.Steps q y := h ▸ .refl q x

theorem PortState.counted_bounded (k : CounterKind) (n : Nat) (h : x.Bounded q) : (x.counted k n).Bounded q where
  queue := h.queue
  normal := h.normal
  counters j := by
    rw [PortState.counted_counter]
    split
    · exact Nat.min_le_left _ _
    · exact h.counters j

theorem PortState.counted_steps (k : CounterKind) (n : Nat) : x.Steps q (x.counted k n) :=
  ⟨⟨id, PortState.counted_bounded k n, fun w h => ⟨w, h, rfl⟩⟩, id⟩

theorem PortState.room_mono {q : Port} {x y : PortState} (queue : x.queue.length ≤ y.queue.length)
    (normal : x.normal.length ≤ y.normal.length) (h : y.room q = true) : x.room q = true := by
  cases q with
  | bay b => exact decide_eq_true (Nat.lt_of_le_of_lt queue (of_decide_eq_true h))
  | up u => exact decide_eq_true (Nat.lt_of_le_of_lt normal (of_decide_eq_true h))

/-- Frames join the queue of statuses as far as it has room. -/
theorem PortState.joined_steps (l : List Held) (mark : LightUnit → LightUnit) (room : x.queue.length + l.length ≤ queueSize q) :
    x.Steps q { x with queue := x.queue ++ l, light := x.light.map mark } where
  link := id
  bounded h := ⟨by rw [List.length_append]; exact room, h.normal, h.counters⟩
  room := PortState.room_mono (by rw [List.length_append]; exact Nat.le_add_right _ _) (Nat.le_refl _)
  waiting w h := ⟨w, h, rfl⟩

/-- A wait ends. -/
theorem PortState.freed_steps : x.Steps q { x with waiting := none } :=
  ⟨⟨id, fun h => ⟨h.queue, h.normal, h.counters⟩, fun _ h => absurd h (Option.some_ne_none _).symm⟩, id⟩

/-- The frame in transmission changes. -/
theorem PortState.sent_steps (h : Option Held) : x.Steps q { x with transmitting := h } :=
  ⟨⟨id, fun h => ⟨h.queue, h.normal, h.counters⟩, fun w h => ⟨w, h, rfl⟩⟩, id⟩

theorem PortState.answered_steps (h : Held) (mark : LightUnit → LightUnit) (size : x.size ≤ queueSize q) :
    x.Steps q (x.answered h mark) := by
  unfold PortState.answered
  split
  · next room => exact (PortState.joined_steps [h] mark (Nat.le_trans room size)).trans (PortState.counted_steps _ _)
  · exact PortState.counted_steps _ _

theorem PortState.refused_steps (f : Frame) (h : Held) (mark : LightUnit → LightUnit) (size : x.size ≤ queueSize q) :
    x.Steps q (x.refused f h mark) := by
  have freed : x.Steps q (({ x with waiting := none } : PortState).counted .discarded 1) :=
    PortState.freed_steps.trans (PortState.counted_steps _ _)
  unfold PortState.refused
  split
  · exact freed
  · exact freed.trans (PortState.answered_steps h mark size)

/-- A port that is shut by its link draws no answer, so what is counted there leaves it idle. -/
theorem PortState.answered_idle (h : Held) (mark : LightUnit → LightUnit) (size : x.size = 0) (idle : x.Idle) :
    (x.answered h mark).Idle := by
  unfold PortState.answered
  rw [if_neg (by rw [size]; exact Nat.not_lt_zero _)]
  exact ⟨idle.queue, idle.normal, idle.arbiter, idle.transmitting, idle.waiting⟩

end

theorem portAt_size_le (q : Port) (s : State) : (portAt q s).size ≤ queueSize q := by
  cases q with
  | bay b => exact Nat.le_refl _
  | up u =>
    unfold portAt queueSize
    dsimp only
    split
    · exact Nat.le_refl _
    · exact Nat.zero_le _

theorem portAt_size_down {u : UpPort} {s : State} (h : s.fwd.up[upIdx u].linkUp = false) : (portAt (.up u) s).size = 0 := by
  unfold portAt
  dsimp only
  rw [h, if_neg Bool.false_ne_true]

/-! ### Changes that keep what the ports' invariants say -/

/-- From `s` to `t` sizes and waits keep what they keep, and ports, under the assumption `A`. -/
structure PortKeeps (A : Prop) (s t : State) : Prop where
  bounded : QueuesBounded s → QueuesBounded t
  blocked : WaitersBlocked s → WaitersBlocked t
  sound : A → PortsConsistent s → PortsConsistent t

/-- Such a change that moreover takes no link DOWN. -/
structure PortMoves (A : Prop) (s t : State) : Prop extends PortKeeps A s t where
  links : ∀ p : UpPort, s.fwd.up[upIdx p].linkUp = true → t.fwd.up[upIdx p].linkUp = true

section
variable {A : Prop} {s t u : State}

theorem PortKeeps.trans (h : PortKeeps A s t) (k : PortKeeps A t u) : PortKeeps A s u :=
  ⟨fun b => k.bounded (h.bounded b), fun b => k.blocked (h.blocked b), fun a p => k.sound a (h.sound a p)⟩

theorem PortMoves.refl (A : Prop) (s : State) : PortMoves A s s := ⟨⟨id, id, fun _ => id⟩, fun _ => id⟩

theorem PortMoves.trans (h : PortMoves A s t) (k : PortMoves A t u) : PortMoves A s u :=
  ⟨h.toPortKeeps.trans k.toPortKeeps, fun p l => k.links p (h.links p l)⟩

theorem PortMoves.ite {p : Prop} [Decidable p] (h : PortMoves A s t) (k : PortMoves A s u) :
    PortMoves A s (if p then t else u) := by
  split
  · exact h
  · exact k

theorem PortMoves.foldl {α : Type} (f : State → α → State) (h : ∀ s x, PortMoves A s (f s x)) (l : List α) (s : State) :
    PortMoves A s (l.foldl f s) := by
  induction l generalizing s with
  | nil => exact .refl A s
  | cons x l ih => exact (h s x).trans (ih _)

/-- After a change shut ports are empty, in every block, and no bay that is still waited for leaves ONLINE. -/
structure KeepsShut (s t : State) : Prop where
  idle : ∀ q : Port, portOpen q t = false → (portAt q t).Idle
  blocks : ∀ p : UpPort, s.fwd.up[upIdx p].linkUp = false → BlocksQuiet s p → BlocksQuiet t p
  online : ∀ (q : Port) (w : Waiting) (b : Bay), (portAt q t).waiting = some w → w.target = .bay b →
    s.bays[b].state = .online → t.bays[b].state = .online

/-- A change that starts no wait and opens no place that is still waited for. -/
theorem PortMoves.of_eases (eases : ∀ q : Port, (portAt q s).Eases q (portAt q t))
    (room : ∀ (q : Port) (w : Waiting), (portAt q t).waiting = some w → (portAt w.target t).room w.target = true →
      (portAt w.target s).room w.target = true)
    (requests : ∀ p : UpPort, (s.mgmt.requests[upIdx p]).length ≤ Config.requestQueueSize →
      (t.mgmt.requests[upIdx p]).length ≤ Config.requestQueueSize)
    (notices : ∀ p : UpPort, (s.ev.notices[upIdx p]).length ≤ Config.noticeQueueSize →
      (t.ev.notices[upIdx p]).length ≤ Config.noticeQueueSize)
    (shut : A → PortsConsistent s → KeepsShut s t) : PortMoves A s t where
  bounded h := by
    obtain ⟨hp, hr, hn⟩ := (queuesBounded_iff s).1 h
    exact (queuesBounded_iff t).2 ⟨fun q => (eases q).bounded (hp q), fun p => requests p (hr p), fun p => notices p (hn p)⟩
  blocked h := by
    rw [waitersBlocked_iff] at h ⊢
    intro q w hw
    obtain ⟨v, hv, target⟩ := (eases q).waiting w hw
    have full := h q v hv
    rw [target] at full
    exact Bool.eq_false_iff.2 fun free => Bool.eq_false_iff.1 full (room q w hw free)
  sound a h := by
    obtain ⟨idle, quiet, online⟩ := shut a h
    obtain ⟨-, blocks, targets⟩ := (portsConsistent_iff s).1 h
    refine (portsConsistent_iff t).2 ⟨idle, fun p hp => ?_, fun q w hw => ?_⟩
    · have down : s.fwd.up[upIdx p].linkUp = false := Bool.eq_false_iff.2 fun up => by
        have still : t.fwd.up[upIdx p].linkUp = true := (eases (.up p)).link up
        rw [hp] at still
        cases still
      exact quiet p down (blocks p down)
    · obtain ⟨v, hv, target⟩ := (eases q).waiting w hw
      have reached := targets q v hv
      rw [target] at reached
      cases h : w.target with
      | bay b =>
        rw [h] at reached
        exact decide_eq_true (online q w b hw h (of_decide_eq_true reached))
      | up p =>
        rw [h] at reached
        exact (eases (.up p)).link reached
  links p := (eases (.up p)).link

/-- A change that opens no place and starts no wait at any port. -/
theorem PortMoves.of_steps (steps : ∀ q : Port, (portAt q s).Steps q (portAt q t))
    (requests : ∀ p : UpPort, (s.mgmt.requests[upIdx p]).length ≤ Config.requestQueueSize →
      (t.mgmt.requests[upIdx p]).length ≤ Config.requestQueueSize)
    (notices : ∀ p : UpPort, (s.ev.notices[upIdx p]).length ≤ Config.noticeQueueSize →
      (t.ev.notices[upIdx p]).length ≤ Config.noticeQueueSize)
    (shut : A → PortsConsistent s → KeepsShut s t) : PortMoves A s t :=
  .of_eases (fun q => (steps q).toEases) (fun _ w _ => (steps w.target).room) requests notices shut

/-- Of an upstream port that is DOWN nothing but the forwarding engine and lights change. -/
theorem Forwarded.keepsShut (h : Forwarded s t) (links : ∀ p : UpPort, s.fwd.up[upIdx p].linkUp = true → t.fwd.up[upIdx p].linkUp = true)
    (c : PortsConsistent s) (idle : ∀ q : Port, portOpen q s = false → (portAt q s).Idle → (portAt q t).Idle) :
    KeepsShut s t := by
  have bays : t.bays = s.bays := (congrArg State.bays h.eq).trans rfl
  have mgmt : t.mgmt = s.mgmt := (congrArg State.mgmt h.eq).trans rfl
  have ev : t.ev = s.ev := (congrArg State.ev h.eq).trans rfl
  have route : t.route = s.route := (congrArg State.route h.eq).trans rfl
  have shut (q : Port) (hq : portOpen q t = false) : portOpen q s = false := by
    cases q with
    | bay b =>
      change enabled b t = false at hq
      unfold enabled at hq
      rw [bays] at hq
      exact hq
    | up p => exact Bool.eq_false_iff.2 fun up => Bool.eq_false_iff.1 hq (links p up)
  refine ⟨fun q hq => idle q (shut q hq) (c.idle q (shut q hq)), fun p _ k => ?_, fun _ _ b _ _ hb => by rw [bays]; exact hb⟩
  exact ⟨by rw [mgmt]; exact k.requests, by unfold holdsFor; rw [mgmt]; exact k.held,
    by unfold restartOn; rw [mgmt]; exact k.restart, by rw [route]; exact k.learned, by rw [ev]; exact k.subscribed,
    by rw [bays]; exact k.holds, by rw [ev]; exact k.notices, by rw [ev]; exact k.overflow⟩

/-- Only the forwarding engine and lights change, and no place that is waited for opens. -/
theorem Forwarded.portMoves (h : Forwarded s t) (eases : ∀ q : Port, (portAt q s).Eases q (portAt q t))
    (room : ∀ (q : Port) (w : Waiting), (portAt q t).waiting = some w → (portAt w.target t).room w.target = true →
      (portAt w.target s).room w.target = true)
    (idle : A → PortsConsistent s → ∀ q : Port, portOpen q s = false → (portAt q s).Idle → (portAt q t).Idle) :
    PortMoves A s t := by
  have mgmt : t.mgmt = s.mgmt := (congrArg State.mgmt h.eq).trans rfl
  have ev : t.ev = s.ev := (congrArg State.ev h.eq).trans rfl
  exact .of_eases eases room (fun p => by rw [mgmt]; exact id) (fun p => by rw [ev]; exact id) fun a c =>
    h.keepsShut (fun p => (eases (.up p)).link) c (idle a c)

/-- Only the forwarding engine and lights change, and no place opens. -/
theorem Forwarded.portMoves_of_steps (h : Forwarded s t) (steps : ∀ q : Port, (portAt q s).Steps q (portAt q t))
    (idle : A → PortsConsistent s → ∀ q : Port, portOpen q s = false → (portAt q s).Idle → (portAt q t).Idle) :
    PortMoves A s t := h.portMoves (fun q => (steps q).toEases) (fun _ w _ => (steps w.target).room) idle

end

/-! ### Changes elsewhere: bays, routes, events -/

/-- No bay loses power or leaves ONLINE, and no hold names a port that is DOWN but those that did. -/
structure Stays (s t : State) : Prop where
  power : ∀ b : Bay, enabled b s = true → enabled b t = true
  online : ∀ b : Bay, s.bays[b].state = .online → t.bays[b].state = .online
  hold : ∀ (b : Bay) (p : UpPort), t.bays[b].hold = some p → s.bays[b].hold = some p ∨ s.fwd.up[upIdx p].linkUp = true

theorem Stays.of_bays {s t : State} (h : t.bays = s.bays) : Stays s t :=
  ⟨fun b => by unfold enabled; rw [h]; exact id, fun b => by rw [h]; exact id, fun b p => by rw [h]; exact .inl⟩

/-- A port that does not subscribe, and to which nothing was offered (R188, R191). -/
structure EventBlock.Deaf (e : EventBlock) (p : UpPort) : Prop where
  subscribed : e.subscribed[upIdx p] = false
  notices : e.notices[upIdx p] = []
  overflow : e.overflow[upIdx p] = false

/-- Notices have been offered to the ports that subscribe, or taken from them (R187, R189). -/
structure Told (e f : EventBlock) : Prop where
  bounded : ∀ p : UpPort, (e.notices[upIdx p]).length ≤ Config.noticeQueueSize →
    (f.notices[upIdx p]).length ≤ Config.noticeQueueSize
  deaf : ∀ p : UpPort, e.Deaf p → f.Deaf p

theorem Told.refl (e : EventBlock) : Told e e := ⟨fun _ => id, fun _ => id⟩

theorem Told.trans {e f g : EventBlock} (h : Told e f) (k : Told f g) : Told e g :=
  ⟨fun p b => k.bounded p (h.bounded p b), fun p d => k.deaf p (h.deaf p d)⟩

/-- A change of latches and of the ALERT line only. -/
theorem Told.of_eq {e f : EventBlock} (subscribed : f.subscribed = e.subscribed) (notices : f.notices = e.notices)
    (overflow : f.overflow = e.overflow) : Told e f :=
  ⟨fun p => by rw [notices]; exact id,
    fun p d => ⟨by rw [subscribed]; exact d.subscribed, by rw [notices]; exact d.notices, by rw [overflow]; exact d.overflow⟩⟩

theorem offerNotice_told (p : UpPort) (n : Notice) (e : EventBlock) : Told e (offerNotice p n e) := by
  unfold offerNotice
  split
  · next listens =>
    have other {q : UpPort} (d : e.Deaf q) : upIdx q ≠ upIdx p := upIdx_ne fun h => by
      have deaf := d.subscribed
      rw [h, listens] at deaf
      cases deaf
    split
    · next room =>
      refine ⟨fun q hq => ?_, fun q d => ⟨d.subscribed, (getElem_upd_ne _ _ (other d)).trans d.notices, d.overflow⟩⟩
      dsimp only
      rw [getElem_upd]
      split
      · rw [List.length_append]
        exact room
      · exact hq
    · exact ⟨fun _ => id, fun q d => ⟨d.subscribed, d.notices, (getElem_put_ne _ _ (other d)).trans d.overflow⟩⟩
  · exact .refl e

theorem announce_told (n : Notice) (e : EventBlock) : Told e (announce n e) :=
  (offerNotice_told .u0 n e).trans (offerNotice_told .u1 n _)

theorem latchBay_told (b : Bay) (k : BayEvent) (s : State) : Told s.ev (latchBay b k s).ev := by
  unfold latchBay
  split
  · exact .refl _
  · exact Told.trans (f := { s.ev with bayLatches := upd s.ev.bayLatches b (put · k.idx true) })
      (.of_eq rfl rfl rfl) (announce_told _ _)

theorem latchEncl_told (k : EnclEvent) (n : Nat) (s : State) : Told s.ev (latchEncl k n s).ev := by
  unfold latchEncl
  split
  · exact .refl _
  · exact Told.trans (f := { s.ev with enclLatches := put s.ev.enclLatches k.idx true })
      (.of_eq rfl rfl rfl) (announce_told _ _)

/-- Nothing that stands at a port changes, in no block; counters keep their bound. -/
structure Elsewhere (s t : State) : Prop where
  up : t.fwd.up = s.fwd.up
  bayQueue : t.fwd.bayQueue = s.fwd.bayQueue
  transmitting : t.fwd.transmitting = s.fwd.transmitting
  waiting : t.fwd.waiting = s.fwd.waiting
  counters : ∀ (q : Port) (k : CounterKind), (s.fwd.counters[portIdx q])[k.idx] ≤ Config.counterMax →
    (t.fwd.counters[portIdx q])[k.idx] ≤ Config.counterMax
  mgmt : t.mgmt = s.mgmt
  learned : ∀ p : UpPort, t.route.learned[portIdx (.up p)] = s.route.learned[portIdx (.up p)]
  told : Told s.ev t.ev

section
variable {A : Prop} {s t u : State}

theorem Elsewhere.steps (h : Elsewhere s t) (q : Port) : (portAt q s).Steps q (portAt q t) where
  link := by
    cases q with
    | bay b => exact id
    | up p => unfold portAt; rw [h.up]; exact id
  bounded b := by
    have queue : (portAt q t).queue = (portAt q s).queue := by
      unfold portAt; rw [h.up, h.bayQueue]
    have normal : (portAt q t).normal = (portAt q s).normal := by
      unfold portAt; rw [h.up]
    exact ⟨by rw [queue]; exact b.queue, by rw [normal]; exact b.normal, fun k => h.counters q k (b.counters k)⟩
  room := by
    rw [← queueRoom_eq, ← queueRoom_eq]
    unfold queueRoom
    rw [h.up, h.bayQueue]
    exact id
  waiting w hw := ⟨w, by unfold portAt at hw ⊢; rw [h.waiting] at hw; exact hw, rfl⟩

theorem Elsewhere.idle (h : Elsewhere s t) {q : Port} (idle : (portAt q s).Idle) : (portAt q t).Idle := by
  obtain ⟨queue, normal, arbiter, transmitting, waiting⟩ := idle
  unfold portAt at *
  dsimp only at *
  rw [← h.up] at normal arbiter
  rw [← h.up, ← h.bayQueue] at queue
  rw [← h.transmitting] at transmitting
  rw [← h.waiting] at waiting
  exact ⟨queue, normal, arbiter, transmitting, waiting⟩

theorem Elsewhere.portMoves (h : Elsewhere s t) (stays : A → PortsConsistent s → Stays s t) : PortMoves A s t := by
  refine .of_steps h.steps (fun p => by rw [h.mgmt]; exact id) h.told.bounded fun a c => ?_
  obtain ⟨power, online, hold⟩ := stays a c
  have shut (q : Port) (hq : portOpen q t = false) : portOpen q s = false := by
    cases q with
    | bay b => exact Bool.eq_false_iff.2 fun on => Bool.eq_false_iff.1 hq (power b on)
    | up p => exact Bool.eq_false_iff.2 fun up => Bool.eq_false_iff.1 hq ((h.steps (.up p)).link up)
  refine ⟨fun q hq => h.idle (c.idle q (shut q hq)), fun p down k => ?_, fun _ _ b _ _ => online b⟩
  have deaf := h.told.deaf p ⟨k.subscribed, k.notices, k.overflow⟩
  exact ⟨by rw [h.mgmt]; exact k.requests, by unfold holdsFor; rw [h.mgmt]; exact k.held,
    by unfold restartOn; rw [h.mgmt]; exact k.restart, by rw [h.learned]; exact k.learned,
    deaf.subscribed,
    fun b hb => (hold b p hb).elim (k.holds b) fun up => Bool.false_ne_true (down.symm.trans up),
    deaf.notices, deaf.overflow⟩

/-- A change that leaves the forwarding engine and the endpoint alone. -/
theorem Elsewhere.of_blocks (fwd : t.fwd = s.fwd) (mgmt : t.mgmt = s.mgmt)
    (learned : ∀ p : UpPort, t.route.learned[portIdx (.up p)] = s.route.learned[portIdx (.up p)])
    (told : Told s.ev t.ev) : Elsewhere s t :=
  ⟨by rw [fwd], by rw [fwd], by rw [fwd], by rw [fwd], fun q k => by rw [fwd]; exact id, mgmt, learned, told⟩

/-- A change of none of the blocks that ports turn on. -/
theorem Elsewhere.of_eq (fwd : t.fwd = s.fwd) (mgmt : t.mgmt = s.mgmt) (route : t.route = s.route) (ev : t.ev = s.ev) :
    Elsewhere s t :=
  .of_blocks fwd mgmt (fun p => by rw [route]) (by rw [ev]; exact .refl _)

theorem Elsewhere.refl (s : State) : Elsewhere s s := .of_eq rfl rfl rfl rfl

theorem Elsewhere.trans (h : Elsewhere s t) (k : Elsewhere t u) : Elsewhere s u :=
  ⟨k.up.trans h.up, k.bayQueue.trans h.bayQueue, k.transmitting.trans h.transmitting, k.waiting.trans h.waiting,
    fun q c b => k.counters q c (h.counters q c b), k.mgmt.trans h.mgmt, fun p => (k.learned p).trans (h.learned p),
    h.told.trans k.told⟩

theorem Elsewhere.foldl {α : Type} (f : State → α → State) (h : ∀ s x, Elsewhere s (f s x)) (l : List α) (s : State) :
    Elsewhere s (l.foldl f s) := by
  induction l generalizing s with
  | nil => exact .refl s
  | cons x l ih => exact (h s x).trans (ih _)

/-- Bays and ports stay, and what changes stands elsewhere. -/
theorem Elsewhere.still (h : Elsewhere s t) (k : Still s t) : PortMoves A s t :=
  h.portMoves fun _ _ => .of_bays k.1

end

end Sys2Proof.Machine

namespace Sys2Proof.Machine

/-! ### The flush of a bay port, port by port (R76, R84, R88) -/

/-- The answer to a frame whose bay has left power. -/
def goneAnswer (s : State) (f : Frame) : Held := ⟨statusFrame (switchAddr s) .bayGone f, .built⟩

/-- Frames are answered at the port, one after another. -/
def PortState.answeredAll (hs : List Held) (mark : LightUnit → LightUnit) (x : PortState) : PortState :=
  hs.foldl (fun x h => x.answered h mark) x

/-- The frames of a list that arrived on an upstream port and draw an answer (R73, R84). -/
def answeredIn (u : UpPort) (l : List Held) : List Frame :=
  ((l.filter fun h => decide (h.origin = .arrived (.up u))).map Held.frame).filter fun f => decide (f.kind ≠ .status)

theorem answeredIn_cons (u : UpPort) (h : Held) (l : List Held) : answeredIn u (h :: l) =
    (if h.origin = .arrived (.up u) ∧ h.frame.kind ≠ .status then [h.frame] else []) ++ answeredIn u l := by
  unfold answeredIn
  rw [List.filter_cons]
  by_cases origin : h.origin = .arrived (.up u)
  · rw [if_pos (decide_eq_true origin), List.map_cons, List.filter_cons]
    by_cases kind : h.frame.kind = .status
    · rw [if_neg (by rw [decide_eq_true_iff]; exact not_not.2 kind), if_neg fun k => k.2 kind]
      rfl
    · rw [if_pos (decide_eq_true kind), if_pos ⟨origin, kind⟩]
      rfl
  · rw [if_neg (by rw [decide_eq_true_iff]; exact origin), if_neg fun k => origin k.1]
    rfl

theorem bayGone_forwarded (h : Held) (s : State) : Forwarded s (bayGone h s) := by
  unfold bayGone
  split
  · exact sendStatus_forwarded _ _ _ s
  · rfl

theorem portAt_bayGone_up (u : UpPort) (h : Held) (s : State) : portAt (.up u) (bayGone h s) =
    if h.origin = .arrived (.up u) ∧ h.frame.kind ≠ .status
    then (portAt (.up u) s).answered (goneAnswer s h.frame) (activityMark s.now s.light.hold) else portAt (.up u) s := by
  unfold bayGone
  split
  · next v origin =>
    by_cases same : v = u
    · subst same
      by_cases kind : h.frame.kind = .status
      · rw [if_neg fun k => k.2 kind]
        unfold sendStatus
        rw [if_pos kind]
      · rw [if_pos ⟨origin, kind⟩, portAt_sendStatus_same kind]
        rfl
    · rw [if_neg fun k => same (Port.up.inj (Origin.arrived.inj (origin.symm.trans k.1))),
        portAt_sendStatus_ne fun e => same (Port.up.inj e).symm]
  · next other => rw [if_neg fun k => other u k.1]

theorem portAt_bayGone_bay (c : Bay) (h : Held) (s : State) : portAt (.bay c) (bayGone h s) = portAt (.bay c) s := by
  unfold bayGone
  split
  · exact portAt_sendStatus_ne Port.noConfusion _ _
  · rfl

/-- The frames of an egress queue are answered in its order. -/
def answerGone (l : List Held) (s : State) : State := l.foldl (fun s h => bayGone h s) s

theorem answerGone_forwarded (l : List Held) (s : State) : Forwarded s (answerGone l s) := by
  induction l generalizing s with
  | nil => rfl
  | cons h l ih => exact (bayGone_forwarded h s).trans (ih _)

theorem portAt_answerGone_up (u : UpPort) (l : List Held) (s : State) : portAt (.up u) (answerGone l s) =
    (portAt (.up u) s).answeredAll ((answeredIn u l).map (goneAnswer s)) (activityMark s.now s.light.hold) := by
  induction l generalizing s with
  | nil => rfl
  | cons h l ih =>
    have first := bayGone_forwarded h s
    have next := ih (bayGone h s)
    have answer : goneAnswer (bayGone h s) = goneAnswer s := by
      funext f
      unfold goneAnswer
      rw [switchAddr_congr first.strap]
    rw [portAt_bayGone_up, answer, first.now, first.hold] at next
    refine next.trans ?_
    rw [answeredIn_cons]
    split <;> rfl

theorem portAt_answerGone_bay (c : Bay) (l : List Held) (s : State) :
    portAt (.bay c) (answerGone l s) = portAt (.bay c) s := by
  induction l generalizing s with
  | nil => rfl
  | cons h l ih => exact (ih _).trans (portAt_bayGone_bay c h s)

/-- The egress queue of a bay is emptied, and its frames are counted (R84). -/
def emptyQueue (b : Bay) (s : State) : State :=
  count (.bay b) .discarded (s.fwd.bayQueue[b]).length { s with fwd := { s.fwd with bayQueue := put s.fwd.bayQueue b [] } }

theorem flushQueue_eq (b : Bay) (s : State) : flushQueue b s = answerGone s.fwd.bayQueue[b] (emptyQueue b s) := rfl

theorem portAt_emptyQueue_ne {b : Bay} {q : Port} (hq : q ≠ .bay b) (s : State) : portAt q (emptyQueue b s) = portAt q s := by
  unfold emptyQueue
  rw [portAt_count_ne hq]
  cases q with
  | up u => rfl
  | bay c =>
    have queue : (put s.fwd.bayQueue b [])[c] = s.fwd.bayQueue[c] := getElem_put_ne _ _ fun e => hq (congrArg Port.bay e)
    unfold portAt
    dsimp only
    rw [queue]

theorem portAt_emptyQueue_same (b : Bay) (s : State) : portAt (.bay b) (emptyQueue b s) =
    ({ portAt (.bay b) s with queue := [] } : PortState).counted .discarded (s.fwd.bayQueue[b]).length := by
  have queue : (put s.fwd.bayQueue b [])[b] = [] := getElem_put_same _ _ _
  unfold emptyQueue
  rw [portAt_count_same]
  unfold portAt
  dsimp only
  rw [queue]

/-- The frames of the egress queue of a bay that are answered through a port when the bay leaves power. -/
def goneFrames (b : Bay) (q : Port) (s : State) : List Frame :=
  match q with
  | .up u => answeredIn u s.fwd.bayQueue[b]
  | .bay _ => []

theorem portAt_flushQueue_ne {b : Bay} {q : Port} (hq : q ≠ .bay b) (s : State) : portAt q (flushQueue b s) =
    (portAt q s).answeredAll ((goneFrames b q s).map (goneAnswer s)) (activityMark s.now s.light.hold) := by
  rw [flushQueue_eq]
  cases q with
  | bay c => rw [portAt_answerGone_bay, portAt_emptyQueue_ne hq]; rfl
  | up u => rw [portAt_answerGone_up, portAt_emptyQueue_ne hq]; rfl

theorem portAt_flushQueue_same (b : Bay) (s : State) : portAt (.bay b) (flushQueue b s) =
    ({ portAt (.bay b) s with queue := [] } : PortState).counted .discarded (s.fwd.bayQueue[b]).length := by
  rw [flushQueue_eq, portAt_answerGone_bay, portAt_emptyQueue_same]

theorem abandon_forwarded (p : Port) (s : State) : Forwarded s (abandon p s) := by
  unfold abandon
  split <;> rfl

theorem flushQueue_forwarded (b : Bay) (s : State) : Forwarded s (flushQueue b s) :=
  Forwarded.trans (t := emptyQueue b s) rfl (answerGone_forwarded _ _)

/-- The part of a flush that comes before the waiters: the queue, and the frame in transmission. -/
def stopSending (b : Bay) (s : State) : State := abandon (.bay b) (flushQueue b s)

theorem stopSending_forwarded (b : Bay) (s : State) : Forwarded s (stopSending b s) :=
  (flushQueue_forwarded b s).trans (abandon_forwarded _ _)

theorem portAt_stopSending_ne {b : Bay} {q : Port} (hq : q ≠ .bay b) (s : State) : portAt q (stopSending b s) =
    (portAt q s).answeredAll ((goneFrames b q s).map (goneAnswer s)) (activityMark s.now s.light.hold) := by
  unfold stopSending
  rw [portAt_abandon_ne hq, portAt_flushQueue_ne hq]

/-- What a number of answers add to the counters of their port, by the places that are free there (R74, R88). -/
def answerCounts (places answers : Nat) (k : CounterKind) : Nat :=
  if k = .discarded then 0 else refusalCounts places answers k

theorem answerCounts_zero (places : Nat) (k : CounterKind) : answerCounts places 0 k = 0 := by
  cases k with
  | statusSent => exact Nat.zero_min places
  | statusDropped => exact Nat.zero_sub places
  | _ => rfl

/-- Answers that follow others meet the places that those left. -/
theorem answerCounts_add (places m n : Nat) (k : CounterKind) : answerCounts places (m + n) k =
    answerCounts places m k + answerCounts (places - min places m) n k := by
  cases k with
  | statusSent =>
    change min (m + n) places = min m places + min n (places - min places m)
    omega
  | statusDropped =>
    change m + n - places = m - places + (n - (places - min places m))
    omega
  | _ => rfl

theorem refusalCounts_eq (places answers : Nat) (k : CounterKind) :
    refusalCounts places answers k = (if k = .discarded then 1 else 0) + answerCounts places answers k := by
  cases k with
  | statusSent => exact (Nat.zero_add _).symm
  | statusDropped => exact (Nat.zero_add _).symm
  | _ => rfl

section
variable (hs : List Held) (mark : LightUnit → LightUnit) (x : PortState)

theorem PortState.answered_rest (h : Held) : (x.answered h mark).size = x.size ∧ (x.answered h mark).waiting = x.waiting ∧
    (x.answered h mark).transmitting = x.transmitting ∧ (x.answered h mark).normal = x.normal ∧
    (x.answered h mark).linkUp = x.linkUp ∧ (x.answered h mark).arbiter = x.arbiter := by
  unfold PortState.answered
  split <;> exact ⟨rfl, rfl, rfl, rfl, rfl, rfl⟩

theorem PortState.answeredAll_rest : (x.answeredAll hs mark).size = x.size ∧
    (x.answeredAll hs mark).waiting = x.waiting ∧ (x.answeredAll hs mark).transmitting = x.transmitting ∧
    (x.answeredAll hs mark).normal = x.normal ∧ (x.answeredAll hs mark).linkUp = x.linkUp ∧
    (x.answeredAll hs mark).arbiter = x.arbiter := by
  induction hs generalizing x with
  | nil => exact ⟨rfl, rfl, rfl, rfl, rfl, rfl⟩
  | cons h hs ih =>
    obtain ⟨s, w, t, n, l, a⟩ := x.answered_rest mark h
    obtain ⟨s', w', t', n', l', a'⟩ := ih (x.answered h mark)
    exact ⟨s'.trans s, w'.trans w, t'.trans t, n'.trans n, l'.trans l, a'.trans a⟩

theorem PortState.answeredAll_queue : (x.answeredAll hs mark).queue = x.queue ++ hs.take (x.size - x.queue.length) := by
  induction hs generalizing x with
  | nil => rw [List.take_nil, List.append_nil]; rfl
  | cons h hs ih =>
    refine (ih (x.answered h mark)).trans ?_
    rw [PortState.answered_queue, (x.answered_rest mark h).1, List.append_assoc, List.length_append, List.length_take,
      List.length_singleton]
    cases room : x.size - x.queue.length with
    | zero => rw [List.take_zero, List.take_zero, List.nil_append, show x.size - (x.queue.length + min 0 1) = 0 by omega,
        List.take_zero]
    | succ n =>
      rw [show x.size - (x.queue.length + min (n + 1) 1) = n by omega, List.take_succ_cons, List.take_succ_cons, List.take_nil]
      rfl

theorem PortState.answeredAll_counter (k : CounterKind) (low : x.counters[k.idx] ≤ Config.counterMax) :
    (x.answeredAll hs mark).counters[k.idx] = min Config.counterMax (x.counters[k.idx] +
      answerCounts (x.size - x.queue.length) hs.length k) := by
  induction hs generalizing x with
  | nil =>
    rw [List.length_nil, answerCounts_zero]
    exact (Nat.min_eq_right low).symm
  | cons h hs ih =>
    have first : (x.answered h mark).counters[k.idx] = min Config.counterMax (x.counters[k.idx] +
      answerCounts (x.size - x.queue.length) 1 k) := x.answered_counter mark h k low
    refine (ih (x.answered h mark) (by rw [first]; exact Nat.min_le_left _ _)).trans ?_
    rw [first, PortState.answered_queue, (x.answered_rest mark h).1, List.length_append, List.length_take,
      List.length_singleton, List.length_cons, Nat.add_comm hs.length 1, ← Nat.sub_sub, answerCounts_add]
    omega

variable {hs mark x}

theorem PortState.answeredAll_steps {q : Port} (size : x.size ≤ queueSize q) : x.Steps q (x.answeredAll hs mark) := by
  induction hs generalizing x with
  | nil => exact .refl q x
  | cons h hs ih =>
    exact (PortState.answered_steps h mark size).trans (ih (by rw [(x.answered_rest mark h).1]; exact size))

theorem PortState.answeredAll_idle (size : x.size = 0) (idle : x.Idle) : (x.answeredAll hs mark).Idle := by
  induction hs generalizing x with
  | nil => exact idle
  | cons h hs ih =>
    exact ih (by rw [(x.answered_rest mark h).1]; exact size) (PortState.answered_idle h mark size idle)

end

theorem stopSending_waiting {b : Bay} {q : Port} (hq : q ≠ .bay b) (s : State) :
    (stopSending b s).fwd.waiting[portIdx q] = s.fwd.waiting[portIdx q] := by
  have same := congrArg PortState.waiting (portAt_stopSending_ne hq s)
  rw [(PortState.answeredAll_rest _ _ _).2.1] at same
  exact same

theorem waitingFor_congr {q p : Port} {s t : State} (h : t.fwd.waiting[portIdx p] = s.fwd.waiting[portIdx p]) :
    waitingFor q p t = waitingFor q p s := by
  unfold waitingFor
  rw [h]

section
variable {b : Bay} {q : Port} {s : State}

theorem flush_eq : flush b s = dropOwnWait (.bay b) (flushWaiters b (stopSending b s)) := rfl

/-- A port that does not wait for the bay: its frames in the bay's queue are answered. -/
theorem portAt_flush_idle (hq : q ≠ .bay b) (h : waitingFor (.bay b) q s = []) : portAt q (flush b s) =
    (portAt q s).answeredAll ((goneFrames b q s).map (goneAnswer s)) (activityMark s.now s.light.hold) := by
  have idle : waitingFor (.bay b) q (stopSending b s) = [] := (waitingFor_congr (stopSending_waiting hq s)).trans h
  have others : portAt q (flushWaiters b (stopSending b s)) = portAt q (stopSending b s) := by
    refine portAt_endWaits_ne (fun x hx e => ?_) .bayGone _
    obtain ⟨slot, target⟩ := mem_waitersFor_iff.1 (List.mem_filter.1 hx).1
    subst e
    rw [waitingFor_eq slot target] at idle
    cases idle
  rw [flush_eq, portAt_dropOwnWait_ne hq, others, portAt_stopSending_ne hq]

/-- A port whose slot waits for the bay: its frame in the slot is refused after those in the bay's queue. -/
theorem portAt_flush_waits (hq : q ≠ .bay b) {w : Waiting} (slot : s.fwd.waiting[portIdx q] = some w)
    (target : w.target = .bay b) : portAt q (flush b s) =
      ((portAt q s).answeredAll ((goneFrames b q s).map (goneAnswer s)) (activityMark s.now s.light.hold)).refused w.frame
        (goneAnswer s w.frame) (activityMark s.now s.light.hold) := by
  have first := stopSending_forwarded b s
  have still : (stopSending b s).fwd.waiting[portIdx q] = some w := (stopSending_waiting hq s).trans slot
  have waits : (q, w) ∈ (waitersFor (.bay b) (stopSending b s)).filter fun x => x.1 ≠ .bay b :=
    List.mem_filter.2 ⟨mem_waitersFor_iff.2 ⟨still, target⟩, decide_eq_true hq⟩
  have ended := portAt_endWaits_mem ((waitersFor_ports (.bay b) (stopSending b s)).filter _) waits .bayGone (stopSending b s)
  rw [portAt_stopSending_ne hq, first.now, first.hold, switchAddr_congr first.strap] at ended
  rw [flush_eq, portAt_dropOwnWait_ne hq]
  exact ended

end

/-! ### The flushed port itself (R84, R196) -/

/-- The frames that are lost with a port's own wait slot. -/
def ownLost (p : Port) (s : State) : Nat :=
  match s.fwd.waiting[portIdx p] with
  | none => 0
  | some w => lostWithSlot p w

theorem portAt_dropOwnWait_own (p : Port) (s : State) : portAt p (dropOwnWait p s) =
    ({ portAt p s with waiting := none } : PortState).lost (ownLost p s) := by
  unfold dropOwnWait PortState.lost ownLost
  cases h : s.fwd.waiting[portIdx p] with
  | none =>
    have idle : (portAt p s).waiting = none := h
    rw [if_pos rfl]
    exact congrArg (fun x => ({ portAt p s with waiting := x } : PortState)) idle
  | some w =>
    have some : ¬lostWithSlot p w = 0 := by
      unfold lostWithSlot
      split
      · split <;> exact Nat.noConfusion
      · exact Nat.one_ne_zero
    dsimp only
    rw [if_neg some, portAt_count_same, portAt_clearSlot_same]

/-- A flushed bay port: nothing stands there, and what stood there is counted as discarded. -/
structure Flushed (b : Bay) (s : State) (x : PortState) : Prop where
  queue : x.queue = []
  transmitting : x.transmitting = none
  waiting : x.waiting = none
  discarded : x.counters[CounterKind.discarded.idx] = min Config.counterMax
    ((s.fwd.counters[portIdx (.bay b)])[CounterKind.discarded.idx] + heldAt (.bay b) s)
  others : ∀ k : CounterKind, k ≠ .discarded → x.counters[k.idx] = (s.fwd.counters[portIdx (.bay b)])[k.idx]

theorem heldAt_bay (b : Bay) (s : State) : heldAt (.bay b) s =
    (s.fwd.bayQueue[b]).length + (s.fwd.transmitting[portIdx (.bay b)]).toList.length + ownLost (.bay b) s := by
  unfold heldAt ownLost lostWithSlot
  cases s.fwd.waiting[portIdx (.bay b)] with
  | none => rfl
  | some w =>
    dsimp only
    rw [Nat.add_assoc]
    cases w.behind <;> rfl

theorem portAt_flush_own (b : Bay) (s : State) : portAt (.bay b) (flush b s) =
    ({ ({ ({ portAt (.bay b) s with queue := [] } : PortState).counted .discarded (s.fwd.bayQueue[b]).length with
        transmitting := none } : PortState).lost (s.fwd.transmitting[portIdx (.bay b)]).toList.length with
        waiting := none } : PortState).lost (ownLost (.bay b) s) := by
  have own : portAt (.bay b) (flushWaiters b (stopSending b s)) = portAt (.bay b) (stopSending b s) :=
    portAt_endWaits_ne (fun _ hx => Ne.symm (of_decide_eq_true (List.mem_filter.1 hx).2)) .bayGone _
  have sending : (flushQueue b s).fwd.transmitting[portIdx (.bay b)] = s.fwd.transmitting[portIdx (.bay b)] :=
    (congrArg PortState.transmitting (portAt_flushQueue_same b s)).trans rfl
  have stopped := portAt_abandon_same (.bay b) (flushQueue b s)
  rw [portAt_flushQueue_same, sending] at stopped
  have slot : ownLost (.bay b) (flushWaiters b (stopSending b s)) = ownLost (.bay b) s := by
    have waiting : (flushWaiters b (stopSending b s)).fwd.waiting[portIdx (.bay b)] = s.fwd.waiting[portIdx (.bay b)] := by
      refine (congrArg PortState.waiting (own.trans stopped)).trans ?_
      rw [(PortState.lost_rest _ _).2.2.2.2.2]
      rfl
    unfold ownLost
    rw [waiting]
  rw [flush_eq, portAt_dropOwnWait_own, own, slot]
  unfold stopSending
  rw [stopped]

theorem flush_flushed (b : Bay) (s : State) : Flushed b s (portAt (.bay b) (flush b s)) := by
  rw [portAt_flush_own]
  generalize hx : (({ portAt (.bay b) s with queue := [] } : PortState).counted .discarded (s.fwd.bayQueue[b]).length) = x
  have queue : x.queue = [] := by rw [← hx]; rfl
  have counter (k : CounterKind) : x.counters[k.idx] = if k = .discarded then
      min Config.counterMax ((s.fwd.counters[portIdx (.bay b)])[CounterKind.discarded.idx] + (s.fwd.bayQueue[b]).length)
      else (s.fwd.counters[portIdx (.bay b)])[k.idx] := by
    rw [← hx]
    exact PortState.counted_counter _ k .discarded _
  have first := counter .discarded
  rw [if_pos rfl] at first
  have second := PortState.lost_discarded ({ x with transmitting := none } : PortState)
    (s.fwd.transmitting[portIdx (.bay b)]).toList.length (by rw [first]; exact Nat.min_le_left _ _)
  have others (k : CounterKind) (hk : k ≠ .discarded) := PortState.lost_counter ({ x with transmitting := none } : PortState)
    (s.fwd.transmitting[portIdx (.bay b)]).toList.length hk
  obtain ⟨queue', -, -, -, transmitting, -⟩ := PortState.lost_rest
    ({ x with transmitting := none } : PortState) (s.fwd.transmitting[portIdx (.bay b)]).toList.length
  generalize ({ x with transmitting := none } : PortState).lost (s.fwd.transmitting[portIdx (.bay b)]).toList.length = y at *
  have third := PortState.lost_discarded ({ y with waiting := none } : PortState) (ownLost (.bay b) s)
    (by rw [second]; exact Nat.min_le_left _ _)
  obtain ⟨queue'', -, -, -, transmitting', waiting⟩ := PortState.lost_rest
    ({ y with waiting := none } : PortState) (ownLost (.bay b) s)
  exact
    { queue := queue''.trans (queue'.trans queue)
      transmitting := transmitting'.trans transmitting
      waiting := waiting
      discarded := by
        rw [third, second, first, heldAt_bay]
        omega
      others := fun k hk => by
        rw [PortState.lost_counter _ _ hk, others k hk, counter, if_neg hk] }

/-! ### What a flush does to the other ports (R73, R84, R88) -/

section
variable {b : Bay} {q : Port} {s : State}

theorem answeredAt_bay : answeredAt (.bay b) q s = goneFrames b q s ++
    (waitingFor (.bay b) q s).filter fun f => decide (f.kind ≠ .status) := by
  unfold answeredAt
  rw [List.filter_append]
  cases q <;> rfl

theorem answeredAt_bay_waits {w : Waiting} (waits : waitingFor (.bay b) q s = [w.frame]) :
    answeredAt (.bay b) q s = goneFrames b q s ++ answersOf w.frame := by
  rw [answeredAt_bay, waits]
  rfl

theorem answeredAt_bay_idle (idle : waitingFor (.bay b) q s = []) : answeredAt (.bay b) q s = goneFrames b q s := by
  rw [answeredAt_bay, idle, List.filter_nil, List.append_nil]

/-- Frames taken from two lists one after the other are taken from the joined list. -/
theorem take_append_take {α : Type} (l m : List α) (n : Nat) :
    l.take n ++ m.take (n - min n l.length) = (l ++ m).take n := by
  rw [List.take_append]
  congr 2
  omega

theorem portAt_flush_queue (hq : q ≠ .bay b) : (portAt q (flush b s)).queue = (portAt q s).queue ++
    ((answeredAt (.bay b) q s).take ((portAt q s).size - (portAt q s).queue.length)).map (goneAnswer s) := by
  rcases waitingFor_cases (.bay b) q s with idle | ⟨w, slot, target, waits⟩
  · rw [portAt_flush_idle hq idle, answeredAt_bay_idle idle, PortState.answeredAll_queue, List.map_take]
  · rw [portAt_flush_waits hq slot target, answeredAt_bay_waits waits, PortState.refused_queue _ w.frame (goneAnswer s),
      PortState.answeredAll_queue, (PortState.answeredAll_rest _ _ _).1, List.append_assoc, ← List.map_take, ← List.map_append,
      List.length_append, List.length_map, List.length_take, ← Nat.sub_sub, take_append_take]

theorem closingCounts_bay (k : CounterKind) : closingCounts (.bay b) q s k =
    (if k = .discarded then (waitingFor (.bay b) q s).length else 0) +
      answerCounts ((portAt q s).size - (portAt q s).queue.length) (answeredAt (.bay b) q s).length k := by
  rw [← statusPlaces_eq]
  cases k with
  | statusSent => exact (Nat.zero_add _).symm
  | statusDropped => exact (Nat.zero_add _).symm
  | _ => rfl

theorem portAt_flush_counter (hq : q ≠ .bay b) (k : CounterKind)
    (low : (portAt q s).counters[k.idx] ≤ Config.counterMax) : (portAt q (flush b s)).counters[k.idx] =
      min Config.counterMax ((portAt q s).counters[k.idx] + closingCounts (.bay b) q s k) := by
  have answered := PortState.answeredAll_counter ((goneFrames b q s).map (goneAnswer s)) (activityMark s.now s.light.hold)
    (portAt q s) k low
  rw [List.length_map] at answered
  rw [closingCounts_bay]
  rcases waitingFor_cases (.bay b) q s with idle | ⟨w, slot, target, waits⟩
  · rw [portAt_flush_idle hq idle, answeredAt_bay_idle idle, answered, idle, List.length_nil, ite_self, Nat.zero_add]
  · rw [portAt_flush_waits hq slot target, answeredAt_bay_waits waits,
      PortState.refused_counter _ w.frame (goneAnswer s) _ k (by rw [answered]; exact Nat.min_le_left _ _), answered,
      PortState.answeredAll_queue, (PortState.answeredAll_rest _ _ _).1, waits, List.length_append, List.length_append,
      List.length_take, List.length_map, refusalCounts_eq, answerCounts_add, ← Nat.sub_sub, List.length_singleton]
    omega

theorem portAt_flush_waiting (hq : q ≠ .bay b) : (portAt q (flush b s)).waiting =
    if waitingFor (.bay b) q s = [] then s.fwd.waiting[portIdx q] else none := by
  rcases waitingFor_cases (.bay b) q s with idle | ⟨w, slot, target, waits⟩
  · rw [if_pos idle, portAt_flush_idle hq idle, (PortState.answeredAll_rest _ _ _).2.1]
    rfl
  · rw [waits, if_neg (List.cons_ne_nil _ _), portAt_flush_waits hq slot target, (PortState.refused_rest _ _ _ _).1]

theorem portAt_flush_rest (hq : q ≠ .bay b) : (portAt q (flush b s)).transmitting = (portAt q s).transmitting ∧
    (portAt q (flush b s)).normal = (portAt q s).normal ∧ (portAt q (flush b s)).linkUp = (portAt q s).linkUp := by
  rcases waitingFor_cases (.bay b) q s with idle | ⟨w, slot, target, -⟩
  · rw [portAt_flush_idle hq idle]
    obtain ⟨-, -, t, n, l, -⟩ := PortState.answeredAll_rest ((goneFrames b q s).map (goneAnswer s))
      (activityMark s.now s.light.hold) (portAt q s)
    exact ⟨t, n, l⟩
  · rw [portAt_flush_waits hq slot target]
    obtain ⟨-, -, t, n, l, -⟩ := PortState.answeredAll_rest ((goneFrames b q s).map (goneAnswer s))
      (activityMark s.now s.light.hold) (portAt q s)
    obtain ⟨-, t', n', l'⟩ := PortState.refused_rest ((portAt q s).answeredAll ((goneFrames b q s).map (goneAnswer s))
      (activityMark s.now s.light.hold)) w.frame (activityMark s.now s.light.hold) (goneAnswer s w.frame)
    exact ⟨t'.trans t, n'.trans n, l'.trans l⟩

/-- A flush closes its port (R84). -/
theorem flush_closed (low : ∀ (q : Port) (k : CounterKind), (s.fwd.counters[portIdx q])[k.idx] ≤ Config.counterMax) :
    Closed .bayGone 0 (.bay b) s (flush b s) where
  answers q hq := by
    refine ⟨[], ?_, fun _ => rfl⟩
    rw [List.append_nil, statusQueue_eq, statusQueue_eq, statusPlaces_eq]
    exact portAt_flush_queue hq
  slots q hq := portAt_flush_waiting hq
  counters q k hq := portAt_flush_counter hq k (low q k)
  discarded := (flush_flushed b s).discarded
  ownCounters k hk := (flush_flushed b s).others k hk
  transmissions q hq := by
    obtain ⟨transmitting, -, -⟩ := portAt_flush_rest (s := s) hq
    exact transmitting
  normal u hu := by
    obtain ⟨-, normal, -⟩ := portAt_flush_rest (s := s) hu
    rw [portAt_normal, portAt_normal] at normal
    exact normal.symm

/-- At any other port a flush opens no place and starts no wait. -/
theorem portAt_flush_steps (hq : q ≠ .bay b) : (portAt q s).Steps q (portAt q (flush b s)) := by
  have answered := PortState.answeredAll_steps (hs := (goneFrames b q s).map (goneAnswer s))
    (mark := activityMark s.now s.light.hold) (portAt_size_le q s)
  rcases waitingFor_cases (.bay b) q s with idle | ⟨w, slot, target, -⟩
  · rw [portAt_flush_idle hq idle]
    exact answered
  · rw [portAt_flush_waits hq slot target]
    exact answered.trans (PortState.refused_steps _ _ _
      (by rw [(PortState.answeredAll_rest _ _ _).1]; exact portAt_size_le q s))

end

end Sys2Proof.Machine

namespace Sys2Proof.Machine

/-! ### Operations outside the forwarding engine (R187, R189, R45, R49) -/

section
variable {A : Prop} {s t : State}

/-- Of the blocks that ports turn on none changes, nor does a bay. -/
theorem PortMoves.of_frame (fwd : t.fwd = s.fwd) (mgmt : t.mgmt = s.mgmt) (route : t.route = s.route) (ev : t.ev = s.ev)
    (bays : t.bays = s.bays) : PortMoves A s t :=
  (Elsewhere.of_eq fwd mgmt route ev).portMoves fun _ _ => .of_bays bays

/-- Of the blocks that ports turn on only the bays change. -/
theorem PortMoves.of_bays (fwd : t.fwd = s.fwd) (mgmt : t.mgmt = s.mgmt) (route : t.route = s.route) (ev : t.ev = s.ev)
    (stays : A → PortsConsistent s → Stays s t) : PortMoves A s t :=
  (Elsewhere.of_eq fwd mgmt route ev).portMoves stays

/-- Of the blocks that ports turn on only the event unit changes. -/
theorem PortMoves.of_told (fwd : t.fwd = s.fwd) (mgmt : t.mgmt = s.mgmt) (route : t.route = s.route)
    (told : Told s.ev t.ev) (bays : t.bays = s.bays) : PortMoves A s t :=
  (Elsewhere.of_blocks fwd mgmt (fun _ => by rw [route]) told).portMoves fun _ _ => .of_bays bays

theorem ask_moves (s : State) : PortMoves A s (ask s) := .of_frame rfl rfl rfl rfl rfl

theorem joinQueue_moves (b : Bay) (x : QueueClass) (s : State) : PortMoves A s (joinQueue b x s) :=
  .of_frame rfl rfl rfl rfl rfl

theorem leaveQueue_moves (b : Bay) (s : State) : PortMoves A s (leaveQueue b s) := .of_frame rfl rfl rfl rfl rfl

theorem modLine_moves (b : Bay) (f : LineUnit → LineUnit) (s : State) : PortMoves A s (modLine b f s) :=
  .of_frame rfl rfl rfl rfl rfl

theorem modLines_moves (p : Bay → Bool) (f : LineUnit → LineUnit) (s : State) : PortMoves A s (modLines p f s) :=
  .of_frame (modLines_fwd p f s) (modLines_mgmt p f s) (modLines_route p f s) (modLines_ev p f s) (modLines_bays p f s)

theorem modLight_moves (b : Bay) (f : LightUnit → LightUnit) (s : State) : PortMoves A s (modLight b f s) :=
  .of_frame rfl rfl rfl rfl rfl

theorem modTherm_moves (b : Bay) (f : ThermalRecord → ThermalRecord) (s : State) : PortMoves A s (modTherm b f s) :=
  .of_frame rfl rfl rfl rfl rfl

theorem setFilter_moves (b : Bay) (x : OcFilter) (s : State) : PortMoves A s (setFilter b x s) :=
  .of_frame rfl rfl rfl rfl rfl

theorem advance_moves (t : Nat) (s : State) : PortMoves A s (advance t s) := .of_frame rfl rfl rfl rfl rfl

theorem latchBay_moves (b : Bay) (k : BayEvent) (s : State) : PortMoves A s (latchBay b k s) :=
  .of_told (latchBay_fwd b k s) (latchBay_mgmt b k s) (latchBay_route b k s) (latchBay_told b k s) (latchBay_bays b k s)

theorem latchEncl_moves (k : EnclEvent) (n : Nat) (s : State) : PortMoves A s (latchEncl k n s) :=
  .of_told (latchEncl_fwd k n s) (latchEncl_mgmt k n s) (latchEncl_route k n s) (latchEncl_told k n s) (latchEncl_bays k n s)

theorem latchFan_told (x : FanState) (m : FanModule) (s : State) : Told s.ev (latchFan x m s).ev :=
  Told.trans (f := { s.ev with fanSets := upd s.ev.fanSets (fanSetIdx x) (put · m true) }) (.of_eq rfl rfl rfl)
    (latchEncl_told (fanEvent x) m.val
      { s with ev := { s.ev with fanSets := upd s.ev.fanSets (fanSetIdx x) (put · m true) } })

theorem stepDown_told (s : State) : Told s.ev (stepDown s).ev := by
  have stepped (x : PowerBlock) (n : Nat) : Told s.ev (latchEncl .ceilingReached n { s with power := x }).ev :=
    latchEncl_told .ceilingReached n { s with power := x }
  unfold stepDown
  dsimp only
  split
  · exact .refl _
  · split
    · exact stepped _ _
    · exact .refl _

theorem setCharge_told (b : Bay) (v : Nat) (s : State) : Told s.ev (setCharge b v s).ev := by
  have stepped (u : State) (ev : u.ev = s.ev) : Told s.ev (ask (stepDown u)).ev := ev ▸ stepDown_told u
  unfold setCharge
  dsimp only
  split
  · exact stepped _ rfl
  · exact .refl _

theorem setCharge_moves (b : Bay) (v : Nat) (s : State) : PortMoves A s (setCharge b v s) :=
  .of_told (setCharge_fwd b v s) (setCharge_mgmt b v s) (setCharge_route b v s) (setCharge_told b v s) (setCharge_bays b v s)

/-! ### Bays that change their state (R21, R22, R24, R25) -/

/-- One bay changes: it keeps its power and stays ONLINE, and a hold that it takes is of a port that is UP. -/
theorem Stays.of_upd {b : Bay} {f : BayRecord → BayRecord} (bays : t.bays = upd s.bays b f)
    (power : powered s.bays[b].state = true → powered (f s.bays[b]).state = true)
    (online : s.bays[b].state = .online → (f s.bays[b]).state = .online)
    (hold : ∀ p : UpPort, (f s.bays[b]).hold = some p → s.bays[b].hold = some p ∨ s.fwd.up[upIdx p].linkUp = true) :
    Stays s t := by
  have record (c : Bay) : t.bays[c] = s.bays[c] ∨ c = b ∧ t.bays[c] = f s.bays[b] := by
    rw [bays, getElem_upd]
    split
    · next e => exact .inr ⟨e, rfl⟩
    · exact .inl rfl
  refine ⟨fun c => ?_, fun c => ?_, fun c p => ?_⟩
  · unfold enabled
    rcases record c with h | ⟨rfl, h⟩ <;> rw [h]
    · exact id
    · exact power
  · rcases record c with h | ⟨rfl, h⟩ <;> rw [h]
    · exact id
    · exact online
  · rcases record c with h | ⟨rfl, h⟩ <;> rw [h]
    · exact .inl
    · exact hold p

/-- A bay without power changes. -/
theorem Stays.of_upd_off {b : Bay} {f : BayRecord → BayRecord} (bays : t.bays = upd s.bays b f)
    (off : powered s.bays[b].state = false)
    (hold : ∀ p : UpPort, (f s.bays[b]).hold = some p → s.bays[b].hold = some p ∨ s.fwd.up[upIdx p].linkUp = true) :
    Stays s t := by
  have out (h : powered s.bays[b].state = true) : False := Bool.false_ne_true (off.symm.trans h)
  exact .of_upd bays (fun h => (out h).elim) (fun h => (out (by rw [h]; rfl)).elim) hold

/-- A bay without power changes its record (R24, R31, R34). -/
theorem modBay_moves (b : Bay) (f : BayRecord → BayRecord) (s : State)
    (off : A → powered s.bays[b].state = false)
    (hold : A → ∀ p : UpPort, (f s.bays[b]).hold = some p → s.bays[b].hold = some p ∨ s.fwd.up[upIdx p].linkUp = true) :
    PortMoves A s (modBay b f s) :=
  .of_bays rfl rfl rfl rfl fun a _ => .of_upd_off (modBay_bays b f s) (off a) (hold a)

theorem enqueueFresh_moves (b : Bay) (x : QueueClass) (s : State)
    (off : A → powered s.bays[b].state = false) : PortMoves A s (enqueueFresh b x s) :=
  (modBay_moves b (fun r => { r with state := .queued, retriesLeft := r.retriesSetting }) s off fun _ _ => .inl).trans
    (joinQueue_moves b x _)

theorem admitBay_moves (b : Bay) (s : State) (waiting : A → s.bays[b].state = .queued) : PortMoves A s (admitBay b s) := by
  have told : Told s.ev (admitBay b s).ev := by
    have charged (n : Nat) (u : State) (ev : u.ev = s.ev) : Told s.ev (setCharge b n u).ev := ev ▸ setCharge_told b n u
    unfold admitBay
    extract_lets c _ _ w u
    have told : Told s.ev u.ev := charged c.startDraw w rfl
    split <;> exact told
  refine (Elsewhere.of_blocks (admitBay_fwd b s) (admitBay_mgmt b s) (fun _ => by rw [admitBay_route]) told).portMoves
    fun a _ => .of_upd_off (admitBay_bays b s) (by rw [waiting a]; rfl) fun _ h => .inl h

theorem attempt_moves (s : State) (h : A → BaysConsistent s) : PortMoves A s (attempt s) := by
  have both : (A → BaysConsistent (attempt s)) ∧ PortMoves A s (attempt s) := by
    refine attempt_induction (fun t => (A → BaysConsistent t) ∧ PortMoves A s t) (fun t b _ first ih => ?_) s ⟨h, .refl A s⟩
    obtain ⟨consistent, moves⟩ := ih
    have waiting (a : A) : t.bays[b].state = .queued := ((consistent a).queue.member b).1 (walk_mem first)
    exact ⟨fun a => admitBay_keeps b t (waiting a) (consistent a), moves.trans (admitBay_moves b t waiting)⟩
  exact both.2

theorem attemptIfAsked_moves (s : State) (h : A → BaysConsistent s) : PortMoves A s (attemptIfAsked s) := by
  unfold attemptIfAsked
  split
  · have cleared : PortMoves A s { s with power := { s.power with attemptAsked := false } } := .of_frame rfl rfl rfl rfl rfl
    exact cleared.trans (attempt_moves _ fun a => Still.keeps (s := s) ⟨rfl, rfl⟩ (h a))
  · exact .refl A s

/-! ### The end of a step (R189) -/

/-- A frame joins the priority queue of an upstream port that is UP. -/
theorem pushPriority_moves (p : UpPort) (h : Held) (s : State) (room : priorityRoom p s = true)
    (live : A → PortsConsistent s → s.fwd.up[upIdx p].linkUp = true) : PortMoves A s (pushPriority p h s) := by
  have ne {q : Port} (hq : q ≠ .up p) : portAt q (pushPriority p h s) = portAt q s := portAt_modUp_ne hq _
  have forwarded : Forwarded s (pushPriority p h s) := rfl
  refine forwarded.portMoves_of_steps (fun q => ?_) fun a c q shut idle => ?_
  · by_cases hq : q = .up p
    · subst hq
      rw [portAt_pushPriority_same]
      exact PortState.joined_steps [h] id (of_decide_eq_true room)
    · exact .of_eq (ne hq)
  · rw [ne fun hq => ?_]
    · exact idle
    · subst hq
      exact Bool.false_ne_true (shut.symm.trans (live a c))

/-- Where a learned slot of an upstream port is valid, the port is UP (R103). -/
theorem PortsConsistent.up_of_learned {p : UpPort} (c : PortsConsistent s) {l : Learned}
    (learned : s.route.learned[portIdx (.up p)] = some l) : s.fwd.up[upIdx p].linkUp = true := by
  by_contra down
  have quiet := (c.down p (Bool.not_eq_true _ ▸ down)).learned
  rw [learned] at quiet
  cases quiet

theorem releaseLoop_moves (n : Nat) (p : UpPort) (s : State) : PortMoves A s (releaseLoop n p s) := by
  induction n generalizing s with
  | zero => exact .refl A s
  | succ n ih =>
    unfold releaseLoop
    split
    · next x rest l some learned =>
      split
      · next free =>
        obtain ⟨room, -⟩ := Bool.and_eq_true_iff.1 free
        have told : Told s.ev { s.ev with notices := put s.ev.notices (upIdx p) rest } := by
          refine ⟨fun q hq => ?_, fun q d => ⟨d.subscribed, ?_, d.overflow⟩⟩
          · by_cases e : q = p
            · subst e
              rw [some] at hq
              rw [getElem_put_same]
              exact Nat.le_trans (Nat.le_succ _) hq
            · rw [getElem_put_ne _ _ (upIdx_ne e)]
              exact hq
          · refine (getElem_put_ne _ _ (upIdx_ne fun e => ?_)).trans d.notices
            have none := d.notices
            subst e
            rw [some] at none
            cases none
        have taken : PortMoves A s { s with ev := { s.ev with notices := put s.ev.notices (upIdx p) rest } } :=
          .of_told rfl rfl rfl told rfl
        exact (taken.trans (pushPriority_moves p _ _ room fun _ c => c.up_of_learned learned)).trans (ih _)
      · exact .refl A s
    · exact .refl A s

theorem release_moves (p : UpPort) (s : State) : PortMoves A s (release p s) := releaseLoop_moves _ p s

theorem settle_moves (s : State) (h : A → BaysConsistent s) : PortMoves A s (settle s) := by
  have reported : Still s (refreshBlocks (refreshHot s)) := (refreshHot_still s).trans (refreshBlocks_still _)
  have reports : PortMoves A s (refreshBlocks (refreshHot s)) :=
    .of_frame (by rw [refreshBlocks_fwd, refreshHot_fwd]) (by rw [refreshBlocks_mgmt, refreshHot_mgmt])
      (by rw [refreshBlocks_route, refreshHot_route]) (by rw [refreshBlocks_ev, refreshHot_ev]) reported.1
  have alert (u : State) : PortMoves A u (driveAlert u) :=
    .of_told (driveAlert_fwd u) (driveAlert_mgmt u) (driveAlert_route u) (.of_eq rfl rfl rfl) (driveAlert_bays u)
  have pins (u : State) : PortMoves A u (drivePins u) :=
    .of_frame (drivePins_fwd u) (drivePins_mgmt u) (drivePins_route u) (drivePins_ev u) (drivePins_bays u)
  have attempted := reports.trans (attemptIfAsked_moves _ fun a => reported.keeps (h a))
  rw [settle_eq]
  exact (((attempted.trans (release_moves .u0 _)).trans (release_moves .u1 _)).trans (alert _)).trans (pins _)

/-! ### Frames join, wait and are answered (R72, R74, R75, R78, R79) -/

theorem count_moves (p : Port) (k : CounterKind) (n : Nat) (s : State) : PortMoves A s (count p k n s) := by
  have forwarded : Forwarded s (count p k n s) := rfl
  refine forwarded.portMoves_of_steps (fun q => ?_) fun _ _ q _ idle => ?_
  · by_cases hq : q = p
    · subst hq
      rw [portAt_count_same]
      exact PortState.counted_steps k n
    · exact .of_eq (portAt_count_ne hq k n)
  · by_cases hq : q = p
    · subst hq
      rw [portAt_count_same]
      exact ⟨idle.queue, idle.normal, idle.arbiter, idle.transmitting, idle.waiting⟩
    · rw [portAt_count_ne hq]
      exact idle

theorem clearSlot_moves (p : Port) (s : State) : PortMoves A s (clearSlot p s) := by
  have forwarded : Forwarded s (clearSlot p s) := rfl
  refine forwarded.portMoves_of_steps (fun q => ?_) fun _ _ q _ idle => ?_
  · by_cases hq : q = p
    · subst hq
      rw [portAt_clearSlot_same]
      exact PortState.freed_steps
    · exact .of_eq (portAt_clearSlot_ne hq)
  · by_cases hq : q = p
    · subst hq
      rw [portAt_clearSlot_same]
      exact ⟨idle.queue, idle.normal, idle.arbiter, idle.transmitting, rfl⟩
    · rw [portAt_clearSlot_ne hq]
      exact idle

/-- A status joins a queue only of a bay port that is enabled or an upstream port that is UP. -/
theorem sendStatus_moves (c : StatusCode) (p : Port) (f : Frame) (s : State)
    (live : ∀ b : Bay, p = .bay b → A → enabled b s = true) : PortMoves A s (sendStatus c p f s) := by
  by_cases hf : f.kind = .status
  · unfold sendStatus
    rw [if_pos hf]
    exact .refl A s
  refine (sendStatus_forwarded c p f s).portMoves_of_steps (fun q => ?_) fun a _ q shut idle => ?_
  · by_cases hq : q = p
    · subst hq
      rw [portAt_sendStatus_same hf]
      exact PortState.answered_steps _ _ (portAt_size_le q s)
    · exact .of_eq (portAt_sendStatus_ne hq c f)
  · by_cases hq : q = p
    · subst hq
      rw [portAt_sendStatus_same hf]
      cases q with
      | bay b => exact absurd (live b rfl a) (Bool.eq_false_iff.1 shut)
      | up u => exact PortState.answered_idle _ _ (portAt_size_down shut) idle
    · rw [portAt_sendStatus_ne hq]
      exact idle

theorem refuseFrame_moves (c : StatusCode) (p : Port) (f : Frame) (s : State)
    (live : ∀ b : Bay, p = .bay b → A → enabled b s = true) : PortMoves A s (refuseFrame c p f s) :=
  (count_moves p .discarded 1 s).trans (sendStatus_moves c p f _ live)

/-- A frame of `p` is put at the tail of the queue that frames for `q` join. -/
def joined (p q : Port) (f : Frame) (s : State) : State :=
  match q with
  | .bay b => pushBay b ⟨f, .arrived p⟩ s
  | .up u => pushNormal u ⟨f, .arrived p⟩ s

/-- The queue that frames for the port join (R72). -/
def PortState.lane (q : Port) (x : PortState) : List Held :=
  match q with
  | .bay _ => x.queue
  | .up _ => x.normal

/-- The port with another such queue. -/
def PortState.setLane (q : Port) (l : List Held) (x : PortState) : PortState :=
  match q with
  | .bay _ => { x with queue := l }
  | .up _ => { x with normal := l }

theorem joined_forwarded (p q : Port) (f : Frame) (s : State) : Forwarded s (joined p q f s) := by cases q <;> rfl

theorem portAt_joined_same (p q : Port) (f : Frame) (s : State) :
    portAt q (joined p q f s) = (portAt q s).setLane q ((portAt q s).lane q ++ [⟨f, .arrived p⟩]) := by
  cases q with
  | bay b => exact portAt_pushBay_same b _
  | up u =>
    have unit : (pushNormal u ⟨f, .arrived p⟩ s).fwd.up[upIdx u] =
      { s.fwd.up[upIdx u] with normal := s.fwd.up[upIdx u].normal ++ [⟨f, .arrived p⟩] } := getElem_upd_same _ _ _
    unfold joined portAt
    dsimp only
    rw [unit]
    rfl

theorem portAt_joined_ne {q r : Port} (h : r ≠ q) (p : Port) (f : Frame) (s : State) :
    portAt r (joined p q f s) = portAt r s := by
  cases q with
  | bay b => exact portAt_pushBay_ne h _
  | up u => exact portAt_modUp_ne h _

theorem markActivity_moves (b : Bay) (s : State) : PortMoves A s (markActivity b s) := modLight_moves b _ s

theorem capture_moves (b : Bay) (x : Int) (s : State) : PortMoves A s (capture b x s) := by
  unfold capture
  extract_lets r u v w
  have warned : PortMoves A s u := .ite (latchBay_moves b .tempWarn s) (.refl A s)
  have taken : PortMoves A u v := modTherm_moves b _ u
  have latched : PortMoves A v w := latchBay_moves b .overtemp v
  have sent : PortMoves A w (modBay b (fun r => { r with otTrip := true }) w) :=
    .of_bays rfl rfl rfl rfl fun _ _ => .of_upd (modBay_bays b _ w) id id fun _ => .inl
  exact .ite ((warned.trans taken).trans (.ite (latched.trans sent) latched)) (warned.trans taken)

theorem applyRule_moves (b : Bay) (r : SnoopRule) (v : Byte) (s : State) : PortMoves A s (applyRule b r v s) := by
  have marked : PortMoves A s (modLight b (fun u => { u with predictedFault := true }) s) := modLight_moves b _ s
  unfold applyRule
  split
  · split
    · exact .ite (capture_moves b _ s) (modTherm_moves b _ s)
    · exact .refl A s
  · exact .ite (.refl A s) (marked.trans (latchBay_moves b .predictedFault _))

theorem snoop_moves (b : Bay) (f : Frame) (s : State) : PortMoves A s (snoop b f s) := by
  unfold snoop
  dsimp only
  split
  · split
    · exact .refl A s
    · split
      · exact .refl A s
      · exact applyRule_moves b _ _ s
  · exact .refl A s

/-- What placing a frame does past joining the queue: the counter, the activity mark, the snooper. -/
theorem place_moves_joined (p q : Port) (f : Frame) (s : State) : PortMoves A (joined p q f s) (place p q f s) := by
  cases q with
  | bay b => exact (count_moves p .forwarded 1 _).trans (markActivity_moves b _)
  | up u =>
    cases p with
    | bay a => exact ((count_moves (.bay a) .forwarded 1 _).trans (markActivity_moves a _)).trans (snoop_moves a f _)
    | up v => exact count_moves (.up v) .forwarded 1 _

theorem PortState.setLane_eases {q : Port} {x : PortState} (l : List Held)
    (bounded : x.Bounded q → (x.setLane q l).Bounded q) : x.Eases q (x.setLane q l) := by
  cases q with
  | bay b => exact ⟨id, bounded, fun w h => ⟨w, h, rfl⟩⟩
  | up u => exact ⟨id, bounded, fun w h => ⟨w, h, rfl⟩⟩

/-- The places of the queue that frames for the port join. -/
def laneSize : Port → Nat
  | .bay _ => Config.bayQueueSize
  | .up _ => Config.normalQueueSize

theorem PortState.room_iff {q : Port} {x : PortState} : x.room q = true ↔ (x.lane q).length < laneSize q := by
  cases q <;> exact decide_eq_true_iff

theorem PortState.Bounded.lane {q : Port} {x : PortState} (h : x.Bounded q) : (x.lane q).length ≤ laneSize q := by
  cases q with
  | bay b => exact h.queue
  | up u => exact h.normal

theorem PortState.Bounded.setLane {q : Port} {x : PortState} (h : x.Bounded q) {l : List Held} (short : l.length ≤ laneSize q) :
    (x.setLane q l).Bounded q := by
  cases q with
  | bay b => exact ⟨short, h.normal, h.counters⟩
  | up u => exact ⟨h.queue, short, h.counters⟩

theorem PortState.lane_setLane (q : Port) (l : List Held) (x : PortState) : (x.setLane q l).lane q = l := by cases q <;> rfl

/-- A frame joins a queue that has room, of a port that is open (R72, R75). -/
theorem joined_moves (p q : Port) (f : Frame) (s : State) (room : queueRoom q s = true)
    (live : A → PortsConsistent s → portOpen q s = true) : PortMoves A s (joined p q f s) := by
  rw [queueRoom_eq, PortState.room_iff] at room
  refine (joined_forwarded p q f s).portMoves_of_steps (fun r => ?_) fun a c r shut idle => ?_
  · by_cases hr : r = q
    · subst hr
      rw [portAt_joined_same]
      refine ⟨PortState.setLane_eases _ fun h => h.setLane ?_, fun _ => PortState.room_iff.2 room⟩
      rw [List.length_append]
      exact room
    · exact .of_eq (portAt_joined_ne hr p f s)
  · rw [portAt_joined_ne fun hr => ?_]
    · exact idle
    · subst hr
      exact Bool.false_ne_true (shut.symm.trans (live a c))

theorem place_moves (p q : Port) (f : Frame) (s : State) (room : queueRoom q s = true)
    (live : A → PortsConsistent s → portOpen q s = true) : PortMoves A s (place p q f s) :=
  (joined_moves p q f s room live).trans (place_moves_joined p q f s)

/-- A frame waits for a full queue of an open port (R78). -/
theorem enterSlot_moves (p q : Port) (f : Frame) (s : State) (full : queueRoom q s = false)
    (live : A → PortsConsistent s → portOpen p s = true) (target : A → PortsConsistent s → targetOpen s q = true) :
    PortMoves A s (enterSlot p q f s) := by
  have forwarded : Forwarded s (enterSlot p q f s) := rfl
  have slot {r : Port} {w : Waiting} (h : (portAt r (enterSlot p q f s)).waiting = some w) :
      r = p ∧ w.target = q ∨ r ≠ p ∧ (portAt r s).waiting = some w := by
    by_cases hr : r = p
    · subst hr
      have entered : (portAt r (enterSlot r q f s)).waiting =
        some ⟨f, q, s.now, s.now + s.fwd.timeout, s.fwd.waitSeq, false⟩ := getElem_put_same _ _ _
      rw [entered] at h
      exact .inl ⟨rfl, congrArg Waiting.target (Option.some.inj h).symm⟩
    · have other : (portAt r (enterSlot p q f s)).waiting = (portAt r s).waiting := getElem_put_ne _ _ (portIdx_ne hr)
      exact .inr ⟨hr, other.symm.trans h⟩
  have rest (r : Port) : portAt r (enterSlot p q f s) =
      { portAt r s with waiting := (portAt r (enterSlot p q f s)).waiting } := rfl
  refine ⟨⟨fun h => ?_, fun h => ?_, fun a c => ?_⟩, fun _ => id⟩
  · exact ⟨h.bay, h.normal, h.priority, h.requests, h.notices, h.counters⟩
  · rw [waitersBlocked_iff] at h ⊢
    intro r w hw
    rcases slot hw with ⟨-, rfl⟩ | ⟨-, hw⟩
    · rw [← queueRoom_eq]
      exact full
    · exact h r w hw
  · obtain ⟨idle, blocks, targets⟩ := (portsConsistent_iff s).1 c
    have quiet (u : UpPort) (k : BlocksQuiet s u) : BlocksQuiet (enterSlot p q f s) u :=
      ⟨k.requests, k.held, k.restart, k.learned, k.subscribed, k.holds, k.notices, k.overflow⟩
    refine (portsConsistent_iff _).2 ⟨fun r shut => ?_, fun u down => quiet u (blocks u down), fun r w hw => ?_⟩
    · have closed : portOpen r s = false := by cases r <;> exact shut
      have empty := idle r closed
      have none : (portAt r (enterSlot p q f s)).waiting = none := by
        cases hw : (portAt r (enterSlot p q f s)).waiting with
        | none => rfl
        | some w =>
          rcases slot hw with ⟨rfl, -⟩ | ⟨-, hw⟩
          · exact absurd (live a c) (Bool.eq_false_iff.1 closed)
          · rw [empty.waiting] at hw
            cases hw
      rw [rest, none]
      exact ⟨empty.queue, empty.normal, empty.arbiter, empty.transmitting, rfl⟩
    · rcases slot hw with ⟨-, rfl⟩ | ⟨-, hw⟩
      · exact target a c
      · exact targets r w hw

end

end Sys2Proof.Machine

namespace Sys2Proof.Machine

/-! ### A bay that leaves power closes its port (R22, R84) -/

section
variable {A : Prop} {s t : State}

/-- A shut port at which nothing stands stays so in a flush. -/
theorem portAt_flush_shut {b : Bay} {q : Port} (hq : q ≠ .bay b) (shut : portOpen q s = false) (idle : (portAt q s).Idle) :
    (portAt q (flush b s)).Idle := by
  have none : waitingFor (.bay b) q s = [] := by
    have slot : s.fwd.waiting[portIdx q] = none := idle.waiting
    unfold waitingFor
    rw [slot]
  rw [portAt_flush_idle hq none]
  cases q with
  | bay c => exact idle
  | up u => exact PortState.answeredAll_idle (portAt_size_down shut) idle

/-- After a flush no frame waits for the bay. -/
theorem flush_unwaited {b : Bay} {q : Port} {w : Waiting} (h : (portAt q (flush b s)).waiting = some w) :
    w.target ≠ .bay b := by
  intro target
  by_cases hq : q = .bay b
  · subst hq
    rw [(flush_flushed b s).waiting] at h
    cases h
  · rw [portAt_flush_waiting hq] at h
    split at h
    · next none =>
      rw [waitingFor_eq h target] at none
      cases none
    · cases h

/-- A bay port is flushed between changes that leave the ports alone, and a hold that the bay takes is of a port that is UP. -/
theorem PortMoves.of_flush {b : Bay} {u : State} (before : Elsewhere s u) (after : Elsewhere (flush b u) t)
    (worked : ∀ c : Bay, c ≠ b → u.bays[c] = s.bays[c]) (left : ∀ c : Bay, c ≠ b → t.bays[c] = s.bays[c])
    (hold : A → ∀ p : UpPort, t.bays[b].hold = some p → s.bays[b].hold = some p ∨ s.fwd.up[upIdx p].linkUp = true) :
    PortMoves A s t := by
  have flushed := flush_flushed b u
  have unwaited {q : Port} {w : Waiting} (h : (portAt q t).waiting = some w) : w.target ≠ .bay b := by
    obtain ⟨v, hv, target⟩ := (after.steps q).waiting w h
    exact target ▸ flush_unwaited hv
  have steps {q : Port} (hq : q ≠ .bay b) : (portAt q s).Steps q (portAt q t) :=
    ((before.steps q).trans (portAt_flush_steps hq)).trans (after.steps q)
  have emptied : (portAt (.bay b) u).Eases (.bay b) (portAt (.bay b) (flush b u)) := by
    refine ⟨id, fun h => ⟨by rw [flushed.queue]; exact Nat.zero_le _, Nat.zero_le _, fun k => ?_⟩, fun w h => ?_⟩
    · by_cases hk : k = .discarded
      · subst hk
        rw [flushed.discarded]
        exact Nat.min_le_left _ _
      · rw [flushed.others k hk]
        exact h.counters k
    · rw [flushed.waiting] at h
      cases h
  have eases (q : Port) : (portAt q s).Eases q (portAt q t) := by
    by_cases hq : q = .bay b
    · subst hq
      exact ((before.steps _).toEases.trans emptied).trans (after.steps _).toEases
    · exact (steps hq).toEases
  have mgmt : t.mgmt = s.mgmt := after.mgmt.trans ((flush_mgmt b u).trans before.mgmt)
  have told : Told s.ev t.ev := before.told.trans (flush_ev b u ▸ after.told)
  have learned (p : UpPort) : t.route.learned[portIdx (.up p)] = s.route.learned[portIdx (.up p)] :=
    (after.learned p).trans (by rw [flush_route]; exact before.learned p)
  have shut {q : Port} (hq : q ≠ .bay b) (h : portOpen q t = false) : portOpen q s = false := by
    cases q with
    | bay c =>
      change enabled c t = false at h
      unfold enabled at h
      rw [left c fun e => hq (congrArg Port.bay e)] at h
      exact h
    | up p => exact Bool.eq_false_iff.2 fun up => Bool.eq_false_iff.1 h ((eases (.up p)).link up)
  have still {q : Port} (hq : q ≠ .bay b) (h : portOpen q s = false) : portOpen q u = false := by
    cases q with
    | bay c =>
      change enabled c u = false
      unfold enabled
      rw [worked c fun e => hq (congrArg Port.bay e)]
      exact h
    | up p =>
      change u.fwd.up[upIdx p].linkUp = false
      rw [before.up]
      exact h
  refine .of_eases eases (fun _ w hw => (steps (unwaited hw)).room) (fun p => by rw [mgmt]; exact id) told.bounded fun a c => ?_
  refine ⟨fun q closed => after.idle ?_, fun p down k => ?_, fun q w c hw target online => ?_⟩
  · by_cases hq : q = .bay b
    · subst hq
      exact ⟨flushed.queue, rfl, rfl, flushed.transmitting, flushed.waiting⟩
    · have was := shut hq closed
      exact portAt_flush_shut hq (still hq was) (before.idle (c.idle q was))
  · have deaf := told.deaf p ⟨k.subscribed, k.notices, k.overflow⟩
    refine ⟨by rw [mgmt]; exact k.requests, by unfold holdsFor; rw [mgmt]; exact k.held,
      by unfold restartOn; rw [mgmt]; exact k.restart, (learned p).trans k.learned, deaf.subscribed, fun c hc => ?_,
      deaf.notices, deaf.overflow⟩
    by_cases e : c = b
    · subst e
      exact (hold a p hc).elim (k.holds c) fun up => Bool.false_ne_true (down.symm.trans up)
    · rw [left c e] at hc
      exact k.holds c hc
  · rw [left c fun e => unwaited hw (e ▸ target)]
    exact online

/-- The part of leaving power that comes before the flush. -/
def beforeFlush (b : Bay) (s : State) : State := setFilter b .clear (setCharge b 0 (modBay b unpowerRecord s))

theorem unpowered_eq (b : Bay) (s : State) : unpowered b s = flush b (beforeFlush b s) := rfl

theorem beforeFlush_frame (b : Bay) (s : State) : (beforeFlush b s).fwd = s.fwd ∧ (beforeFlush b s).mgmt = s.mgmt ∧
    (beforeFlush b s).route = s.route ∧ (beforeFlush b s).bays = upd s.bays b unpowerRecord ∧
    Told s.ev (beforeFlush b s).ev := by
  unfold beforeFlush
  refine ⟨?_, ?_, ?_, ?_, ?_⟩
  · rw [setFilter_fwd, setCharge_fwd, modBay_fwd]
  · rw [setFilter_mgmt, setCharge_mgmt, modBay_mgmt]
  · rw [setFilter_route, setCharge_route, modBay_route]
  · rw [setFilter_bays, setCharge_bays, modBay_bays]
  · rw [setFilter_ev]
    exact setCharge_told b 0 (modBay b unpowerRecord s)

/-- What leaving power and a change of the record do past the flush. -/
theorem afterFlush_elsewhere (b : Bay) (f : BayRecord → BayRecord) (s : State) :
    Elsewhere (flush b (beforeFlush b s)) (modBay b f (leavePower b s)) := by
  obtain ⟨fwd, ev, -⟩ := leavePower_parts b s
  obtain ⟨-, mgmt, route, -⟩ := beforeFlush_frame b s
  rw [unpowered_eq] at fwd ev
  refine .of_blocks ((modBay_fwd b f _).trans fwd) ?_ (fun p => ?_) ?_
  · rw [modBay_mgmt, leavePower_mgmt, flush_mgmt, mgmt]
  · rw [modBay_route, (leavePower_routes b s).2.1, flush_route, route]
    split
    · exact getElem_put_ne _ _ (portIdx_ne Port.noConfusion)
    · rfl
  · rw [modBay_ev, ev]
    exact .refl _

/-- A bay leaves power for the state that `f` gives its record. -/
theorem leavePower_moves (b : Bay) (f : BayRecord → BayRecord) (s : State)
    (hold : A → ∀ p : UpPort, (f (unpowerRecord s.bays[b])).hold = some p →
      s.bays[b].hold = some p ∨ s.fwd.up[upIdx p].linkUp = true) :
    PortMoves A s (modBay b f (leavePower b s)) := by
  obtain ⟨fwd, mgmt, route, bays, told⟩ := beforeFlush_frame b s
  have left : (modBay b f (leavePower b s)).bays = upd s.bays b fun r => f (unpowerRecord r) := by
    rw [modBay_bays, leavePower_bays, upd_upd]
  refine .of_flush (.of_blocks fwd mgmt (fun p => by rw [route]) told) (afterFlush_elsewhere b f s)
    (fun c hc => by rw [bays, getElem_upd_ne _ _ hc]) (fun c hc => by rw [left, getElem_upd_ne _ _ hc]) fun a p hp => ?_
  rw [left, getElem_upd_same] at hp
  exact hold a p hp

theorem faultBay_moves (b : Bay) (c : FaultCause) (s : State) : PortMoves A s (faultBay b c s) :=
  leavePower_moves b _ s fun _ _ => .inl

/-! ### Seating, removal, line test (R8, R17, R23, R24) -/

theorem seat_moves (b : Bay) (s : State) (off : A → powered s.bays[b].state = false) : PortMoves A s (seat b s) := by
  cases hp : s.bays[b].policy with
  | auto =>
    rw [seat_auto hp]
    exact ((modLine_moves b unitSeated s).trans (enqueueFresh_moves b .normal _ off)).trans (latchBay_moves b .inserted _)
  | manual =>
    rw [seat_manual hp]
    exact ((modLine_moves b unitSeated s).trans (modBay_moves b _ _ off fun _ _ h => by cases h)).trans
      (latchBay_moves b .inserted _)

theorem startSeating_moves (b : Bay) (s : State) (off : A → powered s.bays[b].state = false) :
    PortMoves A s (startSeating b s) := by
  have entered : PortMoves A s (setState b .seating s) := modBay_moves b _ s off fun _ _ => .inl
  rcases Nat.eq_zero_or_pos s.line.debounceSetting with hd | hd
  · rw [startSeating_of_zero b s hd]
    exact entered.trans (seat_moves b _ fun _ => by rw [setState_bays, getElem_upd_same]; rfl)
  · rw [startSeating_of_pos b s hd]
    exact entered.trans (modLine_moves b _ _)

theorem cancelEmptyGroup_moves (s : State) : PortMoves A s (cancelEmptyGroup s) := by
  rw [cancelEmptyGroup_eq]
  exact .of_frame rfl rfl rfl rfl rfl

theorem unseat_moves (b : Bay) (s : State) (off : A → powered s.bays[b].state = false) : PortMoves A s (unseat b s) := by
  have emptied : PortMoves A s (setState b .empty s) := modBay_moves b _ s off fun _ _ => .inl
  exact (emptied.trans (modLine_moves b _ _)).trans (cancelEmptyGroup_moves _)

theorem remove_moves (b : Bay) (s : State) : PortMoves A s (remove b s) := by
  have emptied : PortMoves A s (modBay b emptyRecord (evicted b s)) := by
    have bare (u : State) (off : powered u.bays[b].state = false) : PortMoves A u (modBay b emptyRecord u) :=
      modBay_moves b _ u (fun _ => off) fun _ _ h => by cases h
    rcases evicted_cases b s with ⟨-, e⟩ | ⟨off, -, e⟩ | ⟨off, -, e⟩ <;> rw [e]
    · exact leavePower_moves b _ s fun _ _ h => by cases h
    · exact (leaveQueue_moves b s).trans (bare (leaveQueue b s) off)
    · exact bare s off
  rw [remove_eq]
  exact (emptied.trans (modLight_moves b _ _)).trans (latchBay_moves b .removed _)

theorem presenceEdge_moves (b : Bay) (s : State) : PortMoves A s (presenceEdge b s) := by
  unfold presenceEdge
  split
  · exact modLine_moves b _ s
  · next hx _ => exact startSeating_moves b s fun _ => by rw [hx]; rfl
  · exact .refl A s
  · next hx _ => exact unseat_moves b s fun _ => by rw [hx]; rfl
  · exact remove_moves b s
  · exact .refl A s

theorem judgePresence_moves (b : Bay) (s : State) : PortMoves A s (judgePresence b s) := by
  unfold judgePresence
  dsimp only
  split
  · exact .refl A s
  · exact (modLine_moves b _ s).trans (presenceEdge_moves b _)

theorem setConnector_moves (b : Bay) (d : PrsDrive) (s : State) : PortMoves A s (setConnector b d s) :=
  (modLine_moves b _ s).trans (judgePresence_moves b _)

theorem writeLines_moves (rec : LineRecord) (b : Bay) (s : State) : PortMoves A s (writeLines rec b s) :=
  (modLine_moves b _ s).trans (judgePresence_moves b _)

/-- Bays without power change their records, and none takes a hold. -/
theorem modBays_moves (p : Bay → Bool) (f : BayRecord → BayRecord) (s : State)
    (off : ∀ b : Bay, p b = true → powered s.bays[b].state = false)
    (hold : ∀ (b : Bay) (u : UpPort), (f s.bays[b]).hold = some u → s.bays[b].hold = some u) :
    PortMoves A s (modBays p f s) := by
  have record (b : Bay) : (modBays p f s).bays[b] = if p b then f s.bays[b] else s.bays[b] := getElem_tab _ b
  refine .of_bays (modBays_fwd p f s) (modBays_mgmt p f s) (modBays_route p f s) (modBays_ev p f s) fun _ _ => ⟨fun b => ?_, fun b => ?_, fun b u => ?_⟩
  · unfold enabled
    rw [record]
    split
    · next hb => exact fun on => (Bool.false_ne_true ((off b hb).symm.trans on)).elim
    · exact id
  · rw [record]
    split
    · next hb => exact fun on => (Bool.false_ne_true ((off b hb).symm.trans (on ▸ rfl))).elim
    · exact id
  · rw [record]
    split
    · exact fun h => .inl (hold b u h)
    · exact .inl

theorem lineTestEnter_moves (p : UpPort) (f : Frame) (s : State) : PortMoves A s (lineTestEnter p f s).1 := by
  unfold lineTestEnter
  dsimp only
  split
  · exact .refl A s
  · dsimp only
    rw [enterTest_foldl _ (allBays_nodup.filter _)]
    have off {b : Bay} (enters : enterOutcome s.bays[b] = .entered) : powered s.bays[b].state = false := by
      unfold enterOutcome at enters
      split at enters
      case h_5 => cases enters
      all_goals next hx => rw [hx]; rfl
    refine (modBays_moves _ testRecord s (fun b hb => ?_) fun _ _ => id).trans (modLines_moves _ _ _)
    exact off (of_decide_eq_true (Bool.and_eq_true_iff.1 (List.mem_filter.1 (of_decide_eq_true hb)).2).2)

theorem exitTest_moves (b : Bay) (s : State) (h : A → BaysConsistent s) : PortMoves A s (exitTest b s) := by
  cases hp : s.bays[b].prior with
  | none =>
    rw [exitTest_still hp]
    exact .refl A s
  | some y =>
    have off (a : A) : powered s.bays[b].state = false := by
      have test : s.bays[b].state = .test := by
        by_contra hn
        rw [((h a).record b).noPrior hn] at hp
        cases hp
      rw [test]
      rfl
    have left (x : BayState) (c : Option FaultCause) : PortMoves A s (modBay b (leftTest x c) s) :=
      modBay_moves b _ s off fun _ _ h => by cases h
    rcases exitTest_cases (b := b) (s := s) with ⟨-, none⟩ | ⟨x, c, -, e⟩ | e | e
    · rw [hp] at none
      cases none
    · rw [e]
      exact left x c
    · rw [e]
      exact (left .seating none).trans (startSeating_moves b (modBay b (leftTest .seating none) s) fun _ => by rw [modBay_bays, getElem_upd_same]; rfl)
    · rw [e]
      exact remove_moves b s

end

end Sys2Proof.Machine

namespace Sys2Proof.Machine

/-! ### Changes of the endpoint, the routes and the event unit (R91, R163, R191) -/

section
variable {A : Prop} {s t : State}

theorem steps_of_fwd (fwd : t.fwd = s.fwd) (q : Port) : (portAt q s).Steps q (portAt q t) := by
  refine ⟨⟨?_, fun h => ⟨?_, ?_, fun k => ?_⟩, fun w h => ⟨w, ?_, rfl⟩⟩, ?_⟩
  · unfold portAt; rw [fwd]; exact id
  · have queue := h.queue; unfold portAt at queue ⊢; rw [fwd]; exact queue
  · have normal := h.normal; unfold portAt at normal ⊢; rw [fwd]; exact normal
  · have counter := h.counters k; unfold portAt at counter ⊢; rw [fwd]; exact counter
  · unfold portAt at h ⊢; rw [fwd] at h; exact h
  · rw [← queueRoom_eq, ← queueRoom_eq]; unfold queueRoom; rw [fwd]; exact id

theorem idle_of_fwd (fwd : t.fwd = s.fwd) {q : Port} (h : (portAt q s).Idle) : (portAt q t).Idle := by
  obtain ⟨queue, normal, arbiter, transmitting, waiting⟩ := h
  unfold portAt at *
  rw [fwd]
  exact ⟨queue, normal, arbiter, transmitting, waiting⟩

/-- The forwarding engine and the bays stay; other blocks change, but for what stands there of a port that is DOWN. -/
theorem PortMoves.of_fwd (fwd : t.fwd = s.fwd) (bays : t.bays = s.bays)
    (requests : ∀ p : UpPort, (s.mgmt.requests[upIdx p]).length ≤ Config.requestQueueSize →
      (t.mgmt.requests[upIdx p]).length ≤ Config.requestQueueSize)
    (notices : ∀ p : UpPort, (s.ev.notices[upIdx p]).length ≤ Config.noticeQueueSize →
      (t.ev.notices[upIdx p]).length ≤ Config.noticeQueueSize)
    (quiet : A → ∀ p : UpPort, s.fwd.up[upIdx p].linkUp = false → BlocksQuiet s p → BlocksQuiet t p) : PortMoves A s t := by
  refine .of_steps (steps_of_fwd fwd) requests notices fun a c => ⟨fun q shut => idle_of_fwd fwd (c.idle q ?_), quiet a, ?_⟩
  · cases q with
    | bay b => change enabled b s = false; unfold enabled; rw [← bays]; exact shut
    | up p => change s.fwd.up[upIdx p].linkUp = false; rw [← fwd]; exact shut
  · intro _ _ b _ _ online
    rw [bays]
    exact online

/-- Only the endpoint changes. -/
theorem PortMoves.of_mgmt (m : MgmtBlock)
    (requests : ∀ p : UpPort, (s.mgmt.requests[upIdx p]).length ≤ Config.requestQueueSize →
      (m.requests[upIdx p]).length ≤ Config.requestQueueSize)
    (quiet : A → ∀ p : UpPort, s.fwd.up[upIdx p].linkUp = false → BlocksQuiet s p →
      m.requests[upIdx p] = [] ∧ holdsFor p { s with mgmt := m } = false ∧ restartOn p { s with mgmt := m } = false) :
    PortMoves A s { s with mgmt := m } := by
  refine .of_fwd rfl rfl requests (fun _ => id) fun a p down k => ?_
  obtain ⟨hr, hh, hs⟩ := quiet a p down k
  exact ⟨hr, hh, hs, k.learned, k.subscribed, k.holds, k.notices, k.overflow⟩

/-- Only the event unit changes. -/
theorem PortMoves.of_ev (e : EventBlock)
    (notices : ∀ p : UpPort, (s.ev.notices[upIdx p]).length ≤ Config.noticeQueueSize →
      (e.notices[upIdx p]).length ≤ Config.noticeQueueSize)
    (quiet : A → ∀ p : UpPort, s.fwd.up[upIdx p].linkUp = false → s.ev.Deaf p → e.Deaf p) :
    PortMoves A s { s with ev := e } := by
  refine .of_fwd rfl rfl (fun _ => id) notices fun a p down k => ?_
  have deaf := quiet a p down ⟨k.subscribed, k.notices, k.overflow⟩
  exact ⟨k.requests, k.held, k.restart, k.learned, deaf.subscribed, k.holds, deaf.notices, deaf.overflow⟩

/-- Only the route table changes. -/
theorem PortMoves.of_route (r : RouteBlock)
    (quiet : A → ∀ p : UpPort, s.fwd.up[upIdx p].linkUp = false → s.route.learned[portIdx (.up p)] = none →
      r.learned[portIdx (.up p)] = none) : PortMoves A s { s with route := r } :=
  .of_fwd rfl rfl (fun _ => id) (fun _ => id) fun a p down k =>
    ⟨k.requests, k.held, k.restart, quiet a p down k.learned, k.subscribed, k.holds, k.notices, k.overflow⟩

theorem down_ne {p q : UpPort} (down : s.fwd.up[upIdx q].linkUp = false) (live : s.fwd.up[upIdx p].linkUp = true) : q ≠ p :=
  fun e => by
    subst e
    exact Bool.false_ne_true (down.symm.trans live)

/-- A learned slot is written only of a bay or of an upstream port that is UP (R95). -/
theorem learn_moves (p : Port) (a : Addr) (s : State) (live : ∀ u : UpPort, p = .up u → A → s.fwd.up[upIdx u].linkUp = true) :
    PortMoves A s (learn p a s) := by
  have written (x : Option Learned) (st : Vector (Option Static) 30) :
      PortMoves A s { s with route := { learned := put s.route.learned (portIdx p) x, statics := st } } := by
    refine .of_route _ fun h u down none => (getElem_put_ne _ _ (portIdx_ne fun e => ?_)).trans none
    exact Bool.false_ne_true (down.symm.trans (live u e.symm h))
  unfold learn
  split
  · exact written _ _
  · exact (written _ _).trans (latchEncl_moves _ _ _)

/-! ### HELLOs and frames that arrive (R27 to R29, R68 to R72, R97, R98) -/

theorem failStart_moves (b : Bay) (s : State) : PortMoves A s (failStart b s) := by
  unfold failStart
  dsimp only
  refine PortMoves.trans ?_ (latchBay_moves b .startFailed _)
  exact .ite ((leavePower_moves b _ s fun _ _ => .inl).trans (joinQueue_moves b .normal _)) (faultBay_moves b .noHello s)

theorem refuseHello_moves (b : Bay) (c : FaultCause) (k : BayEvent) (s : State) : PortMoves A s (refuseHello b c k s) :=
  ((faultBay_moves b c s).trans (latchBay_moves b k _)).trans (count_moves (.bay b) .discarded 1 _)

theorem acceptStart_moves (b : Bay) (a : Announcement) (s : State) : PortMoves A s (acceptStart b a s) := by
  have online : PortMoves A s (modBay b (fun r => { storeHello a r with state := .online, startTimer := none }) s) :=
    .of_bays rfl rfl rfl rfl fun _ _ => .of_upd (modBay_bays b _ s) (fun _ => rfl) (fun _ => rfl) fun _ => .inl
  have learned := (online.trans (setCharge_moves b (runDraw a.cls s) _)).trans
    (learn_moves (.bay b) a.addr _ fun _ e => Port.noConfusion e)
  unfold acceptStart
  exact ((learned.trans (modTherm_moves b _ _)).trans (latchBay_moves b .online _)).trans (ask_moves _)

theorem acceptOnline_moves (move : Bool) (b : Bay) (a : Announcement) (s : State) :
    PortMoves A s (acceptOnline move b a s) := by
  have stored : PortMoves A s (modBay b (storeHello a) s) :=
    .of_bays rfl rfl rfl rfl fun _ _ => .of_upd (modBay_bays b _ s) id id fun _ => .inl
  have charged := stored.trans (setCharge_moves b (runDraw a.cls s) _)
  unfold acceptOnline
  exact .ite (charged.trans (learn_moves (.bay b) a.addr _ fun _ e => Port.noConfusion e)) charged

theorem helloAtBay_moves (b : Bay) (f : Frame) (s : State) : PortMoves A s (helloAtBay b f s) := by
  have refused (c : FaultCause) (k : BayEvent) : PortMoves A s (refuseHello b c k s) := refuseHello_moves b c k s
  unfold helloAtBay
  split
  · exact count_moves _ _ _ s
  · next a _ =>
    split
    · exact .ite (refused _ _) (.ite (refused _ _) (acceptStart_moves b a s))
    · exact .ite (refused _ _) (.ite (refused _ _) (acceptOnline_moves _ b a s))
    · exact .refl A s

theorem helloAtUp_moves (p : UpPort) (f : Frame) (s : State) (live : A → s.fwd.up[upIdx p].linkUp = true) :
    PortMoves A s (helloAtUp p f s) := by
  unfold helloAtUp
  split
  · exact count_moves _ _ _ s
  · refine .ite (.refl A s) (.ite (count_moves _ _ _ s) (learn_moves _ _ s fun u e => ?_))
    cases e
    exact live

theorem routeFrame_moves (p : Port) (f : Frame) (s : State) (live : A → portOpen p s = true) :
    PortMoves A s (routeFrame p f s) := by
  have refused (c : StatusCode) : PortMoves A s (refuseFrame c p f s) :=
    refuseFrame_moves c p f s fun b e => by
      subst e
      exact live
  unfold routeFrame
  split
  · exact refused _
  · next q _ =>
    split
    · exact count_moves _ _ _ s
    · split
      · exact refused _
      · next path =>
        have target : targetOpen s q = true := by
          unfold pathRefusal at path
          cases q with
          | bay b =>
            cases p with
            | bay c => cases path
            | up u =>
              dsimp only at path
              split at path
              · next online => exact decide_eq_true online
              · cases path
          | up u =>
            dsimp only at path
            split at path
            · next up => exact up
            · cases path
        have opened : portOpen q s = true := by
          cases q with
          | bay b =>
            change powered s.bays[b].state = true
            rw [of_decide_eq_true target]
            rfl
          | up u => exact target
        split
        · next room => exact place_moves p q f s room fun _ _ => opened
        · next full => exact enterSlot_moves p q f s (Bool.not_eq_true _ ▸ full) (fun a _ => live a) fun _ _ => target

theorem pushRequest_moves (p : UpPort) (f : Frame) (s : State)
    (room : (s.mgmt.requests[upIdx p]).length < Config.requestQueueSize) (live : A → s.fwd.up[upIdx p].linkUp = true) :
    PortMoves A s (pushRequest p f s) := by
  refine .of_mgmt _ (fun q hq => ?_) fun a q down k => ⟨?_, k.held, k.restart⟩
  · by_cases e : q = p
    · subst e
      dsimp only
      rw [getElem_upd_same, List.length_append]
      exact room
    · dsimp only
      rw [getElem_upd_ne _ _ (upIdx_ne e)]
      exact hq
  · exact (getElem_upd_ne _ _ (upIdx_ne (down_ne down (live a)))).trans k.requests

theorem intake_moves (p : UpPort) (f : Frame) (s : State) (live : A → s.fwd.up[upIdx p].linkUp = true) :
    PortMoves A s (intake p f s) := by
  unfold intake
  split
  · next room => exact pushRequest_moves p f s room live
  · exact refuseFrame_moves _ _ f s fun _ e => Port.noConfusion e

theorem classify_moves (p : Port) (f : Frame) (s : State) (live : A → portOpen p s = true) : PortMoves A s (classify p f s) := by
  unfold classify
  refine .ite ?_ (.ite ?_ (routeFrame_moves p f s live))
  · cases p with
    | bay b => exact helloAtBay_moves b f s
    | up u => exact helloAtUp_moves u f s live
  · cases p with
    | bay b =>
      refine refuseFrame_moves _ _ f s fun c e => ?_
      cases e
      exact live
    | up u => exact intake_moves u f s live

theorem takeIn_moves (p : Port) (bytes : List Byte) (s : State) (live : A → portOpen p s = true) :
    PortMoves A s (takeIn p bytes s) := by
  unfold takeIn
  split
  · exact count_moves _ _ _ s
  · exact classify_moves p _ s live

theorem arrive_moves (p : Port) (bytes : List Byte) (s : State) (free : heldBack p s = false) :
    PortMoves A s (arrive p bytes s) := by
  cases p with
  | bay b =>
    unfold arrive
    dsimp only
    split
    · next on => exact takeIn_moves _ bytes s fun _ => on
    · exact count_moves _ _ _ s
  | up u =>
    refine takeIn_moves _ bytes s fun _ => ?_
    unfold heldBack at free
    have up := (Bool.or_eq_false_iff.1 free).2
    exact Bool.not_eq_false' _ ▸ up

/-- The link of a port holds the next frame back: the frame in the slot still waits for the same queue (R69). -/
theorem holdNext_moves (p : Port) (s : State) : PortMoves A s (holdNext p s) := by
  cases p with
  | up u => exact .refl A s
  | bay b =>
    have slot (q : Port) : (portAt q (holdNext (.bay b) s)).waiting = (portAt q s).waiting ∨
        (portAt q (holdNext (.bay b) s)).waiting = (portAt q s).waiting.map fun w => { w with behind := true } := by
      by_cases hq : q = .bay b
      · subst hq
        exact .inr (getElem_upd_same _ _ _)
      · exact .inl (getElem_upd_ne _ _ (portIdx_ne hq))
    have rest (q : Port) : portAt q (holdNext (.bay b) s) =
        { portAt q s with waiting := (portAt q (holdNext (.bay b) s)).waiting } := rfl
    have forwarded : Forwarded s (holdNext (.bay b) s) := rfl
    refine forwarded.portMoves_of_steps (fun q => ⟨⟨id, fun h => ⟨h.queue, h.normal, h.counters⟩, fun w hw => ?_⟩, id⟩)
      fun _ _ q _ idle => ?_
    · rcases slot q with e | e
      · exact ⟨w, e ▸ hw, rfl⟩
      · rw [e] at hw
        obtain ⟨v, hv, rfl⟩ := Option.map_eq_some_iff.1 hw
        exact ⟨v, hv, rfl⟩
    · have none : (portAt q (holdNext (.bay b) s)).waiting = none := by
        rcases slot q with e | e
        · rw [e, idle.waiting]
        · rw [e, idle.waiting]
          rfl
      rw [rest, none]
      exact ⟨idle.queue, idle.normal, idle.arbiter, idle.transmitting, rfl⟩

/-! ### Transmission (R76 to R82) -/

theorem lane_clearSlot (p r : Port) (s : State) : (portAt r (clearSlot p s)).lane r = (portAt r s).lane r := by
  by_cases hr : r = p
  · subst hr
    rw [portAt_clearSlot_same]
    cases r <;> rfl
  · rw [portAt_clearSlot_ne hr]

theorem room_of_lane {q : Port} {x y : PortState} (h : (y.lane q).length = (x.lane q).length) (room : y.room q = true) :
    x.room q = true := by
  rw [PortState.room_iff] at room ⊢
  rw [← h]
  exact room

/-- The queue of the port is replaced by one that is not longer. -/
theorem PortState.Eases.setLane {q : Port} {x y : PortState} (h : x.Eases q y) {l : List Held}
    (short : l.length ≤ (x.lane q).length) : x.Eases q (y.setLane q l) := by
  have bounded (b : x.Bounded q) : (y.setLane q l).Bounded q := (h.bounded b).setLane (Nat.le_trans short b.lane)
  cases q with
  | bay b => exact ⟨h.link, bounded, h.waiting⟩
  | up u => exact ⟨h.link, bounded, h.waiting⟩

/-- The front frame leaves a queue, and the frame whose wait for it started first takes the place (R79). -/
theorem fillPlace_moves {q : Port} {u : State} (forwarded : Forwarded s u) (h : Held)
    (lane : (portAt q s).lane q = h :: (portAt q u).lane q) (eases : (portAt q s).Eases q (portAt q u))
    (others : ∀ r : Port, r ≠ q → portAt r u = portAt r s) (live : portOpen q s = true) :
    PortMoves A s (fillPlace q u) := by
  have idle (v : State) (same : ∀ r : Port, r ≠ q → (portAt r u).Idle → (portAt r v).Idle) (r : Port)
      (shut : portOpen r s = false) (idle : (portAt r s).Idle) : (portAt r v).Idle := by
    have ne : r ≠ q := fun e => by
      subst e
      exact Bool.false_ne_true (shut.symm.trans live)
    exact same r ne (others r ne ▸ idle)
  have eased (r : Port) : (portAt r s).Eases r (portAt r u) := by
    by_cases hr : r = q
    · exact hr ▸ eases
    · exact (PortState.Steps.of_eq (others r hr)).toEases
  unfold fillPlace
  split
  · next none =>
    refine forwarded.portMoves eased (fun r w hw => ?_) fun _ _ => idle u fun _ _ => id
    have ne : w.target ≠ q := fun target => by
      have waits : (r, w) ∈ waitersFor q u := mem_waitersFor_iff.2 ⟨hw, target⟩
      rw [none] at waits
      cases waits
    rw [others _ ne]
    exact id
  · next p w rest first =>
    have moved : Forwarded s (joined p q w.frame (clearSlot p u)) :=
      (forwarded.trans (t := u) (u := clearSlot p u) rfl).trans (joined_forwarded p q w.frame _)
    have length : ((portAt q (joined p q w.frame (clearSlot p u))).lane q).length = ((portAt q s).lane q).length := by
      rw [portAt_joined_same, PortState.lane_setLane, lane_clearSlot, lane, List.length_append]
      rfl
    have cleared (r : Port) : (portAt r u).Steps r (portAt r (clearSlot p u)) := by
      by_cases hr : r = p
      · subst hr
        rw [portAt_clearSlot_same]
        exact PortState.freed_steps
      · exact .of_eq (portAt_clearSlot_ne hr)
    refine PortMoves.trans (moved.portMoves (fun r => ?_) (fun r v _ => ?_) fun _ _ => idle _ fun r hr k => ?_)
      (place_moves_joined p q w.frame _)
    · by_cases hr : r = q
      · subst hr
        rw [portAt_joined_same, PortState.lane_setLane] at length
        rw [portAt_joined_same]
        exact ((eased r).trans (cleared r).toEases).setLane (Nat.le_of_eq length)
      · rw [portAt_joined_ne hr]
        exact (eased r).trans (cleared r).toEases
    · by_cases e : v.target = q
      · rw [e]
        exact room_of_lane length
      · rw [portAt_joined_ne e, ← others _ e]
        exact (cleared v.target).room
    · rw [portAt_joined_ne hr]
      by_cases e : r = p
      · subst e
        rw [portAt_clearSlot_same]
        exact ⟨k.queue, k.normal, k.arbiter, k.transmitting, rfl⟩
      · rw [portAt_clearSlot_ne e]
        exact k

theorem portAt_setTransmitting_same (p : Port) (h : Held) (s : State) :
    portAt p (setTransmitting p h s) = { portAt p s with transmitting := some h } := by
  have slot : (setTransmitting p h s).fwd.transmitting[portIdx p] = some h := getElem_put_same _ _ _
  unfold portAt
  rw [slot]
  rfl

theorem portAt_setTransmitting_ne {p q : Port} (hq : q ≠ p) (h : Held) (s : State) :
    portAt q (setTransmitting p h s) = portAt q s := by
  have slot : (setTransmitting p h s).fwd.transmitting[portIdx q] = s.fwd.transmitting[portIdx q] :=
    getElem_put_ne _ _ (portIdx_ne hq)
  unfold portAt
  rw [slot]
  rfl

theorem portAt_modUp_of_link (p : UpPort) (f : UpUnit → UpUnit) (s : State)
    (link : (f s.fwd.up[upIdx p]).linkUp = s.fwd.up[upIdx p].linkUp) :
    portAt (.up p) (modUp p f s) = { portAt (.up p) s with
      queue := (f s.fwd.up[upIdx p]).priority, normal := (f s.fwd.up[upIdx p]).normal
      arbiter := (f s.fwd.up[upIdx p]).arbiter } := by
  have unit : (modUp p f s).fwd.up[upIdx p] = f s.fwd.up[upIdx p] := getElem_upd_same _ _ _
  unfold portAt
  dsimp only
  rw [unit, link]
  rfl

theorem setTransmitting_moves (p : Port) (h : Held) (s : State) (live : portOpen p s = true) :
    PortMoves A s (setTransmitting p h s) := by
  have forwarded : Forwarded s (setTransmitting p h s) := rfl
  refine forwarded.portMoves_of_steps (fun q => ?_) fun _ _ q shut idle => ?_
  · by_cases hq : q = p
    · subst hq
      rw [portAt_setTransmitting_same]
      exact PortState.sent_steps (some h)
    · exact .of_eq (portAt_setTransmitting_ne hq h s)
  · rw [portAt_setTransmitting_ne fun e => ?_]
    · exact idle
    · subst e
      exact Bool.false_ne_true (shut.symm.trans live)

theorem setPhase_moves (x : RestartPhase) (h : Held) (s : State) : PortMoves A s (setPhase x h s) := by
  unfold setPhase
  refine .ite (.of_mgmt _ (fun _ => id) fun _ p _ k => ⟨k.requests, k.held, ?_⟩) (.refl A s)
  have quiet := k.restart
  unfold restartOn at quiet ⊢
  dsimp only
  cases hr : s.mgmt.restart with
  | none => rfl
  | some r =>
    rw [hr] at quiet
    exact quiet

theorem placeHeld_moves (p : UpPort) (s : State) (live : s.fwd.up[upIdx p].linkUp = true) : PortMoves A s (placeHeld p s) := by
  unfold placeHeld
  split
  · exact .refl A s
  · split
    · next here =>
      have taken : PortMoves A s { s with mgmt := { s.mgmt with held := none } } :=
        .of_mgmt _ (fun _ => id) fun _ p _ k => ⟨k.requests, rfl, k.restart⟩
      exact (taken.trans (pushPriority_moves p _ _ (Bool.and_eq_true_iff.1 here).2 fun _ _ => live)).trans
        (setPhase_moves _ _ _)
    · exact .refl A s

theorem completeNotice_moves (p : UpPort) (h : Held) (s : State) : PortMoves A s (completeNotice p h s).2 := by
  unfold completeNotice
  split
  · refine .of_ev _ (fun _ => id) fun _ q _ d => ⟨d.subscribed, d.notices, ?_⟩
    by_cases e : q = p
    · subst e
      exact getElem_put_same _ _ _
    · exact (getElem_put_ne _ _ (upIdx_ne e)).trans d.overflow
  · exact .refl A s

theorem completeNotice_fwd (p : UpPort) (h : Held) (s : State) : (completeNotice p h s).2.fwd = s.fwd := by
  unfold completeNotice
  split <;> rfl

theorem setPhase_fwd (x : RestartPhase) (h : Held) (s : State) : (setPhase x h s).fwd = s.fwd := by
  unfold setPhase
  split <;> rfl

theorem startPriority_moves (p : UpPort) (h : Held) (rest : List Held) (arb : Nat) (s : State)
    (live : s.fwd.up[upIdx p].linkUp = true) (front : s.fwd.up[upIdx p].priority = h :: rest) :
    PortMoves A s (startPriority p h rest arb s) := by
  have same : portAt (.up p) (modUp p (fun u => { u with priority := rest, arbiter := arb }) s) = _ :=
    portAt_modUp_of_link p (fun u => { u with priority := rest, arbiter := arb }) s rfl
  have queue : (portAt (.up p) s).queue = h :: rest := front
  have forwarded : Forwarded s (modUp p (fun u => { u with priority := rest, arbiter := arb }) s) := rfl
  have popped : PortMoves A s (modUp p (fun u => { u with priority := rest, arbiter := arb }) s) := by
    refine forwarded.portMoves_of_steps (fun q => ?_) fun _ _ q shut idle => ?_
    · by_cases hq : q = .up p
      · subst hq
        rw [same]
        refine ⟨⟨id, fun b => ⟨?_, b.normal, b.counters⟩, fun w hw => ⟨w, hw, rfl⟩⟩, id⟩
        have long := b.queue
        rw [queue] at long
        exact Nat.le_trans (Nat.le_succ _) long
      · exact .of_eq (portAt_modUp_ne hq _)
    · rw [portAt_modUp_ne fun e => ?_]
      · exact idle
      · subst e
        exact Bool.false_ne_true (shut.symm.trans live)
  have up (u : State) (fwd : u.fwd = (modUp p (fun u => { u with priority := rest, arbiter := arb }) s).fwd) :
      u.fwd.up[upIdx p].linkUp = true := by
    rw [fwd]
    exact (congrArg PortState.linkUp same).trans live
  have completed := completeNotice_fwd p h (modUp p (fun u => { u with priority := rest, arbiter := arb }) s)
  unfold startPriority
  dsimp only
  refine (((popped.trans (completeNotice_moves p h _)).trans (setTransmitting_moves (.up p) _ _ (up _ completed))).trans
    (setPhase_moves _ _ _)).trans (placeHeld_moves p _ ?_)
  rw [setPhase_fwd]
  exact up (completeNotice p h _).2 completed

theorem startNormal_moves (p : UpPort) (h : Held) (rest : List Held) (s : State) (live : s.fwd.up[upIdx p].linkUp = true)
    (front : s.fwd.up[upIdx p].normal = h :: rest) : PortMoves A s (startNormal p h rest s) := by
  have same : portAt (.up p) (modUp p (fun u => { u with normal := rest, arbiter := 0 }) s) = _ :=
    portAt_modUp_of_link p (fun u => { u with normal := rest, arbiter := 0 }) s rfl
  have normal : (portAt (.up p) s).normal = h :: rest := front
  refine fillPlace_moves (q := .up p) rfl h ?_ ?_ (fun r hr => ?_) live
  · rw [portAt_setTransmitting_same, same]
    exact normal
  · rw [portAt_setTransmitting_same, same]
    refine ⟨id, fun b => ⟨b.queue, ?_, b.counters⟩, fun w hw => ⟨w, hw, rfl⟩⟩
    have long := b.normal
    rw [normal] at long
    exact Nat.le_trans (Nat.le_succ _) long
  · rw [portAt_setTransmitting_ne hr, portAt_modUp_ne hr]

theorem portAt_setBayQueue_same (b : Bay) (l : List Held) (s : State) :
    portAt (.bay b) { s with fwd := { s.fwd with bayQueue := put s.fwd.bayQueue b l } } =
      { portAt (.bay b) s with queue := l } := by
  have queue : (put s.fwd.bayQueue b l)[b] = l := getElem_put_same _ _ _
  unfold portAt
  dsimp only
  rw [queue]

theorem portAt_setBayQueue_ne {b : Bay} {q : Port} (hq : q ≠ .bay b) (l : List Held) (s : State) :
    portAt q { s with fwd := { s.fwd with bayQueue := put s.fwd.bayQueue b l } } = portAt q s := by
  cases q with
  | up u => rfl
  | bay c =>
    have queue : (put s.fwd.bayQueue b l)[c] = s.fwd.bayQueue[c] := getElem_put_ne _ _ fun e => hq (congrArg Port.bay e)
    unfold portAt
    dsimp only
    rw [queue]

theorem startBay_moves {b : Bay} (e : startBay b s = some t) : PortMoves A s t := by
  unfold startBay at e
  split at e
  · next on =>
    split at e
    · cases e
    · next h rest front =>
      cases e
      have queue : (portAt (.bay b) s).queue = h :: rest := front
      refine fillPlace_moves (q := .bay b) rfl h ?_ ?_ (fun r hr => ?_) on
      · rw [portAt_setTransmitting_same, portAt_setBayQueue_same]
        exact queue
      · rw [portAt_setTransmitting_same, portAt_setBayQueue_same]
        refine ⟨id, fun k => ⟨?_, k.normal, k.counters⟩, fun w hw => ⟨w, hw, rfl⟩⟩
        have long := k.queue
        rw [queue] at long
        exact Nat.le_trans (Nat.le_succ _) long
      · rw [portAt_setTransmitting_ne hr, portAt_setBayQueue_ne hr]
  · cases e

theorem startUp_moves {p : UpPort} (e : startUp p s = some t) : PortMoves A s t := by
  unfold startUp at e
  dsimp only at e
  split at e
  · next up =>
    split at e
    · cases e
    · next front _ => cases e; exact startPriority_moves p _ _ _ s up front
    · next _ front => cases e; exact startNormal_moves p _ _ s up front
    · next front front' =>
      split at e
      · cases e; exact startPriority_moves p _ _ _ s up front
      · cases e; exact startNormal_moves p _ _ s up front'
  · cases e

theorem startTransmission_moves {p : Port} (e : startTransmission p s = some t) : PortMoves A s t := by
  unfold startTransmission at e
  split at e
  · cases e
  · cases p with
    | bay b => exact startBay_moves e
    | up u => exact startUp_moves e

/-! ### The warm restart, and links (R67, R86, R178) -/

/-- Nothing stands at any port after a warm restart. -/
theorem restartNow_idle (q : Port) (s : State) : (portAt q (restartNow s)).Idle := by
  have transmitting : (restartNow s).fwd.transmitting[portIdx q] = none := getElem_tab _ _
  have waiting : (restartNow s).fwd.waiting[portIdx q] = none := getElem_tab _ _
  cases q with
  | bay b => exact ⟨getElem_tab _ b, rfl, rfl, transmitting, waiting⟩
  | up p =>
    have unit : (restartNow s).fwd.up[upIdx p] = { s.fwd.up[upIdx p] with normal := [], priority := [], arbiter := 0 } :=
      getElem_tab _ _
    exact ⟨congrArg UpUnit.priority unit, congrArg UpUnit.normal unit, congrArg UpUnit.arbiter unit, transmitting, waiting⟩

theorem restartNow_linkUp (p : UpPort) (s : State) :
    (restartNow s).fwd.up[upIdx p].linkUp = s.fwd.up[upIdx p].linkUp := by
  have unit : (restartNow s).fwd.up[upIdx p] = { s.fwd.up[upIdx p] with normal := [], priority := [], arbiter := 0 } :=
    getElem_tab _ _
  rw [unit]

/-- After a warm restart the ports are sound where no learned slot of a DOWN port is valid. -/
theorem restartNow_consistent (h : ∀ p : UpPort, s.fwd.up[upIdx p].linkUp = false → s.route.learned[portIdx (.up p)] = none) :
    PortsConsistent (restartNow s) where
  down p hp := restartNow_quiet (h p (restartNow_linkUp p s ▸ hp))
  disabled b _ := (disabledQuiet_iff b _).2 (restartNow_idle (.bay b) s)
  targets q w hw := by
    have none := (restartNow_idle q s).waiting
    rw [show (portAt q (restartNow s)).waiting = some w from hw] at none
    cases none

theorem restartNow_moves (s : State) : PortMoves A s (restartNow s) where
  bounded h := by
    refine (queuesBounded_iff _).2 ⟨fun q => ?_, fun p => ?_, fun p => ?_⟩
    · have idle := restartNow_idle q s
      refine ⟨by rw [idle.queue]; exact Nat.zero_le _, by rw [idle.normal]; exact Nat.zero_le _, fun k => ?_⟩
      have zero : ((restartNow s).fwd.counters[portIdx q])[k.idx] = 0 := by
        have row : (restartNow s).fwd.counters[portIdx q] = tab fun _ => 0 := getElem_tab _ _
        rw [row]
        exact getElem_tab _ _
      exact Nat.le_trans (Nat.le_of_eq zero) (Nat.zero_le _)
    · have none : (restartNow s).mgmt.requests[upIdx p] = [] := getElem_tab _ _
      rw [none]
      exact Nat.zero_le _
    · have none : (restartNow s).ev.notices[upIdx p] = [] := getElem_tab _ _
      rw [none]
      exact Nat.zero_le _
  blocked h := (waitersBlocked_iff _).2 fun q w hw => by
    rw [(restartNow_idle q s).waiting] at hw
    cases hw
  sound _ c := restartNow_consistent fun p down => (c.down p down).learned
  links p up := (restartNow_linkUp p s).trans up

theorem linkUp_moves (p : UpPort) (s : State) : PortMoves A s (modUp p (fun u => { u with linkUp := true }) s) := by
  have unit : (modUp p (fun u => { u with linkUp := true }) s).fwd.up[upIdx p] = { s.fwd.up[upIdx p] with linkUp := true } :=
    getElem_upd_same _ _ _
  have same : portAt (.up p) (modUp p (fun u => { u with linkUp := true }) s) =
      { portAt (.up p) s with linkUp := true, size := Config.priorityQueueSize } := by
    unfold portAt
    dsimp only
    rw [unit]
    rfl
  have forwarded : Forwarded s (modUp p (fun u => { u with linkUp := true }) s) := rfl
  refine forwarded.portMoves_of_steps (fun q => ?_) fun _ _ q _ idle => ?_
  · by_cases hq : q = .up p
    · subst hq
      rw [same]
      exact ⟨⟨fun _ => rfl, fun b => ⟨b.queue, b.normal, b.counters⟩, fun w hw => ⟨w, hw, rfl⟩⟩, id⟩
    · exact .of_eq (portAt_modUp_ne hq _)
  · by_cases hq : q = .up p
    · subst hq
      rw [same]
      exact ⟨idle.queue, idle.normal, idle.arbiter, idle.transmitting, idle.waiting⟩
    · rw [portAt_modUp_ne hq]
      exact idle

/-- Of a port that is not the closing one a link loss opens no place and starts no wait. -/
theorem portAt_linkDropped_steps {p : UpPort} {q : Port} (hq : q ≠ .up p) :
    (portAt q s).Steps q (portAt q (linkDropped p s)) := by
  rcases waitingFor_cases (.up p) q s with idle | ⟨w, slot, target, -⟩
  · exact .of_eq (portAt_linkDropped_idle hq idle)
  · rw [portAt_linkDropped_waits hq slot target]
    exact PortState.refused_steps _ _ _ (portAt_size_le q s)

/-- After a link loss no frame waits for the port. -/
theorem linkDropped_unwaited {p : UpPort} {q : Port} {w : Waiting} (h : (portAt q (linkDropped p s)).waiting = some w) :
    q ≠ .up p ∧ w.target ≠ .up p := by
  by_cases hq : q = .up p
  · subst hq
    rw [portAt_linkDropped_own.waiting] at h
    cases h
  · refine ⟨hq, fun target => ?_⟩
    rcases waitingFor_cases (.up p) q s with idle | ⟨v, slot, target', -⟩
    · rw [portAt_linkDropped_idle hq idle] at h
      rw [waitingFor_eq h target] at idle
      cases idle
    · rw [portAt_linkDropped_waits hq slot target', (PortState.refused_rest _ _ _ _).1] at h
      cases h

theorem portAt_linkClosed (p : UpPort) (q : Port) (u : State) : portAt q (linkClosed p u) = portAt q u := by
  have frame := linkClosed_frame p u
  unfold portAt
  rw [frame.fwd, frame.light]

theorem linkClosed_bounded {p : UpPort} (h : QueuesBounded s) : QueuesBounded (linkClosed p (linkDropped p s)) := by
  have frame := linkClosed_frame p (linkDropped p s)
  have forwarded := (linkDropped_forwarded p s).eq
  have mgmt : (linkDropped p s).mgmt = s.mgmt := (congrArg State.mgmt forwarded).trans rfl
  have ev : (linkDropped p s).ev = s.ev := (congrArg State.ev forwarded).trans rfl
  obtain ⟨ports, requests, notices⟩ := (queuesBounded_iff s).1 h
  refine (queuesBounded_iff _).2 ⟨fun q => ?_, fun q => ?_, fun q => ?_⟩
  · rw [portAt_linkClosed]
    by_cases hq : q = .up p
    · subst hq
      have lost : LinkLost p s (portAt (.up p) (linkDropped p s)) := portAt_linkDropped_own
      refine ⟨by rw [lost.queue]; exact Nat.zero_le _, by rw [lost.normal]; exact Nat.zero_le _, fun k => ?_⟩
      by_cases hk : k = .discarded
      · subst hk
        rw [lost.discarded]
        exact Nat.min_le_left _ _
      · rw [lost.others k hk]
        exact (ports (.up p)).counters k
    · exact (portAt_linkDropped_steps hq).bounded (ports q)
  · rw [frame.requests, mgmt, getElem_put]
    split
    · exact Nat.zero_le _
    · exact requests q
  · rw [frame.notices, ev, getElem_put]
    split
    · exact Nat.zero_le _
    · exact notices q

theorem linkClosed_blocked {p : UpPort} (h : WaitersBlocked s) : WaitersBlocked (linkClosed p (linkDropped p s)) := by
  rw [waitersBlocked_iff] at h ⊢
  intro q w hw
  rw [portAt_linkClosed] at hw ⊢
  obtain ⟨hq, target⟩ := linkDropped_unwaited hw
  obtain ⟨v, hv, same⟩ := (portAt_linkDropped_steps hq).waiting w hw
  have full := h q v hv
  rw [same] at full
  exact Bool.eq_false_iff.2 fun room => Bool.eq_false_iff.1 full ((portAt_linkDropped_steps target).room room)

theorem linkDropped_linkUp {p q : UpPort} (hq : q ≠ p) :
    (linkDropped p s).fwd.up[upIdx q].linkUp = s.fwd.up[upIdx q].linkUp := by
  have other : Port.up q ≠ .up p := fun e => hq (Port.up.inj e)
  rw [← portAt_linkUp, ← portAt_linkUp]
  rcases waitingFor_cases (.up p) (.up q) s with idle | ⟨w, slot, target, -⟩
  · rw [portAt_linkDropped_idle other idle]
  · rw [portAt_linkDropped_waits other slot target, (PortState.refused_rest _ _ _ _).2.2.2]

theorem portAt_linkDropped_shut {p : UpPort} {q : Port} (hq : q ≠ .up p) (idle : (portAt q s).Idle) :
    (portAt q (linkDropped p s)).Idle := by
  have none : waitingFor (.up p) q s = [] := by
    have slot : s.fwd.waiting[portIdx q] = none := idle.waiting
    unfold waitingFor
    rw [slot]
  rw [portAt_linkDropped_idle hq none]
  exact idle

/-- What a link loss clears in the other blocks leaves what was quiet of another port so. -/
theorem ClosedFrame.blocksQuiet {p q : UpPort} {u v : State} (frame : ClosedFrame p v u)
    (holds : ∀ b : Bay, u.bays[b].hold = none ∨ u.bays[b].hold = v.bays[b].hold) (ne : q ≠ p) (k : BlocksQuiet v q) :
    BlocksQuiet u q where
  requests := by rw [frame.requests, getElem_put_ne _ _ (upIdx_ne ne)]; exact k.requests
  held := by
    have held := k.held
    unfold Machine.holdsFor at held ⊢
    rw [frame.held]
    by_cases own : Machine.holdsFor p v = true
    · rw [if_pos own]
    · rw [if_neg own]
      exact held
  restart := by
    have restart := k.restart
    unfold restartOn at restart ⊢
    rw [frame.restart]
    exact restart
  learned := by rw [frame.learned, getElem_put_ne _ _ (portIdx_ne fun e => ne (Port.up.inj e))]; exact k.learned
  subscribed := by rw [frame.subscribed, getElem_put_ne _ _ (upIdx_ne ne)]; exact k.subscribed
  holds b hb := by
    rcases holds b with h | h
    · rw [h] at hb
      cases hb
    · exact k.holds b (h ▸ hb)
  notices := by rw [frame.notices, getElem_put_ne _ _ (upIdx_ne ne)]; exact k.notices
  overflow := by rw [frame.overflow, getElem_put_ne _ _ (upIdx_ne ne)]; exact k.overflow

theorem Forwarded.blocksQuiet {p : UpPort} (h : Forwarded s t) (k : BlocksQuiet s p) : BlocksQuiet t p := by
  have bays : t.bays = s.bays := (congrArg State.bays h.eq).trans rfl
  have mgmt : t.mgmt = s.mgmt := (congrArg State.mgmt h.eq).trans rfl
  have ev : t.ev = s.ev := (congrArg State.ev h.eq).trans rfl
  have route : t.route = s.route := (congrArg State.route h.eq).trans rfl
  exact ⟨by rw [mgmt]; exact k.requests, by unfold holdsFor; rw [mgmt]; exact k.held,
    by unfold restartOn; rw [mgmt]; exact k.restart, by rw [route]; exact k.learned, by rw [ev]; exact k.subscribed,
    by rw [bays]; exact k.holds, by rw [ev]; exact k.notices, by rw [ev]; exact k.overflow⟩

/-- A port has been closed: nothing is left of it, and the others are as sound as before. -/
theorem PortsConsistent.close {p : UpPort} {u : State} (c : PortsConsistent s) (quiet : DownQuiet u p)
    (links : ∀ q : UpPort, q ≠ p → u.fwd.up[upIdx q].linkUp = s.fwd.up[upIdx q].linkUp)
    (states : ∀ b : Bay, u.bays[b].state = s.bays[b].state)
    (idle : ∀ q : Port, q ≠ .up p → (portAt q s).Idle → (portAt q u).Idle)
    (blocks : ∀ q : UpPort, q ≠ p → BlocksQuiet s q → BlocksQuiet u q)
    (waits : ∀ (q : Port) (w : Waiting), (portAt q u).waiting = some w → w.target ≠ .up p ∧
      ∃ v, (portAt q s).waiting = some v ∧ v.target = w.target) : PortsConsistent u := by
  obtain ⟨shut, still, targets⟩ := (portsConsistent_iff s).1 c
  refine ⟨fun q down => ?_, fun b off => ?_, fun q w hw => ?_⟩
  · by_cases hq : q = p
    · exact hq ▸ quiet
    · have was : s.fwd.up[upIdx q].linkUp = false := links q hq ▸ down
      exact (downQuiet_iff q u).2
        ⟨idle (.up q) (fun e => hq (Port.up.inj e)) (shut (.up q) was), blocks q hq (still q was)⟩
  · refine (disabledQuiet_iff b u).2 (idle (.bay b) Port.noConfusion (shut (.bay b) ?_))
    unfold enabled at off
    rw [states] at off
    exact off
  · obtain ⟨other, v, hv, same⟩ := waits q w hw
    have reached := targets q v hv
    rw [same] at reached
    cases h : w.target with
    | bay b =>
      rw [h] at reached
      exact decide_eq_true ((states b).trans (of_decide_eq_true reached))
    | up r =>
      rw [h] at reached other
      exact (links r fun e => other (congrArg Port.up e)).trans reached

theorem linkClosed_consistent {p : UpPort} (c : PortsConsistent s) (restart : restartOn p s = false) :
    PortsConsistent (linkClosed p (linkDropped p s)) := by
  have frame := linkClosed_frame p (linkDropped p s)
  have forwarded := linkDropped_forwarded p s
  have bays : (linkDropped p s).bays = s.bays := (congrArg State.bays forwarded.eq).trans rfl
  have mgmt : (linkDropped p s).mgmt = s.mgmt := (congrArg State.mgmt forwarded.eq).trans rfl
  refine c.close (linkClosed_quiet portAt_linkDropped_own ?_) (fun q hq => ?_) (fun b => ?_) (fun q hq idle => ?_)
    (fun q hq k => frame.blocksQuiet (fun b => ?_) hq (forwarded.blocksQuiet k)) fun q w hw => ?_
  · unfold restartOn at restart ⊢
    rw [mgmt]
    exact restart
  · rw [frame.fwd]
    exact linkDropped_linkUp hq
  · rw [(linkClosed_records b).1, bays]
  · rw [portAt_linkClosed]
    exact portAt_linkDropped_shut hq idle
  · rw [linkClosed_holds]
    split
    · exact .inl rfl
    · exact .inr rfl
  · rw [portAt_linkClosed] at hw
    obtain ⟨hq, target⟩ := linkDropped_unwaited hw
    exact ⟨target, (portAt_linkDropped_steps hq).waiting w hw⟩

/-- A link loss leaves the other ports sound (R86). -/
theorem loseLink_consistent {p : UpPort} (c : PortsConsistent s) : PortsConsistent (loseLink p s) := by
  have frame := linkClosed_frame p (linkDropped p s)
  have route : (linkDropped p s).route = s.route := (congrArg State.route (linkDropped_forwarded p s).eq).trans rfl
  rw [loseLink_eq]
  split
  · refine restartNow_consistent fun q down => ?_
    rw [frame.learned, route]
    by_cases hq : q = p
    · subst hq
      exact getElem_put_same _ _ _
    · rw [frame.fwd, linkDropped_linkUp hq] at down
      rw [getElem_put_ne _ _ (portIdx_ne fun e => hq (Port.up.inj e))]
      exact (c.down q down).learned
  · next other => exact linkClosed_consistent c (Bool.not_eq_true _ ▸ other)

theorem loseLink_keepsPorts (p : UpPort) (s : State) : PortKeeps A s (loseLink p s) := by
  refine ⟨fun h => ?_, fun h => ?_, fun _ => loseLink_consistent⟩
  · rw [loseLink_eq]
    split
    · exact (restartNow_moves (A := A) _).bounded (linkClosed_bounded h)
    · exact linkClosed_bounded h
  · rw [loseLink_eq]
    split
    · exact (restartNow_moves (A := A) _).blocked (linkClosed_blocked h)
    · exact linkClosed_blocked h

end

end Sys2Proof.Machine

namespace Sys2Proof.Machine

/-! ### Every command keeps the ports (R67, R68, R75, R79, R88) -/

/-- What every command is given: consistent bays, and sound ports. -/
def Sound (s : State) : Prop := BaysConsistent s ∧ PortsConsistent s

theorem Sound.bays {s : State} (h : Sound s) : BaysConsistent s := h.1

section
variable {A : Prop} {s t : State}

theorem idle_moves (e : (.next s : StepResult) = .next t) : PortMoves A s t := Host.Outcome.next.inj e ▸ .refl A s

/-- The ports follow the command's own change, whatever the step ends with. -/
theorem settled_moves {u : State} (h : A → BaysConsistent s) (e : (.next (settle u) : StepResult) = .next t)
    (keeps : Keeps s u) (moves : PortMoves A s u) : PortMoves A s t :=
  Host.Outcome.next.inj e ▸ moves.trans (settle_moves u fun a => keeps (h a))

/-- A command that does nothing or settles a change of blocks outside. -/
theorem settled_frame {u : State} (h : A → BaysConsistent s) (e : (.next (settle u) : StepResult) = .next t) (still : Still s u)
    (fwd : u.fwd = s.fwd) (mgmt : u.mgmt = s.mgmt) (route : u.route = s.route) (ev : u.ev = s.ev) : PortMoves A s t :=
  settled_moves h e still.keeps (.of_frame fwd mgmt route ev still.1)

/-! ### Events -/

/-- The bays of the scan group are seated one by one; each is SEATING until its turn. -/
theorem scan_moves (l : List Bay) (nodup : l.Nodup) (s : State) (h : A → BaysConsistent s)
    (seating : ∀ b ∈ l, A → s.bays[b].state = .seating) :
    PortMoves A s (l.foldl (fun s b => attemptIfAsked (seat b s)) s) := by
  induction l generalizing s with
  | nil => exact .refl A s
  | cons b l ih =>
    obtain ⟨hb, hl⟩ := List.nodup_cons.1 nodup
    have own (a : A) : s.bays[b].state = .seating := seating b List.mem_cons_self a
    have seated (a : A) : BaysConsistent (seat b s) := seat_keeps b s (own a) (h a)
    have first : PortMoves A s (seat b s) := seat_moves b s fun a => by rw [own a]; rfl
    refine (first.trans (attemptIfAsked_moves _ seated)).trans
      (ih hl _ (fun a => attemptIfAsked_keeps _ (seated a)) fun c hc a => ?_)
    have still : (seat b s).bays[c] = s.bays[c] := seat_bays_ne b c s fun e => hb (e ▸ hc)
    have state : (seat b s).bays[c].state = .seating := by
      rw [still]
      exact seating c (List.mem_cons_of_mem b hc) a
    rw [((attemptIfAsked_atMostAdmitted c (seat b s) (seated a).queued).eq (by rw [state]; exact BayState.noConfusion)).1, state]

theorem scanGroupExpiry_moves (h : A → BaysConsistent s) (e : execScanGroupExpiry s = .next t) : PortMoves A s t := by
  unfold execScanGroupExpiry at e
  split at e
  · exact idle_moves e
  · next x _ =>
    have advanced : PortMoves A s (advance x { s with line := { s.line with groupTimer := none } }) :=
      .of_frame rfl rfl rfl rfl rfl
    have still : Keeps s (advance x { s with line := { s.line with groupTimer := none } }) := Still.keeps ⟨rfl, rfl⟩
    have seating : ∀ b ∈ groupBays (advance x { s with line := { s.line with groupTimer := none } }),
        (advance x { s with line := { s.line with groupTimer := none } }).bays[b].state = .seating := fun b hb =>
      of_decide_eq_true (Bool.and_eq_true_iff.1 (List.mem_filter.1 hb).2).2
    exact settled_moves h e (still.trans (scan_keeps _ (allBays_nodup.filter _) _ seating))
      (advanced.trans (scan_moves _ (allBays_nodup.filter _) _ (fun a => still (h a)) fun b hb _ => seating b hb))

theorem seatingExpired_moves (b : Bay) (h : A → BaysConsistent s) (e : execSeatingExpired b s = .next t) :
    PortMoves A s t := by
  unfold execSeatingExpired at e
  split at e
  · next x hx _ =>
    exact settled_moves h e ((advance_still x s).keeps.trans (seat_keeps b _ hx))
      ((advance_moves x s).trans (seat_moves b _ fun _ => by rw [advance_bays, hx]; rfl))
  · exact idle_moves e

theorem startWindowExpiry_moves (b : Bay) (h : A → BaysConsistent s) (e : execStartWindowExpiry b s = .next t) :
    PortMoves A s t := by
  unfold execStartWindowExpiry at e
  split at e
  · next x hx _ =>
    exact settled_moves h e ((advance_still x s).keeps.trans (failStart_keeps b _ hx))
      ((advance_moves x s).trans (failStart_moves b _))
  · exact idle_moves e

theorem cycleTimerExpiry_moves (b : Bay) (h : A → BaysConsistent s) (e : execCycleTimerExpiry b s = .next t) :
    PortMoves A s t := by
  have keeps : Keeps s t := cycleTimerExpiry_keeps b e
  unfold execCycleTimerExpiry at e
  split at e
  · next x hx _ =>
    have off : powered (advance x s).bays[b].state = false := by rw [advance_bays, hx]; rfl
    have stopped : PortMoves A (advance x s) (modBay b (fun r => { r with cycleTimer := none }) (advance x s)) :=
      modBay_moves b _ _ (fun _ => off) fun _ _ => .inl
    have state : (modBay b (fun r => { r with cycleTimer := none }) (advance x s)).bays[b].state =
        (advance x s).bays[b].state := by rw [modBay_bays, getElem_upd_same]
    refine settled_moves h e ?_ (((advance_moves x s).trans stopped).trans (enqueueFresh_moves b .priority _ fun _ => ?_))
    · refine (advance_still x s).keeps.trans (enqueueFresh_keeps b .priority _ _ fun k => ?_)
      have other (y : BayState) (hy : BayState.cycling ≠ y) : (advance x s).bays[b].state ≠ y := fun j => hy (hx.symm.trans j)
      exact ⟨{ k.bare off with }, k.noFault (other _ BayState.noConfusion), k.noHold (other _ BayState.noConfusion),
        k.noPrior (other _ BayState.noConfusion), rfl⟩
    · rw [state]
      exact off
  · exact idle_moves e

theorem ocConditionAsserted_moves (b : Bay) (h : A → BaysConsistent s) (e : execOcConditionAsserted b s = .next t) :
    PortMoves A s t := by
  unfold execOcConditionAsserted at e
  dsimp only at e
  split at e <;> exact settled_frame h e ⟨rfl, rfl⟩ rfl rfl rfl rfl

theorem persist_moves (b : Bay) (s : State) : PortMoves A s (persist b s) := by
  have latched := (setFilter_moves (A := A) b .persisted s).trans (latchBay_moves b .overcurrent _)
  unfold persist
  dsimp only
  split
  · exact latched.trans (.of_bays rfl rfl rfl rfl fun _ _ => .of_upd (modBay_bays b _ _) id id fun _ => .inl)
  · exact latched

theorem ocFilterExpiry_moves (b : Bay) (h : A → BaysConsistent s) (e : execOcFilterExpiry b s = .next t) :
    PortMoves A s t := by
  unfold execOcFilterExpiry at e
  split at e
  · next hp =>
    exact settled_moves h e ((advance_still _ s).keeps.trans (persist_keeps b _ hp))
      ((advance_moves _ s).trans (persist_moves b _))
  · exact idle_moves e

theorem protectionTrip_moves (b : Bay) (c : TripCause) (h : A → BaysConsistent s)
    (e : execProtectionTrip b c s = .next t) : PortMoves A s t := by
  unfold execProtectionTrip at e
  split at e
  · next hp => exact settled_moves h e (faultBay_keeps b _ s (Bool.and_eq_true_iff.1 hp).2) (faultBay_moves b _ s)
  · exact idle_moves e

theorem arrival_moves {p : Port} {bytes : List Byte} (h : A → BaysConsistent s) (e : arrival p bytes s = .next t) :
    PortMoves A s t := by
  unfold arrival at e
  split at e
  · exact Host.Outcome.next.inj e ▸ holdNext_moves p s
  · next free =>
    exact settled_moves h e (arrive_keeps p bytes s) (arrive_moves p bytes s (Bool.not_eq_true _ ▸ free))

theorem transmissionStart_moves (p : Port) (h : A → BaysConsistent s) (e : execTransmissionStart p s = .next t) :
    PortMoves A s t := by
  unfold execTransmissionStart at e
  split at e
  · exact idle_moves e
  · next started => exact settled_moves h e (startTransmission_keeps started) (startTransmission_moves started)

theorem portAt_stopTransmitting_same (p : Port) (s : State) :
    portAt p { s with fwd := { s.fwd with transmitting := put s.fwd.transmitting (portIdx p) none } } =
      { portAt p s with transmitting := none } := by
  have slot : (put s.fwd.transmitting (portIdx p) none)[portIdx p] = none := getElem_put_same _ _ _
  unfold portAt
  dsimp only
  rw [slot]

theorem portAt_stopTransmitting_ne {p q : Port} (hq : q ≠ p) (s : State) :
    portAt q { s with fwd := { s.fwd with transmitting := put s.fwd.transmitting (portIdx p) none } } = portAt q s := by
  have slot : (put s.fwd.transmitting (portIdx p) none)[portIdx q] = s.fwd.transmitting[portIdx q] :=
    getElem_put_ne _ _ (portIdx_ne hq)
  unfold portAt
  dsimp only
  rw [slot]

theorem stopTransmitting_moves (p : Port) (s : State) :
    PortMoves A s { s with fwd := { s.fwd with transmitting := put s.fwd.transmitting (portIdx p) none } } := by
  refine Forwarded.portMoves_of_steps rfl (fun q => ?_) fun _ _ q _ idle => ?_
  · by_cases hq : q = p
    · subst hq
      rw [portAt_stopTransmitting_same]
      exact PortState.sent_steps none
    · exact .of_eq (portAt_stopTransmitting_ne hq s)
  · by_cases hq : q = p
    · subst hq
      rw [portAt_stopTransmitting_same]
      exact ⟨idle.queue, idle.normal, idle.arbiter, rfl, idle.waiting⟩
    · rw [portAt_stopTransmitting_ne hq]
      exact idle

theorem transmissionComplete_moves {p : Port} (h : A → BaysConsistent s) (e : execTransmissionComplete p s = .next t) :
    PortMoves A s t := by
  unfold execTransmissionComplete at e
  split at e
  · exact idle_moves e
  · have sent : Keeps s { s with fwd := { s.fwd with transmitting := put s.fwd.transmitting (portIdx p) none } } :=
      Still.keeps ⟨rfl, rfl⟩
    dsimp only at e
    split at e
    · exact settled_moves h e (sent.trans (restartNow_keeps _)) ((stopTransmitting_moves p s).trans (restartNow_moves _))
    · exact settled_moves h e sent (stopTransmitting_moves p s)

/-- Where a frame waits the port is open. -/
theorem PortsConsistent.open_of_waiting (c : PortsConsistent s) {p : Port} {w : Waiting}
    (slot : s.fwd.waiting[portIdx p] = some w) : portOpen p s = true := by
  refine c.open_of fun idle => ?_
  have none : s.fwd.waiting[portIdx p] = none := idle.waiting
  rw [slot] at none
  cases none

theorem forwardTimeout_moves (p : Port) (h : A → Sound s) (e : execForwardTimeout p s = .next t) : PortMoves A s t := by
  unfold execForwardTimeout at e
  split at e
  · exact idle_moves e
  · next w slot =>
    refine settled_moves (fun a => (h a).bays) e (Keeps.trans (t := count p .timedOut 1 (clearSlot p (advance w.endsAt s)))
      (Still.keeps ⟨rfl, rfl⟩) (sendStatus_still _ p _ _).keeps) ?_
    refine (((advance_moves w.endsAt s).trans (clearSlot_moves p _)).trans (count_moves p .timedOut 1 _)).trans
      (sendStatus_moves _ p _ _ fun b hb a => ?_)
    subst hb
    exact (h a).2.open_of_waiting slot

theorem linkUp_step (p : UpPort) (h : A → BaysConsistent s) (e : execLinkUp p s = .next t) : PortMoves A s t := by
  unfold execLinkUp at e
  split at e
  · exact idle_moves e
  · exact settled_moves h e (Still.keeps ⟨rfl, rfl⟩) (linkUp_moves p s)

theorem linkDown_step (p : UpPort) (h : A → BaysConsistent s) (e : execLinkDown p s = .next t) : PortKeeps A s t := by
  unfold execLinkDown at e
  split at e
  · exact Host.Outcome.next.inj e ▸
      (loseLink_keepsPorts p s).trans (settle_moves _ fun a => loseLink_keeps p s (h a)).toPortKeeps
  · exact (idle_moves e).toPortKeeps

theorem staggerExpiry_moves (h : A → BaysConsistent s) (e : execStaggerExpiry s = .next t) : PortMoves A s t := by
  unfold execStaggerExpiry at e
  split at e
  · exact idle_moves e
  · exact settled_frame h e ⟨rfl, rfl⟩ rfl rfl rfl rfl

theorem overrideEnd_moves (m : FanModule) (h : A → BaysConsistent s) (e : execOverrideEnd m s = .next t) : PortMoves A s t := by
  unfold execOverrideEnd at e
  split at e
  · exact idle_moves e
  · exact settled_frame h e ⟨rfl, rfl⟩ rfl rfl rfl rfl

theorem locateEnd_moves (b : Bay) (h : A → BaysConsistent s) (e : execLocateEnd b s = .next t) : PortMoves A s t := by
  unfold execLocateEnd at e
  split at e
  · exact settled_frame h e ⟨rfl, rfl⟩ rfl rfl rfl rfl
  · exact idle_moves e

theorem activityWindowEnd_moves (b : Bay) (h : A → BaysConsistent s) (e : execActivityWindowEnd b s = .next t) :
    PortMoves A s t := by
  unfold execActivityWindowEnd at e
  split at e
  · exact settled_frame h e ⟨rfl, rfl⟩ rfl rfl rfl rfl
  · exact idle_moves e

theorem patternTurn_moves (p : PatternNo) (h : A → BaysConsistent s) (e : execPatternTurn p s = .next t) : PortMoves A s t := by
  unfold execPatternTurn at e
  split at e
  · exact settled_moves h e (advance_still _ s).keeps (advance_moves _ s)
  · exact idle_moves e

theorem tachPulse_moves (m : FanModule) (r : Rotor) (h : A → BaysConsistent s) (e : execTachPulse m r s = .next t) :
    PortMoves A s t := by
  cases r <;> exact settled_frame h e ⟨rfl, rfl⟩ rfl rfl rfl rfl

theorem latchFan_moves (x : FanState) (m : FanModule) (s : State) : PortMoves A s (latchFan x m s) :=
  .of_told (latchFan_fwd x m s) (latchFan_mgmt x m s) (latchFan_route x m s) (latchFan_told x m s) (latchFan_bays x m s)

theorem refreshZoneStates_moves (s : State) : PortMoves A s (refreshZoneStates s) :=
  .of_frame (refreshZoneStates_fwd s) (refreshZoneStates_mgmt s) (refreshZoneStates_route s) (refreshZoneStates_ev s)
    (refreshZoneStates_bays s)

theorem closeWindows_moves (s : State) : PortMoves A s (closeWindows s) := by
  have closed (new : Vector ModuleUnit 8) (l : List FanModule) : PortMoves A s
      (l.foldl (fun s (m : FanModule) => latchFan new[m].state m s) { s with cool := { s.cool with modules := new } }) :=
    PortMoves.trans (t := { s with cool := { s.cool with modules := new } }) (.of_frame rfl rfl rfl rfl rfl)
      (.foldl _ (fun u m => latchFan_moves _ m u) _ _)
  exact (closed _ _).trans (refreshZoneStates_moves _)

theorem askOnRise_moves (s t : State) : PortMoves A t (askOnRise s t) := .ite (ask_moves t) (.refl A t)

theorem updatePeriod_moves (channels : Vector (Option Int) 4) (h : A → BaysConsistent s)
    (e : execUpdatePeriod channels s = .next t) : PortMoves A s t := by
  have computed (u : State) : PortMoves A u (restartPeriod (zoneDemand (thermalInputs channels u))) :=
    .of_frame (by rw [restartPeriod_fwd, zoneDemand_fwd, thermalInputs_fwd])
      (by rw [restartPeriod_mgmt, zoneDemand_mgmt, thermalInputs_mgmt])
      (by rw [restartPeriod_route, zoneDemand_route, thermalInputs_route])
      (by rw [restartPeriod_ev, zoneDemand_ev, thermalInputs_ev])
      (by rw [restartPeriod_bays, zoneDemand_bays, thermalInputs_bays])
  exact settled_moves h e (((advance_still _ s).trans (updatePeriod_still channels _)).trans (askOnRise_still _ _)).keeps
    ((((advance_moves _ s).trans (closeWindows_moves _)).trans (computed _)).trans (askOnRise_moves _ _))

/-! ### Requests -/

/-- A port at which a request waits is UP. -/
theorem PortsConsistent.up_of_request (c : PortsConsistent s) {p : UpPort} {req : Frame}
    (h : nextRequest s = some (p, req)) : s.fwd.up[upIdx p].linkUp = true := by
  by_contra down
  have none := (c.down p (Bool.not_eq_true _ ▸ down)).requests
  unfold nextRequest at h
  split at h
  · split at h
    · cases h
    · split at h
      · cases h
      · next some =>
        cases h
        rw [none] at some
        cases some
  · cases h

theorem takeRequest_moves (p : UpPort) (s : State) : PortMoves A s (takeRequest p s) := by
  refine .of_mgmt _ (fun q hq => ?_) fun _ q _ k => ⟨?_, k.held, k.restart⟩
  · dsimp only
    rw [getElem_upd]
    split
    · next e =>
      obtain rfl : q = p := by revert e; cases q <;> cases p <;> decide
      rw [List.length_tail]
      exact Nat.le_trans (Nat.sub_le _ _) hq
    · exact hq
  · dsimp only
    rw [getElem_upd]
    split
    · next e =>
      obtain rfl : q = p := by revert e; cases q <;> cases p <;> decide
      rw [k.requests]
      rfl
    · exact k.requests

theorem offerResponse_moves (p : UpPort) (h : Held) (s : State) (live : A → s.fwd.up[upIdx p].linkUp = true) :
    PortMoves A s (offerResponse p h s) := by
  unfold offerResponse
  split
  · next room => exact pushPriority_moves p h s room fun a _ => live a
  · exact .of_mgmt _ (fun _ => id) fun a q down k =>
      ⟨k.requests, decide_eq_false fun e => down_ne down (live a) e.symm, k.restart⟩

theorem respond_moves (p : UpPort) (req : Frame) (x : State × Reply) (live : A → x.1.fwd.up[upIdx p].linkUp = true) :
    PortMoves A x.1 (respond p req x) := by
  have released := release_moves (A := A) p x.1
  unfold respond
  dsimp only
  split
  · exact released.trans (offerResponse_moves p _ _ fun a => released.links p (live a))
  · exact offerResponse_moves p _ _ live

/-- What the work of a request has to keep. -/
def BodyMoves (A : Prop) (body : UpPort → Frame → State → State × Reply) : Prop :=
  ∀ (p : UpPort) (f : Frame) (u : State), (A → BaysConsistent u) → (A → u.fwd.up[upIdx p].linkUp = true) →
    PortMoves A u (body p f u).1

theorem serveIf_moves {accepts : Frame → Bool} {body : UpPort → Frame → State → State × Reply} (h : A → Sound s)
    (keeps : ∀ p f u, Keeps u (body p f u).1) (moves : BodyMoves A body) (e : serveIf accepts body s = .next t) :
    PortMoves A s t := by
  unfold serveIf at e
  split at e
  · exact idle_moves e
  · next p req next =>
    split at e
    · have taken : Keeps s (takeRequest p s) := Still.keeps ⟨rfl, rfl⟩
      have first := takeRequest_moves (A := A) p s
      have live (a : A) : s.fwd.up[upIdx p].linkUp = true := (h a).2.up_of_request next
      have worked : PortMoves A (takeRequest p s) (body p req (takeRequest p s)).1 :=
        moves p req _ (fun a => taken (h a).bays) live
      refine settled_moves (fun a => (h a).bays) e ((taken.trans (keeps p req _)).trans (respond_still p req _).keeps)
        ((first.trans worked).trans (respond_moves p req _ fun a => worked.links p (live a)))
    · exact idle_moves e

theorem serveCode_moves {code : BitVec 16} {n : Nat} {body : UpPort → Frame → State → State × Reply} (h : A → Sound s)
    (keeps : ∀ p f u, Keeps u (body p f u).1) (moves : BodyMoves A body) (e : serveCode code n body s = .next t) :
    PortMoves A s t := by
  refine serveIf_moves h (fun p f u => ?_) (fun p f u consistent live => ?_) e
  · show Keeps u (if f.words < 1 + n then (u, badRequest) else body p f u).1
    split
    · exact .refl u
    · exact keeps p f u
  · show PortMoves A u (if f.words < 1 + n then (u, badRequest) else body p f u).1
    split
    · exact .refl A u
    · exact moves p f u consistent live

/-- The work of a request changes no bay and no block that ports turn on. -/
theorem serveCode_frame {code : BitVec 16} {n : Nat} {body : UpPort → Frame → State → State × Reply} (h : A → Sound s)
    (still : ∀ p f u, Still u (body p f u).1) (moves : ∀ p f u, PortMoves A u (body p f u).1)
    (e : serveCode code n body s = .next t) : PortMoves A s t :=
  serveCode_moves h (fun p f u => (still p f u).keeps) (fun p f u _ _ => moves p f u) e

theorem serveRead_moves {code : BitVec 16} {n : Nat} {report : UpPort → Frame → State → Reply} (h : A → Sound s)
    (e : serveRead code n report s = .next t) : PortMoves A s t :=
  serveCode_frame h (fun _ _ u => .refl u) (fun _ _ u => .refl A u) e

theorem withBay_moves (f : Frame) (s : State) (k : Bay → State × Reply) (h : ∀ b, PortMoves A s (k b).1) :
    PortMoves A s (withBay f s k).1 := by
  unfold withBay
  split
  · exact .refl A s
  · exact h _

theorem powerOnBay_moves (p : UpPort) (b : Bay) (s : State) : PortMoves A s (powerOnBay p b s).1 := by
  unfold powerOnBay
  split
  case h_1 hx =>
    split
    · exact .refl A s
    · have off : powered s.bays[b].state = false := by rw [hx]; rfl
      have freed : PortMoves A s (modBay b (fun r => { r with hold := none }) s) :=
        modBay_moves b _ s (fun _ => off) fun _ _ k => by cases k
      exact freed.trans (enqueueFresh_moves b .priority _ fun _ => by rw [modBay_bays, getElem_upd_same]; exact off)
  case h_2 hx =>
    split
    · exact joinQueue_moves b .priority s
    · exact .refl A s
  all_goals exact .refl A s

theorem arriveOff_moves (p : UpPort) (flag : Bool) (b : Bay) (s : State) (off : powered s.bays[b].state = false)
    (live : A → s.fwd.up[upIdx p].linkUp = true) : PortMoves A s (arriveOff p flag b s) := by
  refine modBay_moves b _ s (fun _ => off) fun a q hq => ?_
  dsimp only at hq
  split at hq
  · cases hq
    exact .inr (live a)
  · cases hq

theorem powerOffBay_moves (p : UpPort) (flag : Bool) (b : Bay) (s : State) (live : A → s.fwd.up[upIdx p].linkUp = true) :
    PortMoves A s (powerOffBay p flag b s).1 := by
  have unpowered : PortMoves A s (arriveOff p flag b (leavePower b s)) := by
    refine leavePower_moves b _ s fun a q hq => ?_
    dsimp only at hq
    split at hq
    · cases hq
      exact .inr (live a)
    · cases hq
  unfold powerOffBay
  split
  case h_1 hx => exact (leaveQueue_moves b s).trans (arriveOff_moves p flag b (leaveQueue b s) (by
    have same : (leaveQueue b s).bays[b].state = s.bays[b].state := rfl
    rw [same, hx]; rfl) live)
  case h_2 hx => exact unpowered
  case h_3 hx => exact unpowered
  case h_4 hx => exact arriveOff_moves p flag b s (by rw [hx]; rfl) live
  case h_5 hx =>
    split
    · split
      · exact arriveOff_moves p true b s (by rw [hx]; rfl) live
      · split <;> exact .refl A s
    · exact .refl A s
  all_goals exact .refl A s

theorem powerCycleBay_moves (units : Nat) (b : Bay) (s : State) : PortMoves A s (powerCycleBay units b s).1 := by
  have cycled (n : Nat) : PortMoves A s (startCycle n b s) := leavePower_moves b _ s fun _ _ => .inl
  unfold powerCycleBay
  split
  case h_1 => exact cycled _
  case h_2 => exact cycled _
  all_goals exact .refl A s

theorem clearFaultBay_moves (b : Bay) (s : State) : PortMoves A s (clearFaultBay b s).1 := by
  unfold clearFaultBay
  split
  case h_1 hx => exact modBay_moves b _ s (fun _ => by rw [hx]; rfl) fun _ _ k => by cases k
  all_goals exact .refl A s

theorem setBayPolicy_moves (p : UpPort) (f : Frame) (s : State) : PortMoves A s (setBayPolicy p f s).1 := by
  have written (x : PolicySettings) : PortMoves A s (modBays (inSet (arg f 0)) (writePolicy x) s) := by
    have record (b : Bay) : (modBays (inSet (arg f 0)) (writePolicy x) s).bays[b] =
      if inSet (arg f 0) b then writePolicy x s.bays[b] else s.bays[b] := getElem_tab _ b
    refine .of_bays (modBays_fwd _ _ s) (modBays_mgmt _ _ s) (modBays_route _ _ s) (modBays_ev _ _ s) fun _ _ =>
      ⟨fun b => ?_, fun b => ?_, fun b u => ?_⟩
    · unfold enabled; rw [record]; split <;> exact id
    · rw [record]; split <;> exact id
    · rw [record]; split <;> exact .inl
  unfold setBayPolicy
  dsimp only
  split
  · split
    · exact .refl A s
    · split
      · exact .ite ((written _).trans (ask_moves _)) (written _)
      · exact .refl A s
  · exact .refl A s

theorem setBayLines_moves (p : UpPort) (f : Frame) (s : State) : PortMoves A s (setBayLines p f s).1 := by
  unfold setBayLines
  dsimp only
  split
  · exact .refl A s
  · split
    · exact .refl A s
    · exact .foldl _ (fun u b => writeLines_moves _ b u) _ s

theorem lineTestExit_moves (p : UpPort) (f : Frame) (s : State) (h : A → BaysConsistent s) :
    PortMoves A s (lineTestExit p f s).1 := by
  have exits (l : List Bay) (u : State) (h : A → BaysConsistent u) : PortMoves A u (l.foldl (fun s b => exitTest b s) u) := by
    induction l generalizing u with
    | nil => exact .refl A u
    | cons b l ih => exact (exitTest_moves b u h).trans (ih _ fun a => exitTest_keeps b u (h a))
  unfold lineTestExit
  dsimp only
  split
  · exact .refl A s
  · exact exits _ s h

theorem lineSample_moves (p : UpPort) (f : Frame) (s : State) : PortMoves A s (lineSample p f s).1 := by
  unfold lineSample
  dsimp only
  exact modLines_moves _ _ s

theorem linePreload_moves (p : UpPort) (f : Frame) (s : State) : PortMoves A s (linePreload p f s).1 := by
  unfold linePreload
  dsimp only
  split
  · split
    · exact .refl A s
    · dsimp only
      exact modLines_moves _ _ s
  · exact .refl A s

theorem setCeiling_moves (p : UpPort) (f : Frame) (s : State) : PortMoves A s (setCeiling p f s).1 := by
  unfold setCeiling applyCeiling
  dsimp only
  repeat' split
  all_goals exact .of_frame rfl rfl rfl rfl rfl

theorem setStagger_moves (p : UpPort) (f : Frame) (s : State) : PortMoves A s (setStagger p f s).1 := by
  unfold setStagger
  dsimp only
  split <;> exact .of_frame rfl rfl rfl rfl rfl

theorem loadClass_moves (p : UpPort) (f : Frame) (s : State) : PortMoves A s (loadClass p f s).1 := by
  unfold loadClass
  split <;> exact .of_frame rfl rfl rfl rfl rfl

theorem setOcFilter_moves (p : UpPort) (f : Frame) (s : State) : PortMoves A s (setOcFilter p f s).1 := by
  unfold setOcFilter
  dsimp only
  split <;> exact .of_frame rfl rfl rfl rfl rfl

/-- The forward timeout and the counters are no part of what stands at a port. -/
theorem setForwardTimeout_moves (p : UpPort) (f : Frame) (s : State) : PortMoves A s (setForwardTimeout p f s).1 :=
  Elsewhere.still ⟨rfl, rfl, rfl, rfl, fun _ _ => id, rfl, fun _ => rfl, .refl _⟩ ⟨rfl, rfl⟩

theorem readCounters_moves (p : UpPort) (f : Frame) (s : State) : PortMoves A s (readCounters p f s).1 := by
  have cleared : PortMoves A s { s with fwd := { s.fwd with counters := tab fun _ => tab fun _ => 0 } } := by
    refine Elsewhere.still ⟨rfl, rfl, rfl, rfl, fun q k _ => ?_, rfl, fun _ => rfl, .refl _⟩ ⟨rfl, rfl⟩
    have zero : ((tab fun _ => tab fun _ => 0 : Vector (Vector Nat 7) 18)[portIdx q])[k.idx] = 0 := by
      rw [getElem_tab, getElem_tab]
    exact Nat.le_trans (Nat.le_of_eq zero) (Nat.zero_le _)
  unfold readCounters
  dsimp only
  split
  · exact .refl A s
  · exact .ite cleared (.refl A s)

theorem loadRoute_moves (p : UpPort) (f : Frame) (s : State) : PortMoves A s (loadRoute p f s).1 := by
  unfold loadRoute
  dsimp only
  split
  · exact .refl A s
  · split
    · exact .refl A s
    · split
      · exact .refl A s
      · exact .of_route _ fun _ _ _ => id

theorem dropRoute_moves (p : UpPort) (f : Frame) (s : State) : PortMoves A s (dropRoute p f s).1 := by
  unfold dropRoute
  split
  · exact .refl A s
  · exact .of_route _ fun _ _ _ => id

theorem loadSnoopRule_moves (p : UpPort) (f : Frame) (s : State) : PortMoves A s (loadSnoopRule p f s).1 := by
  unfold loadSnoopRule
  dsimp only
  repeat' split
  all_goals exact .of_frame rfl rfl rfl rfl rfl

theorem setThresholds_moves (p : UpPort) (f : Frame) (s : State) : PortMoves A s (setThresholds p f s).1 := by
  unfold setThresholds
  dsimp only
  split <;> exact .of_frame rfl rfl rfl rfl rfl

theorem setSensor_moves (p : UpPort) (f : Frame) (s : State) : PortMoves A s (setSensor p f s).1 := by
  unfold setSensor
  dsimp only
  repeat' split
  all_goals exact .of_frame rfl rfl rfl rfl rfl

theorem loadCurve_moves (p : UpPort) (f : Frame) (s : State) : PortMoves A s (loadCurve p f s).1 := by
  unfold loadCurve
  dsimp only
  repeat' split
  all_goals exact .of_frame rfl rfl rfl rfl rfl

theorem setZone_moves (p : UpPort) (f : Frame) (s : State) : PortMoves A s (setZone p f s).1 := by
  unfold setZone
  dsimp only
  split <;> exact .of_frame rfl rfl rfl rfl rfl

theorem setFanMap_moves (p : UpPort) (f : Frame) (s : State) : PortMoves A s (setFanMap p f s).1 := by
  have mapped (c : CoolingBlock) : PortMoves A s (refreshZoneStates { s with cool := c }) :=
    PortMoves.trans (t := { s with cool := c }) (.of_frame rfl rfl rfl rfl rfl) (refreshZoneStates_moves _)
  unfold setFanMap
  dsimp only
  split
  · exact .refl A s
  · split
    · exact .refl A s
    · exact (mapped _).trans (askOnRise_moves s _)

theorem setFanOverride_moves (p : UpPort) (f : Frame) (s : State) : PortMoves A s (setFanOverride p f s).1 := by
  unfold setFanOverride
  dsimp only
  repeat' split
  all_goals exact .of_frame rfl rfl rfl rfl rfl

theorem setLight_moves (p : UpPort) (f : Frame) (s : State) : PortMoves A s (setLight p f s).1 := by
  have lit (q : Bay → Bool) (g : LightUnit → LightUnit) : PortMoves A s (modLights q g s) :=
    .of_frame (modLights_fwd q g s) (modLights_mgmt q g s) (modLights_route q g s) (modLights_ev q g s) (modLights_bays q g s)
  unfold setLight
  dsimp only
  split
  · exact .refl A s
  · split
    · exact .refl A s
    · exact lit _ _

theorem loadPattern_moves (p : UpPort) (f : Frame) (s : State) : PortMoves A s (loadPattern p f s).1 := by
  unfold loadPattern
  dsimp only
  split <;> exact .of_frame rfl rfl rfl rfl rfl

theorem setLightMap_moves (p : UpPort) (f : Frame) (s : State) : PortMoves A s (setLightMap p f s).1 := by
  unfold setLightMap
  split <;> exact .of_frame rfl rfl rfl rfl rfl

theorem setNightDim_moves (p : UpPort) (f : Frame) (s : State) : PortMoves A s (setNightDim p f s).1 := by
  unfold setNightDim
  split <;> exact .of_frame rfl rfl rfl rfl rfl

theorem readEvents_moves (p : UpPort) (f : Frame) (s : State) : PortMoves A s (readEvents p f s).1 := by
  unfold readEvents
  dsimp only
  repeat' split
  all_goals exact .of_told rfl rfl rfl (.of_eq rfl rfl rfl) rfl

theorem subscribe_moves (p : UpPort) (f : Frame) (s : State) (live : A → s.fwd.up[upIdx p].linkUp = true) :
    PortMoves A s (subscribe p f s).1 := by
  have joins : PortMoves A s (present p s) := .of_ev _ (fun _ => id) fun a q down d =>
    ⟨(getElem_put_ne _ _ (upIdx_ne (down_ne down (live a)))).trans d.subscribed, d.notices, d.overflow⟩
  have leaves : PortMoves A s (unsubscribe p s) := by
    refine .of_ev _ (fun q hq => ?_) fun _ q _ d => ?_
    · dsimp only
      rw [getElem_put]
      split
      · exact Nat.zero_le _
      · exact hq
    · by_cases e : q = p
      · subst e
        exact ⟨getElem_put_same _ _ _, getElem_put_same _ _ _, getElem_put_same _ _ _⟩
      · have ne := upIdx_ne e
        exact ⟨(getElem_put_ne _ _ ne).trans d.subscribed, (getElem_put_ne _ _ ne).trans d.notices,
          (getElem_put_ne _ _ ne).trans d.overflow⟩
  unfold subscribe
  split
  · exact .refl A s
  · exact joins
  · exact .refl A s
  · exact leaves
  · exact .refl A s

theorem warmRestart_moves (h : A → Sound s) (e : execWarmRestart s = .next t) : PortMoves A s t := by
  have keeps : Keeps s t := warmRestart_keeps e
  unfold execWarmRestart at e
  split at e
  · exact idle_moves e
  · next p req next =>
    have live (a : A) : s.fwd.up[upIdx p].linkUp = true := (h a).2.up_of_request next
    split at e
    · have named (u : State) (x : PendingRestart) (hx : x.port = p) (hu : A → u.fwd.up[upIdx p].linkUp = true) :
          PortMoves A u { u with mgmt := { u.mgmt with restart := some x } } :=
        .of_mgmt _ (fun _ => id) fun a q down k =>
          ⟨k.requests, k.held, decide_eq_false fun same => down_ne down (hu a) (same.symm.trans hx)⟩
      have taken : Still s (takeRequest p s) := ⟨rfl, rfl⟩
      have still : Still s (requestRestart p req (takeRequest p s)) :=
        (taken.trans (t := takeRequest p s) ⟨rfl, rfl⟩).trans (offerResponse_still _ _ _)
      refine settled_moves (fun a => (h a).bays) e still.keeps ?_
      exact ((takeRequest_moves p s).trans (named _ _ rfl live)).trans (offerResponse_moves p _ _ live)
    · exact idle_moves e

end

end Sys2Proof.Machine

namespace Sys2Proof.Machine

/-! ### Power-on reset finds nothing at any port -/

theorem portAt_powerOn (q : Port) (now : Nat) (pins : PowerOnPins) (rest : List Instr) :
    (portAt q (State.powerOn now pins rest)).Idle ∧ ∀ k : CounterKind, (portAt q (State.powerOn now pins rest)).counters[k.idx] = 0 := by
  unfold portAt
  simp only [State.powerOn, ForwardBlock.reset, getElem_tab]
  cases q <;> exact ⟨⟨rfl, rfl, rfl, rfl, rfl⟩, fun k => trivial⟩

theorem powerOn_queuesBounded (now : Nat) (pins : PowerOnPins) (rest : List Instr) :
    QueuesBounded (State.powerOn now pins rest) := by
  refine (queuesBounded_iff _).2 ⟨fun q => ?_, fun p => ?_, fun p => ?_⟩
  · obtain ⟨idle, zero⟩ := portAt_powerOn q now pins rest
    exact ⟨by rw [idle.queue]; exact Nat.zero_le _, by rw [idle.normal]; exact Nat.zero_le _,
      fun k => by rw [zero k]; exact Nat.zero_le _⟩
  · simp only [State.powerOn, MgmtBlock.reset, getElem_tab]
    exact Nat.zero_le _
  · simp only [State.powerOn, EventBlock.reset, getElem_tab]
    exact Nat.zero_le _

theorem powerOn_waitersBlocked (now : Nat) (pins : PowerOnPins) (rest : List Instr) :
    WaitersBlocked (State.powerOn now pins rest) := by
  refine (waitersBlocked_iff _).2 fun q w hw => ?_
  rw [(portAt_powerOn q now pins rest).1.waiting] at hw
  cases hw

theorem powerOn_portsConsistent (now : Nat) (pins : PowerOnPins) (rest : List Instr) :
    PortsConsistent (State.powerOn now pins rest) := by
  refine (portsConsistent_iff _).2 ⟨fun q _ => (portAt_powerOn q now pins rest).1, fun p _ => ?_, fun q w hw => ?_⟩
  · refine ⟨?_, rfl, rfl, ?_, ?_, fun b => ?_, ?_, ?_⟩
    · simp only [State.powerOn, MgmtBlock.reset, getElem_tab]
    · simp only [State.powerOn, RouteBlock.reset, getElem_tab]
    · simp only [State.powerOn, EventBlock.reset, getElem_tab]
    · rw [powerOn_bays]
      exact (Option.some_ne_none p).symm
    · simp only [State.powerOn, EventBlock.reset, getElem_tab]
    · simp only [State.powerOn, EventBlock.reset, getElem_tab]
  · rw [(portAt_powerOn q now pins rest).1.waiting] at hw
    cases hw

/-! ### Requests that change nothing, or only settings -/

theorem unknownRequest_moves {A : Prop} {s t : State} (h : A → Sound s) (e : execUnknownRequest s = .next t) : PortMoves A s t :=
  serveIf_moves h (fun _ _ u => .refl u) (fun _ _ u _ _ => .refl A u) e

theorem readIdent_moves {A : Prop} {s t : State} (h : A → Sound s) (e : execReadIdent s = .next t) : PortMoves A s t :=
  serveRead_moves h e

theorem readBay_moves {A : Prop} {s t : State} (h : A → Sound s) (e : execReadBay s = .next t) : PortMoves A s t :=
  serveRead_moves h e

theorem readBays_moves {A : Prop} {s t : State} (h : A → Sound s) (e : execReadBays s = .next t) : PortMoves A s t :=
  serveRead_moves h e

theorem readPower_moves {A : Prop} {s t : State} (h : A → Sound s) (e : execReadPower s = .next t) : PortMoves A s t :=
  serveRead_moves h e

theorem readRoutes_moves {A : Prop} {s t : State} (h : A → Sound s) (e : execReadRoutes s = .next t) : PortMoves A s t :=
  serveRead_moves h e

theorem readThermal_moves {A : Prop} {s t : State} (h : A → Sound s) (e : execReadThermal s = .next t) : PortMoves A s t :=
  serveRead_moves h e

theorem readCooling_moves {A : Prop} {s t : State} (h : A → Sound s) (e : execReadCooling s = .next t) : PortMoves A s t :=
  serveRead_moves h e

theorem setSeating_moves {A : Prop} (p : UpPort) (f : Frame) (s : State) : PortMoves A s (setSeating p f s).1 :=
  .of_frame rfl rfl rfl rfl rfl

theorem setFanTiming_moves {A : Prop} (p : UpPort) (f : Frame) (s : State) : PortMoves A s (setFanTiming p f s).1 :=
  .of_frame rfl rfl rfl rfl rfl

/-! ### Every command -/

theorem exec_portKeeps {A : Prop} {c : Instr} {s t : State} (h : A → Sound s) (e : exec c s = .next t) : PortKeeps A s t := by
  have bays (a : A) : BaysConsistent s := (h a).bays
  cases c with
  | powerOnReset pins =>
    obtain rfl := (Host.Outcome.next.inj e).symm
    exact ⟨fun _ => powerOn_queuesBounded _ _ _, fun _ => powerOn_waitersBlocked _ _ _, fun _ _ => powerOn_portsConsistent _ _ _⟩
  | linkDown p => exact linkDown_step p bays e
  | presenceAsserted b => exact (settled_moves bays e (setConnector_keeps b _ s) (setConnector_moves b _ s)).toPortKeeps
  | presenceLost b => exact (settled_moves bays e (setConnector_keeps b _ s) (setConnector_moves b _ s)).toPortKeeps
  | seatingExpired b => exact (seatingExpired_moves b bays e).toPortKeeps
  | scanGroupExpiry => exact (scanGroupExpiry_moves bays e).toPortKeeps
  | startWindowExpiry b => exact (startWindowExpiry_moves b bays e).toPortKeeps
  | cycleTimerExpiry b => exact (cycleTimerExpiry_moves b bays e).toPortKeeps
  | staggerExpiry => exact (staggerExpiry_moves bays e).toPortKeeps
  | ocConditionAsserted b => exact (ocConditionAsserted_moves b bays e).toPortKeeps
  | ocConditionLapsed b => exact (settled_frame bays e ⟨rfl, rfl⟩ rfl rfl rfl rfl).toPortKeeps
  | ocFilterExpiry b => exact (ocFilterExpiry_moves b bays e).toPortKeeps
  | protectionTrip b cause => exact (protectionTrip_moves b cause bays e).toPortKeeps
  | frameArrival p bytes => exact (arrival_moves bays e).toPortKeeps
  | driveHello b bytes => exact (arrival_moves bays e).toPortKeeps
  | controllerHello p bytes => exact (arrival_moves bays e).toPortKeeps
  | managementIntake p bytes => exact (arrival_moves bays e).toPortKeeps
  | transmissionStart p => exact (transmissionStart_moves p bays e).toPortKeeps
  | transmissionComplete p => exact (transmissionComplete_moves bays e).toPortKeeps
  | forwardTimeout p => exact (forwardTimeout_moves p h e).toPortKeeps
  | linkUp p => exact (linkUp_step p bays e).toPortKeeps
  | updatePeriod channels => exact (updatePeriod_moves channels bays e).toPortKeeps
  | tachPulse m r => exact (tachPulse_moves m r bays e).toPortKeeps
  | overrideEnd m => exact (overrideEnd_moves m bays e).toPortKeeps
  | locateEnd b => exact (locateEnd_moves b bays e).toPortKeeps
  | activityWindowEnd b => exact (activityWindowEnd_moves b bays e).toPortKeeps
  | patternTurn p => exact (patternTurn_moves p bays e).toPortKeeps
  | unknownRequest => exact (unknownRequest_moves h e).toPortKeeps
  | readIdent => exact (readIdent_moves h e).toPortKeeps
  | readBay => exact (readBay_moves h e).toPortKeeps
  | readBays => exact (readBays_moves h e).toPortKeeps
  | powerOn =>
    exact (serveCode_moves h (fun p f u => withBay_keeps f u _ fun b => powerOnBay_keeps p b u)
      (fun p f u _ _ => withBay_moves f u _ fun b => powerOnBay_moves p b u) e).toPortKeeps
  | powerOff =>
    exact (serveCode_moves h (fun p f u => withBay_keeps f u _ fun b => powerOffBay_keeps p _ b u)
      (fun p f u _ live => withBay_moves f u _ fun b => powerOffBay_moves p _ b u live) e).toPortKeeps
  | powerCycle =>
    exact (serveCode_moves h (fun _ f u => withBay_keeps f u _ fun b => powerCycleBay_keeps _ b u)
      (fun _ f u _ _ => withBay_moves f u _ fun b => powerCycleBay_moves _ b u) e).toPortKeeps
  | clearFault =>
    exact (serveCode_moves h (fun _ f u => withBay_keeps f u _ fun b => clearFaultBay_keeps b u)
      (fun _ f u _ _ => withBay_moves f u _ fun b => clearFaultBay_moves b u) e).toPortKeeps
  | setBayPolicy => exact (serveCode_moves h setBayPolicy_keeps (fun p f u _ _ => setBayPolicy_moves p f u) e).toPortKeeps
  | setBayLines => exact (serveCode_moves h setBayLines_keeps (fun p f u _ _ => setBayLines_moves p f u) e).toPortKeeps
  | setSeating => exact (serveCode_frame h setSeating_still setSeating_moves e).toPortKeeps
  | lineTestEnter => exact (serveCode_moves h lineTestEnter_keeps (fun p f u _ _ => lineTestEnter_moves p f u) e).toPortKeeps
  | lineSample => exact (serveCode_frame h lineSample_still lineSample_moves e).toPortKeeps
  | linePreload => exact (serveCode_frame h linePreload_still linePreload_moves e).toPortKeeps
  | lineTestExit =>
    exact (serveCode_moves h lineTestExit_keeps (fun p f u c _ => lineTestExit_moves p f u c) e).toPortKeeps
  | setCeiling => exact (serveCode_frame h setCeiling_still setCeiling_moves e).toPortKeeps
  | setStagger => exact (serveCode_frame h setStagger_still setStagger_moves e).toPortKeeps
  | loadClass => exact (serveCode_frame h loadClass_still loadClass_moves e).toPortKeeps
  | setOcFilter => exact (serveCode_frame h setOcFilter_still setOcFilter_moves e).toPortKeeps
  | readPower => exact (readPower_moves h e).toPortKeeps
  | setForwardTimeout => exact (serveCode_frame h setForwardTimeout_still setForwardTimeout_moves e).toPortKeeps
  | readCounters => exact (serveCode_frame h readCounters_still readCounters_moves e).toPortKeeps
  | loadRoute => exact (serveCode_frame h loadRoute_still loadRoute_moves e).toPortKeeps
  | dropRoute => exact (serveCode_frame h dropRoute_still dropRoute_moves e).toPortKeeps
  | readRoutes => exact (readRoutes_moves h e).toPortKeeps
  | loadSnoopRule => exact (serveCode_frame h loadSnoopRule_still loadSnoopRule_moves e).toPortKeeps
  | setThresholds => exact (serveCode_frame h setThresholds_still setThresholds_moves e).toPortKeeps
  | setSensor => exact (serveCode_frame h setSensor_still setSensor_moves e).toPortKeeps
  | readThermal => exact (readThermal_moves h e).toPortKeeps
  | loadCurve => exact (serveCode_frame h loadCurve_still loadCurve_moves e).toPortKeeps
  | setZone => exact (serveCode_frame h setZone_still setZone_moves e).toPortKeeps
  | setFanMap => exact (serveCode_frame h setFanMap_still setFanMap_moves e).toPortKeeps
  | setFanOverride => exact (serveCode_frame h setFanOverride_still setFanOverride_moves e).toPortKeeps
  | setFanTiming => exact (serveCode_frame h setFanTiming_still setFanTiming_moves e).toPortKeeps
  | readCooling => exact (readCooling_moves h e).toPortKeeps
  | setLight => exact (serveCode_frame h setLight_still setLight_moves e).toPortKeeps
  | loadPattern => exact (serveCode_frame h loadPattern_still loadPattern_moves e).toPortKeeps
  | setLightMap => exact (serveCode_frame h setLightMap_still setLightMap_moves e).toPortKeeps
  | setNightDim => exact (serveCode_frame h setNightDim_still setNightDim_moves e).toPortKeeps
  | readEvents => exact (serveCode_frame h readEvents_still readEvents_moves e).toPortKeeps
  | subscribe =>
    exact (serveCode_moves h (fun p f u => (subscribe_still p f u).keeps)
      (fun p f u _ live => subscribe_moves p f u live) e).toPortKeeps
  | warmRestart => exact (warmRestart_moves h e).toPortKeeps

/-- A passing millisecond moves nothing at a port, and a command keeps what the shared operations keep. -/
theorem step_portKeeps {A : Prop} {s t : State} (h : A → Sound s) (e : step s = .next t) : PortKeeps A s t := by
  rcases step_cases e with rfl | ⟨c, rest, e⟩
  · exact (PortMoves.of_frame (s := s) (t := tick s) rfl rfl rfl rfl rfl).toPortKeeps
  · have moved : PortMoves A s { s with pending := rest } := .of_frame rfl rfl rfl rfl rfl
    exact moved.toPortKeeps.trans (exec_portKeeps (s := { s with pending := rest })
      (fun a => ⟨Still.keeps (s := s) ⟨rfl, rfl⟩ (h a).1, moved.sound a (h a).2⟩) e)

/-- Settles O9: a port that shuts is emptied by the same operation, nothing joins a shut port, and whatever shuts a
port ends the waits for it. -/
theorem closedPortsHoldNothing : Obligations.ClosedPortsHoldNothing := fun _ _ bays ports e =>
  (step_portKeeps (A := True) (fun _ => ⟨bays, ports⟩) e).sound trivial ports

/-- Settles O10: whatever joins a queue asks for its room first, counters stop at their limit, and a place that opens
is filled by the frame that waits for it; none of this turns on any assumption about the state. -/
theorem queuesKeepTheirSizesAndWaiters : Obligations.QueuesKeepTheirSizesAndWaiters :=
  ⟨fun _ _ h e => (step_portKeeps (A := False) False.elim e).bounded h,
   fun _ _ h e => (step_portKeeps (A := False) False.elim e).blocked h⟩

end Sys2Proof.Machine

namespace Sys2Proof.Machine

/-! ### Requests of the forwarding engine and the static routes (R81, R100, R101, R174) -/

/-- The state with another forwarding engine. -/
def withFwd (w : ForwardBlock) (s : State) : State := { s with fwd := w }

theorem withFwd_unseen {p : UpPort} {s : State} (w : ForwardBlock) (h : w.up = s.fwd.up) :
    Unseen s (withFwd w (takeRequest p s)) := ⟨rfl, rfl, rfl, rfl, rfl, rfl, rfl, h, rfl, rfl, fun _ => rfl, fun _ => rfl⟩

theorem setForwardTimeout_eq (p : UpPort) (req : Frame) (s : State) : setForwardTimeout p req s =
    (withFwd { s.fwd with timeout := min 255 (max 1 (arg req 0).toNat) } s,
      ⟨if min 255 (max 1 (arg req 0).toNat) = (arg req 0).toNat then .ok else .okClamped, []⟩) := by
  unfold setForwardTimeout
  dsimp only
  rw [clamp_eq 1 255 _ (by decide), okOr_eq _ (min 255 (max 1 (arg req 0).toNat) = (arg req 0).toNat) decide_eq_true_iff]
  rfl

theorem readCounters_eq {req : Frame} {clear : Bool} (p : UpPort) (s : State) (h : twoValued (arg req 0) = some clear) :
    readCounters p req s =
      (withFwd { s.fwd with counters := if clear then tab (fun _ => tab fun _ => 0) else s.fwd.counters } s,
        ⟨.ok, counterWords s⟩) := by
  unfold readCounters
  rw [h]
  cases clear <;> rfl

/-- The state with other static slots. -/
def withStatics (r : Vector (Option Static) 30) (s : State) : State := { s with route := { s.route with statics := r } }

theorem withStatics_atRest {p : UpPort} {s : State} (r : Vector (Option Static) 30) (h : AtRest s) :
    AtRest (withStatics r (takeRequest p s)) := by
  have unseen : Unseen s (takeRequest p s) := ⟨rfl, rfl, rfl, rfl, rfl, rfl, rfl, rfl, rfl, rfl, fun _ => rfl, fun _ => rfl⟩
  have rest : AtRest (takeRequest p s) := unseen.atRest h h.asked
  have reported : Reported (withStatics r (takeRequest p s)) := rest.reported.of_zones rfl rfl rfl (fun _ => rfl) fun _ => rfl
  have alert := (driveAlert_eq_self_iff (takeRequest p s)).1 rest.alert
  have pins := (drivePins_eq_self_iff (takeRequest p s)).1 rest.pins
  exact ⟨reported.hot, reported.blocks, h.asked, rest.notices,
    (driveAlert_eq_self_iff (withStatics r (takeRequest p s))).2 alert,
    (drivePins_eq_self_iff (withStatics r (takeRequest p s))).2 pins⟩

/-- The argument names a port by its number. -/
theorem portArg_eq {w : Word} {q : Port} (h : w.toNat = (portIdx q).val) : portArg w = some q := by
  unfold portArg
  cases q with
  | bay b =>
    have number : w.toNat = b.val := h
    rw [dif_pos (number ▸ b.isLt)]
    exact congrArg (fun c => some (Port.bay c)) (Fin.ext number)
  | up u =>
    cases u with
    | u0 =>
      have number : w.toNat = 16 := h
      rw [dif_neg (by omega), if_pos number]
    | u1 =>
      have number : w.toNat = 17 := h
      rw [dif_neg (by omega), if_neg (by omega), if_pos number]

theorem portArg_none {w : Word} (h : 18 ≤ w.toNat) : portArg w = none := by
  unfold portArg
  rw [dif_neg (by omega), if_neg (by omega), if_neg (by omega)]

theorem staticHolding_isSome_iff {a : Addr} {s : State} :
    (staticHolding a s).isSome = true ↔ ∃ i : Fin 30, staticAddr s i = some a := by
  constructor
  · intro h
    obtain ⟨⟨i, q⟩, found⟩ := Option.isSome_iff_exists.1 h
    exact ⟨i, by unfold staticAddr; rw [staticHolding_some found]; rfl⟩
  · rintro ⟨i, hi⟩
    by_contra h
    have none : staticHolding a s = none := Option.not_isSome_iff_eq_none.1 h
    have missed := List.findSome?_eq_none_iff.1 none i (List.mem_finRange i)
    unfold staticAddr at hi
    cases hs : s.route.statics[i] with
    | none => rw [hs] at hi; cases hi
    | some x =>
      rw [hs] at hi missed
      dsimp only at missed
      rw [if_pos (Option.some_inj.1 hi)] at missed
      cases missed

theorem lookup_isSome_iff {a : Addr} {s : State} : (lookup a s).isSome = true ↔
    (∃ x : Port, learnedAddr s x = some a) ∨ ∃ i : Fin 30, staticAddr s i = some a := by
  rw [← staticHolding_isSome_iff]
  unfold lookup
  split
  · next p found =>
    have held := List.find?_some found
    exact iff_of_true rfl (.inl ⟨p, of_decide_eq_true held⟩)
  · next missed =>
    have none (x : Port) : learnedAddr s x ≠ some a := fun held =>
      List.find?_eq_none.1 missed x (mem_portsInOrder x) (decide_eq_true held)
    rw [Option.isSome_map]
    exact (or_iff_right fun ⟨x, held⟩ => none x held).symm

theorem addressUsed_iff {a : Addr} {s : State} : addressUsed a s = true ↔
    a = switchAddr s ∨ (∃ x : Port, learnedAddr s x = some a) ∨ ∃ i : Fin 30, staticAddr s i = some a := by
  unfold addressUsed
  rw [Bool.or_eq_true, decide_eq_true_iff, lookup_isSome_iff]

theorem freeStatic_none {s : State} (h : ∀ i : Fin 30, (s.route.statics[i]).isSome = true) : freeStatic s = none := by
  refine List.find?_eq_none.2 fun i _ => ?_
  rw [Option.isNone_eq_false_iff.2 (h i)]
  exact Bool.false_ne_true

theorem freeStatic_lowest {s : State} {i : Fin 30} (free : s.route.statics[i] = none)
    (lower : ∀ j : Fin 30, j < i → (s.route.statics[j]).isSome = true) : freeStatic s = some i := by
  cases found : freeStatic s with
  | none =>
    have missed := List.find?_eq_none.1 found i (List.mem_finRange i)
    rw [free] at missed
    exact absurd rfl missed
  | some j =>
    obtain ⟨here, before, after, split, earlier⟩ := List.find?_eq_some_iff_append.1 found
    have sorted : (before ++ j :: after).Pairwise (· < ·) := split ▸ List.pairwise_lt_finRange 30
    have notBelow : ¬j < i := fun below => by
      rw [Option.isNone_eq_false_iff.2 (lower j below)] at here
      cases here
    have notAbove : ¬i < j := fun above => by
      have mem : i ∈ before ++ j :: after := split ▸ List.mem_finRange i
      rcases List.mem_append.1 mem with mem | mem
      · have full := earlier i mem
        rw [free] at full
        cases full
      · rcases List.mem_cons.1 mem with rfl | mem
        · exact absurd above (lt_irrefl _)
        · exact absurd above (lt_asymm ((List.pairwise_cons.1 (List.pairwise_append.1 sorted).2.1).1 i mem))
    exact congrArg some (le_antisymm (not_lt.1 notAbove) (not_lt.1 notBelow))

section
variable {p : UpPort} {req : Frame} {s : State}

/-- A request that rewrites the static slots leaves the part at rest. -/
theorem statics_answered {code : BitVec 16} {n : Nat} {r : Result} {data : List Word}
    {body : UpPort → Frame → State → State × Reply} {x : Vector (Option Static) 30} (h : AtRest s)
    (serves : Serves code n p req s) (effect : body p req (takeRequest p s) = (withStatics x (takeRequest p s), ⟨r, data⟩)) :
    serveCode code n body s = .next (answered p req r data (withStatics x (takeRequest p s))) := by
  have free : s.mgmt.held = none := nextRequest_free serves.next
  exact served_atRest (withStatics_atRest x h) free serves effect

/-- A request that rewrites settings and counters of the forwarding engine leaves the part at rest. -/
theorem fwd_answered {code : BitVec 16} {n : Nat} {r : Result} {data : List Word}
    {body : UpPort → Frame → State → State × Reply} {w : ForwardBlock} (h : AtRest s) (up : w.up = s.fwd.up)
    (serves : Serves code n p req s) (effect : body p req (takeRequest p s) = (withFwd w (takeRequest p s), ⟨r, data⟩)) :
    serveCode code n body s = .next (answered p req r data (withFwd w (takeRequest p s))) := by
  have unseen : Unseen s (withFwd w (takeRequest p s)) := withFwd_unseen w up
  exact served_atRest (unseen.atRest h h.asked) (unseen.held.trans (nextRequest_free serves.next)) serves effect

/-- LOAD_ROUTE, its checks in order. -/
theorem loadRoute_eq {q : Port} (s : State) (hq : (arg req 1).toNat = (portIdx q).val) : loadRoute p req s =
    if addressUsed (addrArg (arg req 0)) s then (s, ⟨.duplicate, []⟩)
    else match freeStatic s with
      | none => (s, ⟨.tableFull, []⟩)
      | some i => (withStatics (put s.route.statics i (some ⟨addrArg (arg req 0), q⟩)) s, ⟨.ok, [wNat (18 + i.val)]⟩) := by
  unfold loadRoute
  rw [portArg_eq hq]
  rfl

theorem loadRoute_duplicate {q : Port} (s : State) (hq : (arg req 1).toNat = (portIdx q).val)
    (used : addressUsed (addrArg (arg req 0)) s = true) : loadRoute p req s = (s, ⟨.duplicate, []⟩) := by
  rw [loadRoute_eq s hq, if_pos used]

theorem loadRoute_full {q : Port} (s : State) (hq : (arg req 1).toNat = (portIdx q).val)
    (unused : ¬addressUsed (addrArg (arg req 0)) s = true) (full : freeStatic s = none) :
    loadRoute p req s = (s, ⟨.tableFull, []⟩) := by
  rw [loadRoute_eq s hq, if_neg unused, full]

theorem loadRoute_writes {q : Port} {i : Fin 30} (s : State) (hq : (arg req 1).toNat = (portIdx q).val)
    (unused : ¬addressUsed (addrArg (arg req 0)) s = true) (free : freeStatic s = some i) : loadRoute p req s =
      (withStatics (put s.route.statics i (some ⟨addrArg (arg req 0), q⟩)) s, ⟨.ok, [wNat (18 + i.val)]⟩) := by
  rw [loadRoute_eq s hq, if_neg unused, free]

theorem loadRoute_outOfRange (s : State) (out : 18 ≤ (arg req 1).toNat) : loadRoute p req s = (s, outOfRange) := by
  unfold loadRoute
  rw [portArg_none out]

theorem dropRoute_frees {i : Fin 30} (hd : RoutesDistinct s) (h : staticAddr s i = some (addrArg (arg req 0))) :
    dropRoute p req s = (withStatics (put s.route.statics i none) s, ⟨.ok, [wNat (18 + i.val)]⟩) := by
  unfold staticAddr at h
  obtain ⟨⟨a, q⟩, slot, rfl⟩ := Option.map_eq_some_iff.1 h
  unfold dropRoute
  rw [staticHolding_eq hd slot]
  rfl

theorem dropRoute_notFound (h : ∀ i : Fin 30, staticAddr s i ≠ some (addrArg (arg req 0))) :
    dropRoute p req s = (s, ⟨.notFound, []⟩) := by
  unfold dropRoute
  rw [staticHolding_none h]

end

/-- Settles O53: the requests rewrite settings, counters and static slots, on which nothing of a step's end turns, so the
reply is all that follows. -/
theorem countersAndStaticRoutesAreKept : Obligations.CountersAndStaticRoutesAreKept := by
  refine ⟨fun p req s h => ⟨fun serves => ?_, fun clear serves value => ?_⟩,
    fun p req s h hd => ⟨fun serves q hq => ⟨fun used => ?_, fun unused full => ?_, fun i unused free lower => ?_⟩,
      fun serves out => ?_, fun serves => ⟨fun i held => ?_, fun missed => ?_⟩⟩⟩
  · exact fwd_answered h rfl serves (setForwardTimeout_eq p req (takeRequest p s))
  · exact fwd_answered h rfl serves (readCounters_eq p (takeRequest p s) value)
  · exact unchanged_served h serves (loadRoute_duplicate (takeRequest p s) hq (addressUsed_iff.2 used))
  · exact unchanged_served h serves
      (loadRoute_full (takeRequest p s) hq (fun k => unused (addressUsed_iff.1 k)) (freeStatic_none full))
  · exact statics_answered h serves
      (loadRoute_writes (takeRequest p s) hq (fun k => unused (addressUsed_iff.1 k)) (freeStatic_lowest free lower))
  · exact unchanged_served h serves (loadRoute_outOfRange (takeRequest p s) out)
  · have distinct : RoutesDistinct (takeRequest p s) := ⟨hd.learned, hd.statics, hd.apart, hd.notSwitch, hd.staticNotSwitch⟩
    exact statics_answered h serves (dropRoute_frees distinct held)
  · exact unchanged_served h serves (dropRoute_notFound missed)

end Sys2Proof.Machine

namespace Sys2Proof.Machine

/-! ### Past a flush only statuses, responses and notices join priority queues (R84) -/

/-- Between `s` and `t` frames have joined priority queues, and nothing else of the forwarding engine has changed. -/
structure Extends (s t : State) : Prop where
  fwd : t.fwd = { s.fwd with up := t.fwd.up }
  up : ∀ u : UpPort, ∃ rest : List Held,
    t.fwd.up[upIdx u] = { s.fwd.up[upIdx u] with priority := s.fwd.up[upIdx u].priority ++ rest }

theorem NoticesMoved.extends {s t : State} (h : NoticesMoved s t) : Extends s t := ⟨h.fwd, h.up⟩

theorem Extends.of_eq {s t : State} (h : t.fwd = s.fwd) : Extends s t :=
  ⟨by rw [h], fun u => ⟨[], by rw [h, List.append_nil]⟩⟩

theorem Extends.trans {s t u : State} (h : Extends s t) (k : Extends t u) : Extends s u where
  fwd := by rw [k.fwd, h.fwd]
  up p := by
    obtain ⟨l, hl⟩ := h.up p
    obtain ⟨m, hm⟩ := k.up p
    exact ⟨l ++ m, by rw [hm, hl, List.append_assoc]⟩

theorem settle_extends (s : State) : Extends s (settle s) := by
  have forwarding : (attemptIfAsked (refreshBlocks (refreshHot s))).fwd = s.fwd := by simp
  rw [settle_eq]
  exact (Extends.of_eq forwarding).trans (finish_moved _).extends

theorem pushPriority_extends (p : UpPort) (h : Held) (s : State) : Extends s (pushPriority p h s) := by
  refine ⟨rfl, fun u => ?_⟩
  rw [pushPriority_up]
  by_cases same : u = p
  · subst same
    exact ⟨[h], by rw [getElem_upd_same]⟩
  · exact ⟨[], by rw [getElem_upd_ne _ _ (upIdx_ne same), List.append_nil]⟩

theorem offerResponse_extends (p : UpPort) (h : Held) (s : State) : Extends s (offerResponse p h s) := by
  unfold offerResponse
  split
  · exact pushPriority_extends p h s
  · exact .of_eq rfl

theorem respond_extends (p : UpPort) (req : Frame) (x : State × Reply) : Extends x.1 (respond p req x) := by
  unfold respond
  dsimp only
  split
  · exact (release_moved p x.1).extends.trans (offerResponse_extends p _ _)
  · exact offerResponse_extends p _ _

section
variable {c : StatusCode} {n : Nat} {b : Bay} {s t u : State}

theorem Closed.extends (h : Closed c n (.bay b) s t) (e : Extends t u) : Closed c n (.bay b) s u := by
  obtain ⟨fwd, up⟩ := e
  have bayQueue : u.fwd.bayQueue = t.fwd.bayQueue := by rw [fwd]
  have waiting : u.fwd.waiting = t.fwd.waiting := by rw [fwd]
  have transmitting : u.fwd.transmitting = t.fwd.transmitting := by rw [fwd]
  have counters : u.fwd.counters = t.fwd.counters := by rw [fwd]
  constructor
  case answers =>
    intro p hp
    obtain ⟨rest, joined, none⟩ := h.answers p hp
    cases p with
    | bay d =>
      have same : statusQueue (.bay d) u = statusQueue (.bay d) t := congrArg (fun q => q[d]) bayQueue
      exact ⟨rest, same.trans joined, none⟩
    | up v =>
      obtain ⟨more, grown⟩ := up v
      have longer : statusQueue (.up v) u = statusQueue (.up v) t ++ more := congrArg UpUnit.priority grown
      exact ⟨rest ++ more, by rw [longer, joined, List.append_assoc], fun ⟨_, e⟩ => by cases e⟩
  case slots => intro p hp; rw [waiting]; exact h.slots p hp
  case counters => intro p k hp; rw [counters]; exact h.counters p k hp
  case discarded => rw [counters]; exact h.discarded
  case ownCounters => intro k hk; rw [counters]; exact h.ownCounters k hk
  case transmissions => intro p hp; rw [transmitting]; exact h.transmissions p hp
  case normal =>
    intro v hv
    obtain ⟨more, grown⟩ := up v
    rw [grown]
    exact h.normal v hv

/-- What closing says of the state before turns on the forwarding engine and the switch address alone. -/
theorem Closed.of_start (h : Closed c n (.bay b) u t) (fwd : u.fwd = s.fwd) (strap : u.addrStrap = s.addrStrap) :
    Closed c n (.bay b) s t := by
  have waits (p : Port) : waitingFor (.bay b) p u = waitingFor (.bay b) p s := waitingFor_congr (by rw [fwd])
  have queue (p : Port) : statusQueue p u = statusQueue p s := by
    cases p <;> (unfold statusQueue; dsimp only; rw [fwd])
  have places (p : Port) : statusPlaces p u = statusPlaces p s := by
    cases p <;> (unfold statusPlaces; dsimp only; rw [fwd])
  have answers (p : Port) : answeredAt (.bay b) p u = answeredAt (.bay b) p s := by
    unfold answeredAt
    rw [waits, fwd]
  have counts (p : Port) (k : CounterKind) : closingCounts (.bay b) p u k = closingCounts (.bay b) p s k := by
    unfold closingCounts
    rw [waits, answers, places]
  have held : heldAt (.bay b) u = heldAt (.bay b) s := by unfold heldAt; rw [fwd]
  constructor
  case answers =>
    intro p hp
    have joined := h.answers p hp
    rw [queue, answers, places, switchAddr_congr strap] at joined
    exact joined
  case slots => intro p hp; rw [← waits, ← fwd]; exact h.slots p hp
  case counters => intro p k hp; rw [← counts, ← fwd]; exact h.counters p k hp
  case discarded => rw [← held, ← fwd]; exact h.discarded
  case ownCounters => intro k hk; rw [← fwd]; exact h.ownCounters k hk
  case transmissions => intro p hp; rw [← fwd]; exact h.transmissions p hp
  case normal => intro v hv; rw [← fwd]; exact h.normal v hv

end

/-! ### Ports through work on a bay (R22, R84) -/

/-- The port of `b` has been flushed, and nothing else has been done to the forwarding engine. -/
def Severed (b : Bay) (s t : State) : Prop :=
  ∃ u : State, u.fwd = s.fwd ∧ u.addrStrap = s.addrStrap ∧ t.fwd = (flush b u).fwd

/-- The forwarding engine stays, and bay `b` does not lose power. -/
def Steady (b : Bay) (s t : State) : Prop := t.fwd = s.fwd ∧ (enabled b s = true → enabled b t = true)

/-- Work on one bay that leaves it power and the forwarding engine alone, or takes its power and flushes its port. -/
def Cuts (b : Bay) (s t : State) : Prop :=
  Steady b s t ∨ (enabled b s = true ∧ powered t.bays[b].state = false ∧ t.bays[b].state ≠ .queued ∧ Severed b s t)

section
variable {b : Bay} {s t u : State}

theorem Severed.closed (h : Severed b s t) (bounded : QueuesBounded s) : Closed .bayGone 0 (.bay b) s t := by
  obtain ⟨v, fwd, strap, flushed⟩ := h
  have closed : Closed .bayGone 0 (.bay b) v (flush b v) := flush_closed fun q k => by rw [fwd]; exact bounded.counters q k
  exact (closed.of_fwd flushed).of_start fwd strap


/-- A change of other blocks, records and pins before the work. -/
theorem Cuts.after (h : Cuts b u t) (fwd : u.fwd = s.fwd) (strap : u.addrStrap = s.addrStrap) (bays : u.bays = s.bays) :
    Cuts b s t := by
  have on : enabled b u = enabled b s := by unfold enabled; rw [bays]
  rcases h with ⟨same, keeps⟩ | ⟨powered, off, settled, v, vfwd, vstrap, flushed⟩
  · exact .inl ⟨same.trans fwd, fun h => keeps (on.trans h)⟩
  · exact .inr ⟨on.symm.trans powered, off, settled, v, vfwd.trans fwd, vstrap.trans strap, flushed⟩

theorem Cuts.of_still (fwd : t.fwd = s.fwd) (state : t.bays[b].state = s.bays[b].state) : Cuts b s t :=
  .inl ⟨fwd, fun h => by unfold enabled at h ⊢; rw [state]; exact h⟩

theorem Cuts.of_off (fwd : t.fwd = s.fwd) (off : powered s.bays[b].state = false) : Cuts b s t :=
  .inl ⟨fwd, fun h => by unfold enabled at h; rw [off] at h; cases h⟩

theorem leavePower_severed (b : Bay) (s : State) : Severed b s (leavePower b s) := by
  obtain ⟨fwd, -⟩ := leavePower_parts b s
  exact ⟨setFilter b .clear (setCharge b 0 (modBay b unpowerRecord s)),
    by rw [setFilter_fwd, setCharge_fwd, modBay_fwd], by rw [setFilter_addrStrap, setCharge_addrStrap, modBay_addrStrap], fwd⟩

/-- A bay that leaves power for a state without it. -/
theorem cuts_leavePower {f : BayRecord → BayRecord} (on : powered s.bays[b].state = true)
    (off : ∀ r, powered (f r).state = false ∧ (f r).state ≠ .queued) : Cuts b s (modBay b f (leavePower b s)) := by
  have record : (modBay b f (leavePower b s)).bays[b] = f (leavePower b s).bays[b] := by rw [modBay_bays, getElem_upd_same]
  exact .inr ⟨on, by rw [record]; exact (off _).1, by rw [record]; exact (off _).2, leavePower_severed b s⟩

/-- A bay with a state without power changes its state, and no port changes. -/
theorem cuts_modBay {f : BayRecord → BayRecord} (off : powered s.bays[b].state = false) : Cuts b s (modBay b f s) :=
  .of_off rfl off

theorem remove_cuts (b : Bay) (s : State) : Cuts b s (remove b s) := by
  have fwd : (remove b s).fwd = (evicted b s).fwd := by rw [remove_eq, latchBay_fwd, modLight_fwd, modBay_fwd]
  rcases evicted_cases b s with ⟨on, e⟩ | ⟨off, -, e⟩ | ⟨off, -, e⟩
  · obtain ⟨v, vfwd, vstrap, flushed⟩ := leavePower_severed b s
    have empty : (remove b s).bays[b].state = .empty := remove_state b s
    exact .inr ⟨on, by rw [empty]; rfl, by rw [empty]; exact BayState.noConfusion, v, vfwd, vstrap,
      by rw [fwd, e]; exact flushed⟩
  · exact .of_off (by rw [fwd, e]; rfl) off
  · exact .of_off (by rw [fwd, e]) off

theorem presenceEdge_cuts (b : Bay) (s : State) : Cuts b s (presenceEdge b s) := by
  unfold presenceEdge
  split
  case h_1 => exact .of_still rfl rfl
  case h_2 hx _ => exact .of_off (startSeating_fwd b s) (by rw [hx]; rfl)
  case h_3 => exact .of_still rfl rfl
  case h_4 hx _ => exact .of_off (unseat_fwd b s) (by rw [hx]; rfl)
  case h_5 => exact remove_cuts b s
  case h_6 => exact .of_still rfl rfl

theorem judgePresence_cuts (b : Bay) (s : State) : Cuts b s (judgePresence b s) := by
  unfold judgePresence
  dsimp only
  split
  · exact .of_still rfl rfl
  · exact (presenceEdge_cuts b _).after rfl rfl rfl

/-- Work on bay `d` alone. -/
structure WorksAt (d : Bay) (s t : State) : Prop where
  cuts : Cuts d s t
  others : ∀ c : Bay, c ≠ d → t.bays[c] = s.bays[c]
  strap : t.addrStrap = s.addrStrap

theorem unseat_bays_ne (b c : Bay) (s : State) (h : c ≠ b) : (unseat b s).bays[c] = s.bays[c] := by
  unfold unseat
  rw [cancelEmptyGroup_bays, modLine_bays]
  exact getElem_upd_ne _ _ h

theorem judgePresence_bays_ne (b c : Bay) (s : State) (h : c ≠ b) : (judgePresence b s).bays[c] = s.bays[c] := by
  have edge (u : State) : (presenceEdge b u).bays[c] = u.bays[c] :=
    presenceEdge_induction (P := fun v => v.bays[c] = u.bays[c]) rfl (fun _ _ => rfl) (startSeating_bays_ne b c u h)
      (unseat_bays_ne b c u h) (remove_bays_ne b c u h)
  unfold judgePresence
  dsimp only
  split
  · rfl
  · exact edge _

theorem setConnector_worksAt (b : Bay) (d : PrsDrive) (s : State) : WorksAt b s (setConnector b d s) :=
  ⟨(judgePresence_cuts b _).after rfl rfl rfl, fun c h => judgePresence_bays_ne b c _ h, judgePresence_addrStrap b _⟩

theorem writeLines_worksAt (rec : LineRecord) (b : Bay) (s : State) : WorksAt b s (writeLines rec b s) :=
  ⟨(judgePresence_cuts b _).after rfl rfl rfl, fun c h => judgePresence_bays_ne b c _ h, judgePresence_addrStrap b _⟩

theorem worksAt_leavePower {f : BayRecord → BayRecord} (on : powered s.bays[b].state = true)
    (off : ∀ r, powered (f r).state = false ∧ (f r).state ≠ .queued) : WorksAt b s (modBay b f (leavePower b s)) :=
  ⟨cuts_leavePower on off, fun c h => by rw [modBay_bays, getElem_upd_ne _ _ h, leavePower_bays, getElem_upd_ne _ _ h],
    leavePower_addrStrap b s⟩

theorem worksAt_modBay {f : BayRecord → BayRecord} (off : powered s.bays[b].state = false) : WorksAt b s (modBay b f s) :=
  ⟨cuts_modBay off, fun c h => by rw [modBay_bays, getElem_upd_ne _ _ h], rfl⟩

theorem WorksAt.refl (b : Bay) (s : State) : WorksAt b s s := ⟨.of_still rfl rfl, fun _ _ => rfl, rfl⟩

theorem faultBay_worksAt (cause : FaultCause) (on : powered s.bays[b].state = true) : WorksAt b s (faultBay b cause s) :=
  worksAt_leavePower on fun _ => ⟨rfl, BayState.noConfusion⟩

theorem powerOffBay_worksAt (p : UpPort) (flag : Bool) (b : Bay) (s : State) : WorksAt b s (powerOffBay p flag b s).1 := by
  have off (flag : Bool) (h : powered s.bays[b].state = false) : WorksAt b s (arriveOff p flag b s) := worksAt_modBay h
  have left (h : powered s.bays[b].state = true) : WorksAt b s (arriveOff p flag b (leavePower b s)) :=
    worksAt_leavePower h fun _ => ⟨rfl, BayState.noConfusion⟩
  unfold powerOffBay
  split
  case h_1 hx =>
    have dropped : WorksAt b (leaveQueue b s) (arriveOff p flag b (leaveQueue b s)) := worksAt_modBay (by
      have same : (leaveQueue b s).bays[b].state = s.bays[b].state := rfl
      rw [same, hx]; rfl)
    exact ⟨dropped.cuts.after rfl rfl rfl, dropped.others, dropped.strap⟩
  case h_2 hx => exact left (by rw [hx]; rfl)
  case h_3 hx => exact left (by rw [hx]; rfl)
  case h_4 hx => exact off flag (by rw [hx]; rfl)
  case h_5 hx =>
    split
    · split
      · exact off true (by rw [hx]; rfl)
      · split <;> exact .refl b s
    · exact .refl b s
  all_goals exact .refl b s

theorem powerCycleBay_worksAt (units : Nat) (b : Bay) (s : State) : WorksAt b s (powerCycleBay units b s).1 := by
  have left (n : Nat) (h : powered s.bays[b].state = true) : WorksAt b s (startCycle n b s) :=
    worksAt_leavePower h fun _ => ⟨rfl, BayState.noConfusion⟩
  unfold powerCycleBay
  split
  case h_1 hx => exact left _ (by rw [hx]; rfl)
  case h_2 hx => exact left _ (by rw [hx]; rfl)
  all_goals exact .refl b s

/-! ### Which bay has left power -/

/-- The bay has not lost power for a state that it does not leave again in the same step. -/
def Spared (d : Bay) (s t : State) : Prop :=
  enabled d s = true → powered t.bays[d].state = true ∨ t.bays[d].state = .queued

theorem worked_others (f : State → Bay → State) (works : ∀ u d, WorksAt d u (f u d)) (l : List Bay) {c : Bay} (h : c ∉ l)
    (s : State) : (l.foldl f s).bays[c] = s.bays[c] := by
  induction l generalizing s with
  | nil => rfl
  | cons d l ih =>
    have ne : c ≠ d := fun e => h (e ▸ List.mem_cons_self)
    exact (ih (fun k => h (List.mem_cons_of_mem d k)) _).trans ((works s d).others c ne)

theorem Spared.past {c d : Bay} {w : State} (h : Spared c s w) (work : WorksAt d s u) (hc : c ≠ d) : Spared c u w := fun on => by
  unfold enabled at on
  rw [work.others c hc] at on
  exact h on

/-- The first bay of those that are worked on has kept its power, and the forwarding engine is as it was. -/
theorem head_steady {f : State → Bay → State} (works : ∀ u d, WorksAt d u (f u d)) {l : List Bay} {d : Bay} (hd : d ∉ l)
    (spared : Spared d s (l.foldl f (f s d))) : Steady d s (f s d) := by
  refine (works s d).cuts.resolve_right fun ⟨on, off, settled, _⟩ => ?_
  have after := spared on
  rw [worked_others f works l hd] at after
  rcases after with h | h
  · rw [off] at h; cases h
  · exact settled h

theorem worked_steady (f : State → Bay → State) (works : ∀ u d, WorksAt d u (f u d)) (l : List Bay) (nodup : l.Nodup)
    (s : State) (spared : ∀ d ∈ l, Spared d s (l.foldl f s)) : (l.foldl f s).fwd = s.fwd := by
  induction l generalizing s with
  | nil => rfl
  | cons d l ih =>
    obtain ⟨hd, hl⟩ := List.nodup_cons.1 nodup
    have first := head_steady works hd (spared d List.mem_cons_self)
    have rest : ∀ e ∈ l, Spared e (f s d) (l.foldl f (f s d)) := fun e he =>
      (spared e (List.mem_cons_of_mem d he)).past (works s d) fun k => hd (k ▸ he)
    exact (ih hl _ rest).trans first.1

/-- At most one bay of those that are worked on has lost power. -/
theorem worked_cuts (f : State → Bay → State) (works : ∀ u d, WorksAt d u (f u d)) (l : List Bay) (nodup : l.Nodup)
    (s : State) (spared : ∀ d ∈ l, d ≠ b → Spared d s (l.foldl f s)) : Cuts b s (l.foldl f s) := by
  induction l generalizing s with
  | nil => exact .of_still rfl rfl
  | cons d l ih =>
    obtain ⟨hd, hl⟩ := List.nodup_cons.1 nodup
    have rest : ∀ e ∈ l, e ≠ b → Spared e (f s d) (l.foldl f (f s d)) := fun e he ne =>
      (spared e (List.mem_cons_of_mem d he) ne).past (works s d) fun k => hd (k ▸ he)
    by_cases same : d = b
    · subst same
      have still : ((d :: l).foldl f s).fwd = (f s d).fwd :=
        worked_steady f works l hl _ fun e he => rest e he fun k => hd (k ▸ he)
      have own : ((d :: l).foldl f s).bays[d] = (f s d).bays[d] := worked_others f works l hd _
      rcases (works s d).cuts with ⟨fwd, keeps⟩ | ⟨on, off, settled, v, vfwd, vstrap, flushed⟩
      · exact .inl ⟨still.trans fwd, fun h => by have k := keeps h; unfold enabled at k ⊢; rw [own]; exact k⟩
      · exact .inr ⟨on, by rw [own]; exact off, by rw [own]; exact settled, v, vfwd, vstrap, still.trans flushed⟩
    · obtain ⟨fwd, -⟩ := head_steady works hd (spared d List.mem_cons_self same)
      have on : enabled b (f s d) = enabled b s := by unfold enabled; rw [(works s d).others b (Ne.symm same)]
      rcases ih hl (f s d) rest with ⟨still, keeps⟩ | ⟨powered, off, settled, v, vfwd, vstrap, flushed⟩
      · exact .inl ⟨still.trans fwd, fun h => keeps (on.trans h)⟩
      · exact .inr ⟨on.symm.trans powered, off, settled, v, vfwd.trans fwd, vstrap.trans (works s d).strap, flushed⟩

/-- Work on a list of bays, then what every step ends with: if `b` alone loses power, its port is closed. -/
theorem closed_of_worked {f : State → Bay → State} (works : ∀ u d, WorksAt d u (f u d)) {l : List Bay} (nodup : l.Nodup)
    (bounded : QueuesBounded s) (ends : Extends (l.foldl f s) t)
    (stays : ∀ c : Bay, (l.foldl f s).bays[c].state ≠ .queued → t.bays[c].state = (l.foldl f s).bays[c].state)
    (on : enabled b s = true) (off : enabled b t = false)
    (others : ∀ d : Bay, d ≠ b → enabled d s = true → enabled d t = true) : Closed .bayGone 0 (.bay b) s t := by
  have spared : ∀ d ∈ l, d ≠ b → Spared d s (l.foldl f s) := fun d _ ne power => by
    by_cases queued : (l.foldl f s).bays[d].state = .queued
    · exact .inr queued
    · have kept := others d ne power
      unfold enabled at kept
      rw [stays d queued] at kept
      exact .inl kept
  rcases worked_cuts f works l nodup s spared with ⟨-, keeps⟩ | ⟨-, -, -, severed⟩
  · have still := keeps on
    unfold enabled at still off
    rw [stays b fun k => by rw [k] at still; cases still] at off
    rw [still] at off
    cases off
  · exact (severed.closed bounded).extends ends

/-! ### The commands that may take a bay's power -/

/-- A request does nothing, is refused unread, or is served. -/
theorem serveCode_ran {code : BitVec 16} {n : Nat} {body : UpPort → Frame → State → State × Reply}
    (e : serveCode code n body s = .next t) : t = s ∨ ∃ (p : UpPort) (req : Frame) (x : State × Reply),
      t = settle (respond p req x) ∧ (x = (takeRequest p s, badRequest) ∨ x = body p req (takeRequest p s)) := by
  unfold serveCode serveIf at e
  split at e
  · exact .inl (Host.Outcome.next.inj e).symm
  · next p req _ =>
    split at e
    · refine .inr ⟨p, req, _, (Host.Outcome.next.inj e).symm, ?_⟩
      dsimp only
      split
      · exact .inl rfl
      · exact .inr rfl
    · exact .inl (Host.Outcome.next.inj e).symm

theorem settle_stays (h : BaysConsistent s) (c : Bay) (state : s.bays[c].state ≠ .queued) :
    (settle s).bays[c].state = s.bays[c].state := by
  rw [(settle_aside c s h.queued).record state]

/-- The assumptions of R84's statement: `b` alone loses power. -/
structure LosesPower (b : Bay) (s t : State) : Prop where
  on : enabled b s = true
  off : enabled b t = false
  others : ∀ d : Bay, d ≠ b → enabled d s = true → enabled d t = true

theorem LosesPower.moved (h : LosesPower b s t) : t ≠ s := fun e => by
  have off := h.off
  rw [e, h.on] at off
  cases off

theorem LosesPower.closed_settled {f : State → Bay → State} (works : ∀ u d, WorksAt d u (f u d)) {l : List Bay}
    (nodup : l.Nodup) (bounded : QueuesBounded s) (consistent : BaysConsistent (l.foldl f s))
    (h : LosesPower b s (settle (l.foldl f s))) : Closed .bayGone 0 (.bay b) s (settle (l.foldl f s)) :=
  closed_of_worked works nodup bounded (settle_extends _) (settle_stays consistent) h.on h.off h.others

/-- A request that works on bays, one after another. -/
theorem LosesPower.closed_served {code : BitVec 16} {n : Nat} {body : UpPort → Frame → State → State × Reply}
    {f : UpPort → Frame → State → Bay → State} (h : LosesPower b s t) (consistent : BaysConsistent s)
    (bounded : QueuesBounded s) (keeps : ∀ p req u, Keeps u (body p req u).1)
    (works : ∀ p req u d, WorksAt d u (f p req u d))
    (folds : ∀ p req u, ∃ l : List Bay, l.Nodup ∧ (body p req u).1 = l.foldl (f p req) u)
    (e : serveCode code n body s = .next t) : Closed .bayGone 0 (.bay b) s t := by
  rcases serveCode_ran e with same | ⟨p, req, x, rfl, effect⟩
  · exact absurd same h.moved
  have taken : BaysConsistent (takeRequest p s) := Still.keeps (s := s) ⟨rfl, rfl⟩ consistent
  have worked : BaysConsistent x.1 ∧ ∃ l : List Bay, l.Nodup ∧ x.1 = l.foldl (f p req) (takeRequest p s) := by
    rcases effect with rfl | rfl
    · exact ⟨taken, [], List.nodup_nil, rfl⟩
    · exact ⟨keeps p req _ taken, folds p req _⟩
  obtain ⟨sound, l, nodup, done⟩ := worked
  have answered : BaysConsistent (respond p req x) := (respond_still p req x).keeps sound
  have stays (c : Bay) (state : x.1.bays[c].state ≠ .queued) :
      (settle (respond p req x)).bays[c].state = x.1.bays[c].state := by
    have bays : (respond p req x).bays = x.1.bays := (respond_still p req x).1
    rw [settle_stays answered c (by rw [bays]; exact state), bays]
  have ends : Extends x.1 (settle (respond p req x)) := (respond_extends p req x).trans (settle_extends _)
  rw [done] at ends stays
  have room : QueuesBounded (takeRequest p s) := (takeRequest_moves (A := False) p s).bounded bounded
  exact (closed_of_worked (works p req) nodup room ends stays h.on h.off h.others).of_start rfl rfl

theorem LosesPower.presenceLost {d : Bay} (h : LosesPower b s t) (consistent : BaysConsistent s) (bounded : QueuesBounded s)
    (e : execPresenceLost d s = .next t) : Closed .bayGone 0 (.bay b) s t := by
  obtain rfl := (Host.Outcome.next.inj e).symm
  exact LosesPower.closed_settled (f := fun u c => setConnector c .released u) (l := [d])
    (fun u c => setConnector_worksAt c _ u) (List.nodup_singleton d) bounded (setConnector_keeps d _ s consistent) h

/-- A trip that finds the bay with power. -/
def tripped (c : FaultCause) (s : State) (b : Bay) : State := if powered s.bays[b].state then faultBay b c s else s

theorem tripped_worksAt (c : FaultCause) (s : State) (b : Bay) : WorksAt b s (tripped c s b) := by
  unfold tripped
  split
  · next on => exact faultBay_worksAt c on
  · exact .refl b s

theorem LosesPower.protectionTrip {d : Bay} {c : TripCause} (h : LosesPower b s t) (consistent : BaysConsistent s)
    (bounded : QueuesBounded s) (e : execProtectionTrip d c s = .next t) : Closed .bayGone 0 (.bay b) s t := by
  unfold execProtectionTrip at e
  split at e
  · next hp =>
    obtain ⟨-, on⟩ := Bool.and_eq_true_iff.1 hp
    obtain rfl := (Host.Outcome.next.inj e).symm
    have done : [d].foldl (tripped (tripFault c)) s = faultBay d (tripFault c) s := if_pos on
    have sound := faultBay_keeps d (tripFault c) s on consistent
    rw [← done] at h sound ⊢
    exact h.closed_settled (tripped_worksAt _) (List.nodup_singleton d) bounded sound
  · exact absurd (Host.Outcome.next.inj e).symm h.moved

theorem withBay_folds {f : State → Bay → State} {req : Frame} {u : State} {k : Bay → State × Reply}
    (h : ∀ d, (k d).1 = f u d) : ∃ l : List Bay, l.Nodup ∧ (withBay req u k).1 = l.foldl f u := by
  unfold withBay
  split
  · exact ⟨[], List.nodup_nil, rfl⟩
  · next d _ => exact ⟨[d], List.nodup_singleton d, h d⟩

theorem LosesPower.powerOff (h : LosesPower b s t) (consistent : BaysConsistent s) (bounded : QueuesBounded s)
    (e : execPowerOff s = .next t) : Closed .bayGone 0 (.bay b) s t := by
  exact h.closed_served consistent bounded (fun p f u => withBay_keeps f u _ fun d => powerOffBay_keeps p _ d u)
    (f := fun p req u d => (powerOffBay p (decide (arg req 1 ≠ 0)) d u).1) (fun p _ u d => powerOffBay_worksAt p _ d u)
    (fun p req u => withBay_folds fun _ => rfl) e

theorem LosesPower.powerCycle (h : LosesPower b s t) (consistent : BaysConsistent s) (bounded : QueuesBounded s)
    (e : execPowerCycle s = .next t) : Closed .bayGone 0 (.bay b) s t := by
  exact h.closed_served consistent bounded (fun _ f u => withBay_keeps f u _ fun d => powerCycleBay_keeps _ d u)
    (f := fun _ req u d => (powerCycleBay ((arg req 1).toNat % 256) d u).1) (fun _ _ u d => powerCycleBay_worksAt _ d u)
    (fun p req u => withBay_folds fun _ => rfl) e

/-- The line record of a request, written to a bay. -/
def written (req : Frame) (s : State) (b : Bay) : State :=
  match lineRecordArg req with
  | none => s
  | some rec => writeLines rec b s

theorem written_worksAt (req : Frame) (s : State) (b : Bay) : WorksAt b s (written req s b) := by
  unfold written
  split
  · exact .refl b s
  · exact writeLines_worksAt _ b s

theorem setBayLines_folds (p : UpPort) (req : Frame) (u : State) :
    ∃ l : List Bay, l.Nodup ∧ (setBayLines p req u).1 = l.foldl (written req) u := by
  unfold setBayLines
  dsimp only
  split
  · exact ⟨[], List.nodup_nil, rfl⟩
  · next rec record =>
    split
    · exact ⟨[], List.nodup_nil, rfl⟩
    · have same : written req = fun u b => writeLines rec b u := by
        funext u b
        unfold written
        rw [record]
      exact ⟨_, (allBays_nodup.filter _).filter _, by rw [same]; rfl⟩

theorem LosesPower.setBayLines (h : LosesPower b s t) (consistent : BaysConsistent s) (bounded : QueuesBounded s)
    (e : execSetBayLines s = .next t) : Closed .bayGone 0 (.bay b) s t :=
  h.closed_served consistent bounded setBayLines_keeps (fun _ => written_worksAt) setBayLines_folds e

/-- R26: a start window that runs out, whether the bay is queued again or FAULTED. -/
theorem failStart_fwd (b : Bay) (s : State) : (failStart b s).fwd = (leavePower b s).fwd := by
  unfold failStart
  dsimp only
  rw [latchBay_fwd]
  split <;> rfl

theorem startWindow_closed (bounded : QueuesBounded s) (state : s.bays[b].state = .starting)
    (timer : s.bays[b].startTimer.isSome = true) (e : execStartWindowExpiry b s = .next t) :
    Closed .bayGone 0 (.bay b) s t ∧ t.fwd.waiting[portIdx (.bay b)] = none := by
  obtain ⟨x, running⟩ := Option.isSome_iff_exists.1 timer
  unfold execStartWindowExpiry at e
  rw [state, running] at e
  obtain rfl := (Host.Outcome.next.inj e).symm
  have ends : Extends (leavePower b (advance x s)) (settle (failStart b (advance x s))) :=
    (Extends.of_eq (failStart_fwd b _)).trans (settle_extends _)
  have room : QueuesBounded (advance x s) := (advance_moves (A := False) x s).bounded bounded
  have closed := (leavePower_severed b (advance x s)).closed room
  have quiet := (leavePower_quiet b (advance x s)).waiting
  refine ⟨(closed.extends ends).of_start (advance_fwd x s) (advance_addrStrap x s), ?_⟩
  have waiting : (settle (failStart b (advance x s))).fwd.waiting = (leavePower b (advance x s)).fwd.waiting := by rw [ends.fwd]
  rw [waiting]
  exact quiet

/-! ### A HELLO that the bay controller refuses (R28, R29) -/

theorem Closed.counted {n : Nat} (h : Closed .bayGone n (.bay b) s t) :
    Closed .bayGone (n + 1) (.bay b) s (count (.bay b) .discarded 1 t) := by
  have own := portAt_count_same (p := .bay b) (s := t) .discarded 1
  have counter (k : CounterKind) : ((count (.bay b) .discarded 1 t).fwd.counters[portIdx (.bay b)])[k.idx] =
      if k = .discarded then min Config.counterMax ((t.fwd.counters[portIdx (.bay b)])[CounterKind.discarded.idx] + 1)
      else (t.fwd.counters[portIdx (.bay b)])[k.idx] :=
    (congrArg (fun x => x.counters[k.idx]) own).trans (PortState.counted_counter _ k .discarded 1)
  constructor
  case answers =>
    intro p hp
    cases p <;> exact h.answers _ hp
  case slots => exact h.slots
  case counters =>
    intro p k hp
    have other := congrArg (fun x => x.counters[k.idx]) (portAt_count_ne (s := t) hp .discarded 1)
    exact other.trans (h.counters p k hp)
  case discarded =>
    rw [counter, if_pos rfl, h.discarded]
    omega
  case ownCounters =>
    intro k hk
    rw [counter, if_neg hk]
    exact h.ownCounters k hk
  case transmissions => exact h.transmissions
  case normal => exact h.normal

theorem refuseHello_closed (cause : FaultCause) (k : BayEvent) (bounded : QueuesBounded s) :
    Closed .bayGone 1 (.bay b) s (refuseHello b cause k s) := by
  have faulted : (latchBay b k (faultBay b cause s)).fwd = (leavePower b s).fwd := by rw [latchBay_fwd]; rfl
  exact (((leavePower_severed b s).closed bounded).of_fwd faulted).counted

/-- Bay `b` does not lose power. -/
def StaysOn (b : Bay) (s t : State) : Prop := enabled b s = true → enabled b t = true

theorem StaysOn.of_state (h : t.bays[b].state = s.bays[b].state) : StaysOn b s t := fun on => by
  unfold enabled at on ⊢
  rw [h]
  exact on

theorem StaysOn.of_bays (h : t.bays = s.bays) : StaysOn b s t := .of_state (by rw [h])

/-- An admission gives power; nothing else at the end of a step touches a bay. -/
theorem settle_staysOn (b : Bay) (s : State) : StaysOn b s (settle s) := by
  intro on
  have before : enabled b (refreshBlocks (refreshHot s)) = true := by
    unfold enabled at on ⊢
    rw [refreshBlocks_bays, refreshHot_bays]
    exact on
  have admitted (u : State) (h : enabled b u = true) : enabled b (attempt u) = true :=
    attempt_induction (fun v => enabled b v = true) (fun v c _ _ hv => by
      unfold enabled at hv ⊢
      rw [admitBay_bays, getElem_upd]
      split
      · rfl
      · exact hv) u h
  have tried : enabled b (attemptIfAsked (refreshBlocks (refreshHot s))) = true := by
    unfold attemptIfAsked
    split
    · exact admitted _ before
    · exact before
  rw [settle_eq]
  unfold enabled at tried ⊢
  rw [finish_bays]
  exact tried

/-- No bay changes its state. -/
def SameStates (s t : State) : Prop := ∀ c : Bay, t.bays[c].state = s.bays[c].state

theorem SameStates.of_bays (h : t.bays = s.bays) : SameStates s t := fun c => by rw [h]

theorem SameStates.trans (h : SameStates s t) (k : SameStates t u) : SameStates s u := fun c => (k c).trans (h c)

theorem SameStates.ite {p : Prop} [Decidable p] (h : SameStates s t) (k : SameStates s u) :
    SameStates s (if p then t else u) := by
  split
  · exact h
  · exact k

theorem capture_states (b : Bay) (x : Int) (s : State) : SameStates s (capture b x s) := by
  have latched (k : BayEvent) (u : State) : SameStates u (latchBay b k u) := .of_bays (latchBay_bays b k u)
  have tripping (u : State) : SameStates u (modBay b (fun r => { r with otTrip := true }) u) := fun c => by
    rw [modBay_bays, getElem_upd]
    split
    · next e => rw [e]
    · rfl
  have warned : SameStates s (if warnsAt s.therm.warn x s.therm.records[b].reading then latchBay b .tempWarn s else s) :=
    .ite (latched _ s) (.of_bays rfl)
  have measured (f : ThermalRecord → ThermalRecord) (u : State) : SameStates u (modTherm b f u) := .of_bays rfl
  exact (warned.trans (measured _ _)).trans (.ite ((latched _ _).trans (.ite (tripping _) (.of_bays rfl))) (.of_bays rfl))

theorem applyRule_states (b : Bay) (r : SnoopRule) (v : Byte) (s : State) : SameStates s (applyRule b r v s) := by
  have hinted : (faultHint b s).bays = s.bays := by unfold faultHint; rw [latchBay_bays, modLight_bays]
  unfold applyRule
  split
  · split
    · exact .ite (capture_states b _ s) (.of_bays rfl)
    · exact .of_bays rfl
  · exact .ite (.of_bays rfl) (.of_bays hinted)

theorem snoop_states (b : Bay) (f : Frame) (s : State) : SameStates s (snoop b f s) := by
  unfold snoop
  dsimp only
  split
  · split
    · exact .of_bays rfl
    · split
      · exact .of_bays rfl
      · exact applyRule_states b _ _ s
  · exact .of_bays rfl

theorem place_state (p q : Port) (c : Bay) (f : Frame) (s : State) : (place p q f s).bays[c].state = s.bays[c].state := by
  unfold place
  cases q with
  | bay b => exact congrArg (fun r => BayRecord.state r[c]) (markActivity_bays b _)
  | up u =>
    cases p with
    | bay a => exact (snoop_states a f _ c).trans (congrArg (fun r => BayRecord.state r[c]) (markActivity_bays a _))
    | up v => rfl

theorem routeFrame_state (p : Port) (c : Bay) (f : Frame) (s : State) :
    (routeFrame p f s).bays[c].state = s.bays[c].state := by
  have refused (code : StatusCode) : (refuseFrame code p f s).bays[c].state = s.bays[c].state := by rw [refuseFrame_bays]
  unfold routeFrame
  split
  · exact refused _
  · split
    · rfl
    · split
      · exact refused _
      · split
        · exact place_state p _ c f s
        · rfl

/-- A HELLO handed to the bay controller costs the bay its power when it is refused, and in no other case. -/
theorem helloAtBay_cases (f : Frame) (s : State) :
    StaysOn b s (helloAtBay b f s) ∨ ∃ cause k, helloAtBay b f s = refuseHello b cause k s := by
  unfold helloAtBay
  split
  · exact .inl (.of_bays rfl)
  · next a _ =>
    split
    · unfold helloStarting
      split
      · exact .inr ⟨_, _, rfl⟩
      · split
        · exact .inr ⟨_, _, rfl⟩
        · refine .inl fun _ => ?_
          have record : (acceptStart b a s).bays[b].state = .online := by rw [acceptStart_taken.record]; rfl
          unfold enabled
          rw [record]
          rfl
    · unfold helloOnline
      dsimp only
      split
      · exact .inr ⟨_, _, rfl⟩
      · split
        · exact .inr ⟨_, _, rfl⟩
        · exact .inl (.of_state (by rw [(acceptOnline_taken _).record]; rfl))
    · exact .inl (.of_bays rfl)

theorem arrive_cases (bytes : List Byte) (s : State) :
    StaysOn b s (arrive (.bay b) bytes s) ∨ ∃ cause k, arrive (.bay b) bytes s = refuseHello b cause k s := by
  unfold arrive
  dsimp only
  split
  · unfold takeIn
    split
    · exact .inl (.of_bays rfl)
    · next f _ =>
      unfold classify
      dsimp only
      split
      · exact helloAtBay_cases f s
      · split
        · exact .inl (.of_bays (refuseFrame_bays _ _ _ s))
        · exact .inl (.of_state (routeFrame_state _ b f s))
  · exact .inl (.of_bays rfl)

theorem driveHello_closed {bytes : List Byte} (bounded : QueuesBounded s) (on : enabled b s = true)
    (off : enabled b t = false) (e : execDriveHello b bytes s = .next t) : Closed .bayGone 1 (.bay b) s t := by
  have lost (h : StaysOn b s t) : False := by rw [h on] at off; cases off
  unfold execDriveHello arrival at e
  split at e
  · obtain rfl := (Host.Outcome.next.inj e).symm
    exact (lost (.of_bays rfl)).elim
  · obtain rfl := (Host.Outcome.next.inj e).symm
    rcases arrive_cases bytes s with kept | ⟨cause, k, refused⟩
    · exact (lost fun h => settle_staysOn b _ (kept h)).elim
    · rw [refused]
      exact (refuseHello_closed cause k bounded).extends (settle_extends _)

end

/-- Settles O28: whatever takes a bay's power flushes its port in the same operation, and past the flush frames only join
priority queues. -/
theorem leavingPowerFlushesThePort : Obligations.LeavingPowerFlushesThePort := by
  refine ⟨fun b c s t consistent bounded command e on off others => ?_,
    fun b s t bounded state timer e => startWindow_closed bounded state timer e,
    fun b bytes s t bounded e on off => driveHello_closed bounded on off e⟩
  have loses : LosesPower b s t := ⟨on, off, others⟩
  rcases command with rfl | rfl | rfl | rfl | rfl | rfl
  · exact loses.presenceLost consistent bounded e
  · exact loses.protectionTrip consistent bounded e
  · exact loses.protectionTrip consistent bounded e
  · exact loses.powerOff consistent bounded e
  · exact loses.powerCycle consistent bounded e
  · exact loses.setBayLines consistent bounded e

end Sys2Proof.Machine

namespace Sys2Proof.Machine

/-! ### The end of a step that moves frames (R55, R56, R116, R189, R193, R3) -/

/-- A change of frames, requests, lights and the clock that frees no place in a priority queue. -/
structure Tranquil (s u : State) : Prop where
  bays : u.bays = s.bays
  power : u.power = s.power
  therm : u.therm = s.therm
  cool : u.cool = s.cool
  ev : u.ev = s.ev
  learned : u.route.learned = s.route.learned
  held : u.mgmt.held = s.mgmt.held
  priority : ∀ p : UpPort, s.fwd.up[upIdx p].priority.length ≤ u.fwd.up[upIdx p].priority.length

/-- Moreover nothing that the pins show changes. -/
structure Unlit (s u : State) : Prop where
  now : u.now = s.now
  line : u.line = s.line
  light : u.light = s.light

section
variable {s t u : State}

theorem Tranquil.of_up (bays : u.bays = s.bays) (power : u.power = s.power) (therm : u.therm = s.therm)
    (cool : u.cool = s.cool) (ev : u.ev = s.ev) (route : u.route = s.route) (held : u.mgmt.held = s.mgmt.held)
    (up : u.fwd.up = s.fwd.up) : Tranquil s u :=
  ⟨bays, power, therm, cool, ev, by rw [route], held, fun p => by rw [up]⟩

theorem Tranquil.refl (s : State) : Tranquil s s := .of_up rfl rfl rfl rfl rfl rfl rfl rfl

theorem Tranquil.trans (h : Tranquil s t) (k : Tranquil t u) : Tranquil s u :=
  ⟨k.bays.trans h.bays, k.power.trans h.power, k.therm.trans h.therm, k.cool.trans h.cool, k.ev.trans h.ev,
    k.learned.trans h.learned, k.held.trans h.held, fun p => Nat.le_trans (h.priority p) (k.priority p)⟩

theorem Unlit.refl (s : State) : Unlit s s := ⟨rfl, rfl, rfl⟩

theorem Unlit.trans (h : Unlit s t) (k : Unlit t u) : Unlit s u :=
  ⟨k.now.trans h.now, k.line.trans h.line, k.light.trans h.light⟩

theorem Tranquil.uneventful (h : Tranquil s u) (k : AtRest s) : Uneventful s u where
  power := h.power
  therm := h.therm
  cool := h.cool
  alert := by rw [h.ev]
  state b := by rw [h.bays]
  zone b := by rw [h.bays]
  notices p := by
    have still := k.notices p
    refine Bool.eq_false_iff.2 fun freed => Bool.eq_false_iff.1 still ?_
    obtain ⟨waits, known, room, free⟩ := (releasable_iff p u).1 freed
    have free' : holdsFor p s = false := by
      unfold holdsFor at free ⊢
      rw [h.held] at free
      exact free
    refine (releasable_iff p s).2 ⟨by rw [← h.ev]; exact waits, by rw [← h.learned]; exact known, ?_, free'⟩
    exact decide_eq_true (Nat.lt_of_le_of_lt (h.priority p) (of_decide_eq_true room))

/-- A step that moves frames ends with the pins. -/
theorem Tranquil.settle (h : Tranquil s u) (k : AtRest s) : settle u = drivePins u := (h.uneventful k).settle k

theorem Unlit.pins (h : Unlit s u) (state : ∀ b : Bay, u.bays[b].state = s.bays[b].state) (k : drivePins s = s) : drivePins u = u := by
  obtain ⟨lines, patterns⟩ := (drivePins_eq_self_iff s).1 k
  refine (drivePins_eq_self_iff u).2 ⟨fun b => ?_, fun p => by rw [h.light, h.now]; exact patterns p⟩
  refine driven_congr h.now h.light ?_ ?_ ?_ (by rw [h.line]) (lines b)
  · unfold greenShown; rw [state, h.light]
  · unfold amberShown; rw [state, h.light]
  · unfold enabled; rw [state]

/-- Without lights, nothing follows. -/
theorem Tranquil.settle_unlit (h : Tranquil s u) (l : Unlit s u) (k : AtRest s) : Machine.settle u = u := by
  rw [h.settle k, l.pins (fun b => by rw [h.bays]) k.pins]

end

section
variable (s : State)

theorem count_tranquil (p : Port) (k : CounterKind) (n : Nat) : Tranquil s (count p k n s) :=
  .of_up rfl rfl rfl rfl rfl rfl rfl rfl

theorem count_unlit (p : Port) (k : CounterKind) (n : Nat) : Unlit s (count p k n s) := ⟨rfl, rfl, rfl⟩

theorem modUp_tranquil {f : UpUnit → UpUnit} (longer : ∀ x, x.priority.length ≤ (f x).priority.length) (p : UpPort) :
    Tranquil s (modUp p f s) := by
  refine ⟨rfl, rfl, rfl, rfl, rfl, rfl, rfl, fun q => ?_⟩
  rw [modUp_up]
  by_cases same : q = p
  · subst same
    rw [getElem_upd_same]
    exact longer _
  · rw [getElem_upd_ne _ _ (upIdx_ne same)]

theorem pushPriority_tranquil (p : UpPort) (h : Held) : Tranquil s (pushPriority p h s) :=
  modUp_tranquil s (fun x => by rw [List.length_append]; exact Nat.le_add_right _ _) p

theorem pushNormal_tranquil (p : UpPort) (h : Held) : Tranquil s (pushNormal p h s) :=
  modUp_tranquil s (f := fun x => { x with normal := x.normal ++ [h] }) (fun _ => Nat.le_refl _) p

theorem pushPriority_unlit (p : UpPort) (h : Held) : Unlit s (pushPriority p h s) := ⟨rfl, rfl, rfl⟩

theorem pushNormal_unlit (p : UpPort) (h : Held) : Unlit s (pushNormal p h s) := ⟨rfl, rfl, rfl⟩

theorem pushBay_tranquil (b : Bay) (h : Held) : Tranquil s (pushBay b h s) := .of_up rfl rfl rfl rfl rfl rfl rfl rfl

theorem markActivity_tranquil (b : Bay) : Tranquil s (markActivity b s) := .of_up rfl rfl rfl rfl rfl rfl rfl rfl

theorem enterSlot_tranquil (p q : Port) (f : Frame) : Tranquil s (enterSlot p q f s) := .of_up rfl rfl rfl rfl rfl rfl rfl rfl

theorem enterSlot_unlit (p q : Port) (f : Frame) : Unlit s (enterSlot p q f s) := ⟨rfl, rfl, rfl⟩

theorem clearSlot_tranquil (p : Port) : Tranquil s (clearSlot p s) := .of_up rfl rfl rfl rfl rfl rfl rfl rfl

theorem advance_tranquil (t : Nat) : Tranquil s (advance t s) := .of_up rfl rfl rfl rfl rfl rfl rfl rfl

end

/-! ### Statuses, case by case (R73, R74) -/

section
variable {c : StatusCode} {f : Frame} {s : State}

/-- The status that the part builds in answer to a frame. -/
def answerTo (c : StatusCode) (f : Frame) (s : State) : Held := ⟨statusFrame (switchAddr s) c f, .built⟩

theorem sendStatus_of_status {p : Port} (kind : f.kind = .status) : sendStatus c p f s = s := if_pos kind

theorem sendStatus_up_room {u : UpPort} (kind : f.kind ≠ .status) (live : s.fwd.up[upIdx u].linkUp = true)
    (room : s.fwd.up[upIdx u].priority.length < 16) :
    sendStatus c (.up u) f s = count (.up u) .statusSent 1 (pushPriority u (answerTo c f s) s) := by
  have both : (s.fwd.up[upIdx u].linkUp && priorityRoom u s) = true :=
    Bool.and_eq_true_iff.2 ⟨live, decide_eq_true room⟩
  unfold sendStatus
  rw [if_neg kind]
  exact if_pos both

theorem sendStatus_up_full {u : UpPort} (kind : f.kind ≠ .status) (full : 16 ≤ s.fwd.up[upIdx u].priority.length) :
    sendStatus c (.up u) f s = count (.up u) .statusDropped 1 s := by
  have crowded : priorityRoom u s = false := decide_eq_false (Nat.not_lt.2 full)
  unfold sendStatus
  rw [if_neg kind]
  exact if_neg (by rw [crowded, Bool.and_false]; exact Bool.false_ne_true)

theorem sendStatus_bay_room {b : Bay} (kind : f.kind ≠ .status) (room : (s.fwd.bayQueue[b]).length < 8) :
    sendStatus c (.bay b) f s =
      markActivity b (count (.bay b) .statusSent 1 (pushBay b (answerTo c f s) s)) := by
  unfold sendStatus
  rw [if_neg kind]
  exact if_pos room

theorem sendStatus_bay_full {b : Bay} (kind : f.kind ≠ .status) (full : 8 ≤ (s.fwd.bayQueue[b]).length) :
    sendStatus c (.bay b) f s = count (.bay b) .statusDropped 1 s := by
  unfold sendStatus
  rw [if_neg kind]
  exact if_neg (Nat.not_lt.2 full)

theorem sendStatus_tranquil (c : StatusCode) (p : Port) (f : Frame) (s : State) : Tranquil s (sendStatus c p f s) := by
  unfold sendStatus
  split
  · exact .refl s
  · cases p with
    | up u =>
      dsimp only
      split
      · exact (pushPriority_tranquil s u _).trans (count_tranquil _ _ _ _)
      · exact count_tranquil s _ _ _
    | bay b =>
      dsimp only
      split
      · exact ((pushBay_tranquil s b _).trans (count_tranquil _ _ _ _)).trans (markActivity_tranquil _ b)
      · exact count_tranquil s _ _ _

theorem refuseFrame_tranquil (c : StatusCode) (p : Port) (f : Frame) (s : State) : Tranquil s (refuseFrame c p f s) :=
  (count_tranquil s p .discarded 1).trans (sendStatus_tranquil c p f _)

/-- A status that leaves through an upstream port shows at no light. -/
theorem sendStatus_up_unlit (c : StatusCode) (u : UpPort) (f : Frame) (s : State) : Unlit s (sendStatus c (.up u) f s) := by
  unfold sendStatus
  split
  · exact .refl s
  · dsimp only
    split
    · exact (pushPriority_unlit s u _).trans (count_unlit _ _ _ _)
    · exact count_unlit s _ _ _

theorem refuseFrame_up_settles (h : AtRest s) (c : StatusCode) (u : UpPort) (f : Frame) :
    settle (refuseFrame c (.up u) f s) = refuseFrame c (.up u) f s :=
  (refuseFrame_tranquil c _ f s).settle_unlit ((count_unlit s (.up u) .discarded 1).trans (sendStatus_up_unlit c u f _)) h

end

/-! ### Arrivals (R67 to R72) -/

section
variable {p : Port} {bytes : List Byte} {f : Frame} {s : State}

theorem heldBack_eq_false_of_shut {b : Bay} (off : enabled b s = false) : heldBack (.bay b) s = false := by
  unfold heldBack
  dsimp only
  rw [off]
  rfl

theorem heldBack_of_waiting {b : Bay} {w : Waiting} (on : enabled b s = true) (slot : s.fwd.waiting[portIdx (.bay b)] = some w) :
    heldBack (.bay b) s = true := by
  unfold heldBack
  dsimp only
  rw [slot, on]
  rfl

theorem link_of_not_heldBack {u : UpPort} (h : heldBack (.up u) s = false) : s.fwd.up[upIdx u].linkUp = true := by
  unfold heldBack at h
  obtain ⟨-, link⟩ := Bool.or_eq_false_iff.1 h
  exact Bool.not_eq_eq_eq_not.1 link

/-- An arrival that the link does not hold back. -/
theorem arrival_taken (outside : heldBack p s = false) (on : ∀ b : Bay, p = .bay b → enabled b s = true) :
    arrival p bytes s = .next (settle (takeIn p bytes s)) := by
  have taken : arrive p bytes s = takeIn p bytes s := by
    cases p with
    | bay b => exact if_pos (on b rfl)
    | up u => rfl
  unfold arrival
  rw [outside, taken]
  rfl

theorem takeIn_good (parsed : parseFrame bytes = some f) : takeIn p bytes s = classify p f s := by
  unfold takeIn
  rw [parsed]

theorem takeIn_bad (parsed : parseFrame bytes = none) : takeIn p bytes s = count p .badCheck 1 s := by
  unfold takeIn
  rw [parsed]

theorem classify_routed (hello : f.kind ≠ .hello) (other : ¬(f.kind = .mgmtReq ∧ f.dest = switchAddr s)) :
    classify p f s = routeFrame p f s := by
  unfold classify
  rw [if_neg hello, if_neg other]

theorem arrival_routed (h : RoutedArrival p bytes f s) : arrival p bytes s = .next (settle (routeFrame p f s)) := by
  obtain ⟨outside, on, parsed, hello, other⟩ := h
  rw [arrival_taken outside on, takeIn_good parsed, classify_routed hello other]

theorem routeFrame_unknown (lost : lookup f.dest s = none) : routeFrame p f s = refuseFrame .unknownDestination p f s := by
  unfold routeFrame
  rw [lost]

theorem routeFrame_reflected (found : lookup f.dest s = some p) : routeFrame p f s = count p .reflected 1 s := by
  unfold routeFrame
  rw [found]
  exact if_pos rfl

theorem routeFrame_closed {q : Port} {c : StatusCode} (found : lookup f.dest s = some q) (other : q ≠ p)
    (closed : pathRefusal p q s = some c) : routeFrame p f s = refuseFrame c p f s := by
  unfold routeFrame
  rw [found]
  dsimp only
  rw [if_neg other, closed]

theorem routeFrame_joins {q : Port} (found : lookup f.dest s = some q) (other : q ≠ p) (path : pathRefusal p q s = none)
    (room : queueRoom q s = true) : routeFrame p f s = place p q f s := by
  unfold routeFrame
  rw [found]
  dsimp only
  rw [if_neg other, path]
  exact if_pos room

theorem routeFrame_waits {q : Port} (found : lookup f.dest s = some q) (other : q ≠ p) (path : pathRefusal p q s = none)
    (full : queueRoom q s = false) : routeFrame p f s = enterSlot p q f s := by
  unfold routeFrame
  rw [found]
  dsimp only
  rw [if_neg other, path]
  exact if_neg (by rw [full]; exact Bool.false_ne_true)

theorem pathRefusal_up_open {u : UpPort} (live : s.fwd.up[upIdx u].linkUp = true) : pathRefusal p (.up u) s = none := if_pos live

theorem pathRefusal_up_closed {u : UpPort} (down : s.fwd.up[upIdx u].linkUp = false) :
    pathRefusal p (.up u) s = some .noPath := if_neg (by rw [down]; exact Bool.false_ne_true)

theorem pathRefusal_bay_open {u : UpPort} {b : Bay} (ready : s.bays[b].state = .online) :
    pathRefusal (.up u) (.bay b) s = none := if_pos ready

theorem pathRefusal_bay_closed {u : UpPort} {b : Bay} (busy : s.bays[b].state ≠ .online) :
    pathRefusal (.up u) (.bay b) s = some .bayNotReady := if_neg busy

end

/-! ### Frames from an upstream port (R72 to R75, R78, R83) -/

section
variable {u : UpPort} {bytes : List Byte} {f : Frame} {q : Port} {s : State}

theorem reflected_settles (h : AtRest s) (p : Port) : settle (count p .reflected 1 s) = count p .reflected 1 s :=
  settle_of_atRest _ (count_atRest h _ _ _)

theorem upArrival_joins_bay {b : Bay} (h : AtRest s) (r : RoutedArrival (.up u) bytes f s)
    (found : lookup f.dest s = some (.bay b)) (ready : s.bays[b].state = .online) (room : (s.fwd.bayQueue[b]).length < 8) :
    arrival (.up u) bytes s = .next (drivePins
      (markActivity b (count (.up u) .forwarded 1 (pushBay b ⟨f, .arrived (.up u)⟩ s)))) := by
  have joins : Tranquil s (place (.up u) (.bay b) f s) :=
    ((pushBay_tranquil s b _).trans (count_tranquil _ _ _ _)).trans (markActivity_tranquil _ b)
  rw [arrival_routed r, routeFrame_joins found Port.noConfusion (pathRefusal_bay_open ready) (decide_eq_true room),
    joins.settle h]
  rfl

theorem upArrival_joins_up {v : UpPort} (h : AtRest s) (r : RoutedArrival (.up u) bytes f s)
    (found : lookup f.dest s = some (.up v)) (other : v ≠ u) (live : s.fwd.up[upIdx v].linkUp = true)
    (room : s.fwd.up[upIdx v].normal.length < 32) : arrival (.up u) bytes s = .next
      (count (.up u) .forwarded 1 (pushNormal v ⟨f, .arrived (.up u)⟩ s)) := by
  have joins : Tranquil s (place (.up u) (.up v) f s) := (pushNormal_tranquil s v _).trans (count_tranquil _ _ _ _)
  have unlit : Unlit s (place (.up u) (.up v) f s) := (pushNormal_unlit s v _).trans (count_unlit _ _ _ _)
  rw [arrival_routed r, routeFrame_joins found (fun e => other (Port.up.inj e)) (pathRefusal_up_open live)
    (decide_eq_true room), joins.settle_unlit unlit h]
  rfl

theorem arrival_waits {p : Port} (h : AtRest s) (r : RoutedArrival p bytes f s) (found : lookup f.dest s = some q)
    (other : q ≠ p) (path : pathRefusal p q s = none) (full : queueRoom q s = false) :
    arrival p bytes s = .next (enterSlot p q f s) := by
  rw [arrival_routed r, routeFrame_waits found other path full,
    (enterSlot_tranquil s p q f).settle_unlit (enterSlot_unlit s p q f) h]

/-- The reasons of R72 for which a frame of an upstream port has no place to go. -/
theorem upArrival_refused {code : StatusCode} (h : AtRest s) (r : RoutedArrival (.up u) bytes f s)
    (reason : (lookup f.dest s = none ∧ code = .unknownDestination) ∨
      (∃ b : Bay, lookup f.dest s = some (.bay b) ∧ s.bays[b].state ≠ .online ∧ code = .bayNotReady) ∨
      (∃ v : UpPort, lookup f.dest s = some (.up v) ∧ v ≠ u ∧ s.fwd.up[upIdx v].linkUp = false ∧ code = .noPath)) :
    arrival (.up u) bytes s = .next (refuseFrame code (.up u) f s) := by
  have refused : routeFrame (.up u) f s = refuseFrame code (.up u) f s := by
    rcases reason with ⟨lost, rfl⟩ | ⟨b, found, busy, rfl⟩ | ⟨v, found, other, down, rfl⟩
    · exact routeFrame_unknown lost
    · exact routeFrame_closed found Port.noConfusion (pathRefusal_bay_closed busy)
    · exact routeFrame_closed found (fun e => other (Port.up.inj e)) (pathRefusal_up_closed down)
  rw [arrival_routed r, refused, refuseFrame_up_settles h]

end

/-- Settles O29: classification takes a frame to the one row that its tests leave, and a step that only moves frames ends
with the pins. -/
theorem routedFramesJoinOrAreRefused : Obligations.RoutedFramesJoinOrAreRefused := by
  refine ⟨fun p bytes s h => ⟨fun u hp held => ?_, fun b w hp on slot c hc => ?_, fun b hp off => ?_, fun outside on bad => ?_⟩,
    fun u bytes f q s h r found => ⟨fun own => ?_, fun b hq ready room => ?_, fun v hq other live room => ?_,
      fun other path full => ?_⟩,
    fun u bytes f code s h r reason => ⟨fun kind => ?_, fun kind room => ?_, fun kind full => ?_⟩⟩
  · subst hp
    change arrival (.up u) bytes s = _
    unfold arrival
    rw [if_pos held]
    rfl
  · subst hp
    have held : arrival (.bay b) bytes s = .next { s with fwd := { s.fwd with
        waiting := put s.fwd.waiting (portIdx (.bay b)) (some { w with behind := true }) } } := by
      have same : upd s.fwd.waiting (portIdx (.bay b)) (Option.map fun w => { w with behind := true }) =
          put s.fwd.waiting (portIdx (.bay b)) (some { w with behind := true }) := by
        unfold upd put
        rw [slot]
        rfl
      unfold arrival holdNext
      rw [if_pos (heldBack_of_waiting on slot), ← same]
    rcases List.mem_cons.1 hc with rfl | hc
    · exact held
    · obtain rfl := List.mem_singleton.1 hc
      exact held
  · subst hp
    change arrival (.bay b) bytes s = _
    have shut : arrive (.bay b) bytes s = count (.bay b) .discarded 1 s := if_neg (by rw [off]; exact Bool.false_ne_true)
    unfold arrival
    rw [heldBack_eq_false_of_shut off, shut, settle_of_atRest _ (count_atRest h _ _ _)]
    rfl
  · change arrival p bytes s = _
    rw [arrival_taken outside on, takeIn_bad bad, settle_of_atRest _ (count_atRest h _ _ _)]
  · change arrival (.up u) bytes s = _
    subst own
    rw [arrival_routed r, routeFrame_reflected found, reflected_settles h]
  · subst hq
    exact upArrival_joins_bay h r found ready room
  · subst hq
    exact upArrival_joins_up h r found other live room
  · exact arrival_waits h r found other path full
  · refine (upArrival_refused h r reason).trans ?_
    unfold refuseFrame
    rw [sendStatus_of_status kind]
  · refine (upArrival_refused h r reason).trans ?_
    obtain ⟨outside, -⟩ := r
    unfold refuseFrame
    rw [sendStatus_up_room (s := count (.up u) .discarded 1 s) kind (link_of_not_heldBack outside) room]
    rfl
  · refine (upArrival_refused h r reason).trans ?_
    unfold refuseFrame
    rw [sendStatus_up_full (s := count (.up u) .discarded 1 s) kind full]

end Sys2Proof.Machine

namespace Sys2Proof.Machine

/-! ### Frames from a bay port (R70, R72, R78, R80, R83, R85) -/

section
variable {b : Bay} {bytes : List Byte} {f : Frame} {code : StatusCode} {s : State}

/-- A frame of a bay port that is not for the switch, and no HELLO. -/
theorem routedArrival_bay (on : enabled b s = true) (outside : heldBack (.bay b) s = false)
    (parsed : parseFrame bytes = some f) (hello : f.kind ≠ .hello) (other : ¬(f.kind = .mgmtReq ∧ f.dest = switchAddr s)) :
    RoutedArrival (.bay b) bytes f s :=
  ⟨outside, fun _ e => Port.bay.inj e ▸ on, parsed, hello, other⟩

theorem arrival_classified {p : Port} (outside : heldBack p s = false) (on : ∀ c : Bay, p = .bay c → enabled c s = true)
    (parsed : parseFrame bytes = some f) : arrival p bytes s = .next (settle (classify p f s)) := by
  rw [arrival_taken outside on, takeIn_good parsed]

theorem classify_notManaged (hello : f.kind ≠ .hello) (own : f.kind = .mgmtReq ∧ f.dest = switchAddr s) :
    classify (.bay b) f s = refuseFrame .notManaged (.bay b) f s := by
  unfold classify
  rw [if_neg hello, if_pos own]

/-- The reasons for which a bay's frame has no place to go (R70, R72). -/
def BayRefusal (b : Bay) (f : Frame) (s : State) (code : StatusCode) : Prop :=
  ((f.kind = .mgmtReq ∧ f.dest = switchAddr s) ∧ code = .notManaged) ∨
    (¬(f.kind = .mgmtReq ∧ f.dest = switchAddr s) ∧ lookup f.dest s = none ∧ code = .unknownDestination) ∨
    (¬(f.kind = .mgmtReq ∧ f.dest = switchAddr s) ∧ (∃ c : Bay, c ≠ b ∧ lookup f.dest s = some (.bay c)) ∧ code = .noPath) ∨
    (¬(f.kind = .mgmtReq ∧ f.dest = switchAddr s) ∧
      (∃ u : UpPort, lookup f.dest s = some (.up u) ∧ s.fwd.up[upIdx u].linkUp = false) ∧ code = .noPath)

theorem classify_refused (hello : f.kind ≠ .hello) (reason : BayRefusal b f s code) :
    classify (.bay b) f s = refuseFrame code (.bay b) f s := by
  rcases reason with ⟨own, rfl⟩ | ⟨other, lost, rfl⟩ | ⟨other, ⟨c, ne, found⟩, rfl⟩ | ⟨other, ⟨u, found, down⟩, rfl⟩
  · exact classify_notManaged hello own
  · rw [classify_routed hello other, routeFrame_unknown lost]
  · rw [classify_routed hello other, routeFrame_closed found (fun e => ne (Port.bay.inj e)) rfl]
  · rw [classify_routed hello other, routeFrame_closed found Port.noConfusion (pathRefusal_up_closed down)]

theorem bayArrival_refused (h : AtRest s) (on : enabled b s = true) (outside : heldBack (.bay b) s = false)
    (parsed : parseFrame bytes = some f) (hello : f.kind ≠ .hello) (reason : BayRefusal b f s code) :
    arrival (.bay b) bytes s = .next (drivePins (sendStatus code (.bay b) f (count (.bay b) .discarded 1 s))) := by
  rw [arrival_classified outside (fun _ e => Port.bay.inj e ▸ on) parsed, classify_refused hello reason,
    (refuseFrame_tranquil code _ f s).settle h]
  rfl

/-- A frame that no rule acts on is not read (R85, R108). -/
theorem snoop_silent (silent : s.bays[b].state ≠ .online ∨
    ∀ profile, s.bays[b].profile = some profile → actingRule s.therm.rules profile f = none) : snoop b f s = s := by
  unfold snoop
  dsimp only
  split
  · next online =>
    have quiet := silent.resolve_left fun k => k online
    split
    · rfl
    · next profile known => rw [quiet profile known]
  · rfl

theorem place_silent {u : UpPort} (silent : s.bays[b].state ≠ .online ∨
    ∀ profile, s.bays[b].profile = some profile → actingRule s.therm.rules profile f = none) : place (.bay b) (.up u) f s =
      markActivity b (count (.bay b) .forwarded 1 (pushNormal u ⟨f, .arrived (.bay b)⟩ s)) :=
  snoop_silent (s := markActivity b (count (.bay b) .forwarded 1 (pushNormal u ⟨f, .arrived (.bay b)⟩ s))) silent

theorem bayArrival_joins {u : UpPort} (h : AtRest s) (r : RoutedArrival (.bay b) bytes f s)
    (found : lookup f.dest s = some (.up u)) (live : s.fwd.up[upIdx u].linkUp = true)
    (room : s.fwd.up[upIdx u].normal.length < 32) (silent : s.bays[b].state ≠ .online ∨
      ∀ profile, s.bays[b].profile = some profile → actingRule s.therm.rules profile f = none) :
    arrival (.bay b) bytes s = .next (drivePins
      (markActivity b (count (.bay b) .forwarded 1 (pushNormal u ⟨f, .arrived (.bay b)⟩ s)))) := by
  have joins : Tranquil s (markActivity b (count (.bay b) .forwarded 1 (pushNormal u ⟨f, .arrived (.bay b)⟩ s))) :=
    ((pushNormal_tranquil s u _).trans (count_tranquil _ _ _ _)).trans (markActivity_tranquil _ b)
  rw [arrival_routed r, routeFrame_joins found Port.noConfusion (pathRefusal_up_open live) (decide_eq_true room),
    place_silent silent, joins.settle h]

end

/-! ### Waits that run out (R80) -/

/-- A waiting frame whose time is up: its slot is free, and it is counted. -/
def overdue (p : Port) (w : Waiting) (s : State) : State := count p .timedOut 1 (clearSlot p (advance w.endsAt s))

section
variable {p : Port} {w : Waiting} {s : State}

theorem forwardTimeout_settles (h : AtRest s) (slot : s.fwd.waiting[portIdx p] = some w) :
    execForwardTimeout p s = .next (drivePins (sendStatus .forwardTimeout p w.frame (overdue p w s))) := by
  have ended : Tranquil s (overdue p w s) :=
    ((advance_tranquil s w.endsAt).trans (clearSlot_tranquil _ p)).trans (count_tranquil _ _ _ _)
  unfold execForwardTimeout
  rw [slot]
  exact congrArg _ ((ended.trans (sendStatus_tranquil _ _ _ _)).settle h)

end

/-- Settles O30: a bay's frame is taken to the one row that its tests leave; an activity mark is all that the end of the
step then follows. -/
theorem bayPortFramesAreRefusedOrWait : Obligations.BayPortFramesAreRefusedOrWait := by
  refine ⟨fun b bytes f s h on outside parsed hello => ⟨fun code reason => ⟨fun kind => ?_, fun kind room => ?_,
      fun kind full => ?_⟩, fun other found => ?_, fun u other found live => ⟨fun full => ?_, fun room silent => ?_⟩⟩,
    fun b w s h slot => ⟨fun kind => ?_, fun kind room => ?_, fun kind full => ?_⟩⟩
  · refine (bayArrival_refused h on outside parsed hello reason).trans ?_
    rw [sendStatus_of_status kind, (count_atRest h _ _ _).pins]
  · refine (bayArrival_refused h on outside parsed hello reason).trans ?_
    rw [sendStatus_bay_room (s := count (.bay b) .discarded 1 s) kind room]
    rfl
  · refine (bayArrival_refused h on outside parsed hello reason).trans ?_
    rw [sendStatus_bay_full (s := count (.bay b) .discarded 1 s) kind full, (count_atRest (count_atRest h _ _ _) _ _ _).pins]
  · refine (arrival_routed (routedArrival_bay on outside parsed hello other)).trans ?_
    rw [routeFrame_reflected found, reflected_settles h]
  · exact arrival_waits h (routedArrival_bay on outside parsed hello other) found Port.noConfusion (pathRefusal_up_open live)
      (decide_eq_false (Nat.not_lt.2 full))
  · exact bayArrival_joins h (routedArrival_bay on outside parsed hello other) found live room
      (silent.imp_left fun starting => by rw [starting]; exact BayState.noConfusion)
  · refine (forwardTimeout_settles h slot).trans ?_
    rw [sendStatus_of_status kind]
    rfl
  · refine (forwardTimeout_settles h slot).trans ?_
    rw [sendStatus_bay_room (s := overdue (.bay b) w s) kind room]
    rfl
  · refine (forwardTimeout_settles h slot).trans ?_
    rw [sendStatus_bay_full (s := overdue (.bay b) w s) kind full]
    rfl

end Sys2Proof.Machine

namespace Sys2Proof.Machine

/-! ### The end of a transmission, and the warm restart it may bring (R76, R178) -/

/-- The port has no frame in transmission any more. -/
def sentOff (p : Port) (s : State) : State :=
  { s with fwd := { s.fwd with transmitting := put s.fwd.transmitting (portIdx p) none } }

/-- What a warm restart leaves (R38, R89, R104, R178, R179, R192). -/
structure Restarted (s t : State) : Prop where
  bays : ∀ b : Bay, t.bays[b] = { s.bays[b] with hold := none } ∧ t.fwd.bayQueue[b] = []
  up : ∀ u : UpPort, t.fwd.up[upIdx u] = ⟨s.fwd.up[upIdx u].linkUp, [], [], 0⟩ ∧ t.mgmt.requests[upIdx u] = [] ∧
    t.ev.subscribed[upIdx u] = false ∧ t.ev.notices[upIdx u] = [] ∧ t.ev.overflow[upIdx u] = false
  ports : ∀ q : Port, t.fwd.transmitting[portIdx q] = none ∧ t.fwd.waiting[portIdx q] = none ∧
    ∀ k : CounterKind, (t.fwd.counters[portIdx q])[k.idx] = 0
  statics : ∀ i : Fin 30, t.route.statics[i] = none
  learned : t.route.learned = s.route.learned
  timeout : t.fwd.timeout = s.fwd.timeout
  endpoint : t.mgmt.lastServed = .u1 ∧ t.mgmt.held = none ∧ t.mgmt.restart = none
  blocks : t.power = s.power ∧ t.therm = s.therm ∧ t.cool = s.cool ∧ t.light = s.light ∧ t.line = s.line
  latches : t.ev.bayLatches = s.ev.bayLatches ∧ t.ev.enclLatches = s.ev.enclLatches ∧ t.ev.fanSets = s.ev.fanSets ∧
    t.ev.alert = s.ev.alert

section
variable {p : Port} {h : Held} {s : State}

theorem sentOff_tranquil (p : Port) (s : State) : Tranquil s (sentOff p s) := .of_up rfl rfl rfl rfl rfl rfl rfl rfl

theorem restartNow_restarted (s : State) : Restarted s (restartNow s) where
  bays b := ⟨getElem_tab _ b, getElem_tab _ b⟩
  up u := by
    have unit : (restartNow s).fwd.up[upIdx u] = { s.fwd.up[upIdx u] with normal := [], priority := [], arbiter := 0 } :=
      getElem_tab _ _
    exact ⟨unit, getElem_tab _ _, getElem_tab _ _, getElem_tab _ _, getElem_tab _ _⟩
  ports q := by
    refine ⟨getElem_tab _ _, getElem_tab _ _, fun k => ?_⟩
    simp only [restartNow, getElem_tab]
  statics i := getElem_tab _ i
  learned := by simp only [restartNow]
  timeout := by simp only [restartNow]
  endpoint := ⟨rfl, rfl, rfl⟩
  blocks := ⟨restartNow_power s, restartNow_therm s, restartNow_cool s, restartNow_light s, restartNow_line s⟩
  latches := by simp only [restartNow, and_self]

/-- After a warm restart the pins already show what they should. -/
theorem restart_settles (rest : AtRest s) : settle (restartNow (sentOff p s)) = restartNow (sentOff p s) := by
  have uneventful : Uneventful s (restartNow (sentOff p s)) := ((sentOff_tranquil p s).uneventful rest).restart
  have unlit : Unlit (sentOff p s) (restartNow (sentOff p s)) := ⟨restartNow_now _, restartNow_line _, restartNow_light _⟩
  have off : Unlit s (sentOff p s) := ⟨rfl, rfl, rfl⟩
  rw [uneventful.settle rest, (off.trans unlit).pins uneventful.state rest.pins]

theorem transmissionComplete_eq (sending : s.fwd.transmitting[portIdx p] = some h) : execTransmissionComplete p s =
    .next (settle (if h.origin = .restart && s.mgmt.restart.isSome then restartNow (sentOff p s) else sentOff p s)) := by
  unfold execTransmissionComplete
  rw [sending]
  rfl

theorem transmissionComplete_plain (rest : AtRest s) (sending : s.fwd.transmitting[portIdx p] = some h)
    (plain : h.origin ≠ .restart) : execTransmissionComplete p s = .next (sentOff p s) := by
  have unlit : Unlit s (sentOff p s) := ⟨rfl, rfl, rfl⟩
  rw [transmissionComplete_eq sending, if_neg (by rw [decide_eq_false plain]; exact Bool.false_ne_true),
    (sentOff_tranquil p s).settle_unlit unlit rest]

theorem transmissionComplete_restart (rest : AtRest s) (sending : s.fwd.transmitting[portIdx p] = some h)
    (named : h.origin = .restart) (pending : s.mgmt.restart.isSome = true) :
    execTransmissionComplete p s = .next (restartNow (sentOff p s)) := by
  rw [transmissionComplete_eq sending, if_pos (Bool.and_eq_true_iff.2 ⟨decide_eq_true named, pending⟩), restart_settles rest]

end

/-- Settles O37: a wait that runs out is answered as a refused frame is; the restart clears what it clears where nothing that
the end of a step looks at stands. -/
theorem waitsAndTransmissionsEnd : Obligations.WaitsAndTransmissionsEnd := by
  refine ⟨fun u w s rest slot live => ⟨fun kind => ?_, fun kind room => ?_, fun kind full => ?_⟩,
    fun p h s rest sending => ⟨fun plain => transmissionComplete_plain rest sending plain, fun named pending => ?_⟩⟩
  · refine (forwardTimeout_settles rest slot).trans ?_
    rw [sendStatus_of_status kind]
    rfl
  · refine (forwardTimeout_settles rest slot).trans ?_
    rw [sendStatus_up_room (s := overdue (.up u) w s) kind live room]
    rfl
  · refine (forwardTimeout_settles rest slot).trans ?_
    rw [sendStatus_up_full (s := overdue (.up u) w s) kind full]
    rfl
  · have restarted := restartNow_restarted (sentOff p s)
    obtain ⟨last, held, none⟩ := restarted.endpoint
    obtain ⟨power, therm, cool, light, line⟩ := restarted.blocks
    exact ⟨_, transmissionComplete_restart rest sending named pending, restarted.bays, restarted.up, restarted.ports,
      restarted.statics, restarted.learned, restarted.timeout, last, held, none, power, therm, cool, light, line,
      restarted.latches⟩

end Sys2Proof.Machine

namespace Sys2Proof.Machine

/-! ### The release of one port's notices ends a step (R189) -/

theorem releaseLoop_ev (n : Nat) (p : UpPort) (s : State) :
    (releaseLoop n p s).ev = { s.ev with notices := (releaseLoop n p s).ev.notices } := by
  induction n generalizing s with
  | zero => rfl
  | succ n ih =>
    rw [releaseLoop]
    split
    · split
      · rw [ih]
        rfl
      · rfl
    · rfl

theorem release_ev (p : UpPort) (s : State) : (release p s).ev = { s.ev with notices := (release p s).ev.notices } :=
  releaseLoop_ev _ p s

section
variable {p : UpPort} {s : State}

/-- Notices of one port alone may go. -/
theorem finish_of_others (others : ∀ q : UpPort, q ≠ p → releasable q s = false) (alert : driveAlert s = s)
    (pins : drivePins s = s) : finish s = release p s := by
  have released : release .u1 (release .u0 s) = release p s := by
    cases p with
    | u0 =>
      have other : releasable .u1 s = false := others .u1 UpPort.noConfusion
      rw [release_of_not_releasable .u1 _ (by rw [release_other UpPort.noConfusion, other])]
    | u1 => rw [release_of_not_releasable .u0 s (others .u0 UpPort.noConfusion)]
  have alert' : driveAlert (release p s) = release p s := by
    rw [driveAlert_eq_self_iff] at alert ⊢
    rw [release_ev, ← alert]
    exact alertCondition_congr (release_bays p s) (release_cool p s)
  have unlit : Unlit s (release p s) := ⟨release_now p s, release_line p s, release_light p s⟩
  unfold finish
  rw [released, alert', unlit.pins (fun b => by rw [release_bays]) pins]

/-! ### CONTROLLER_HELLO (R97, R98) -/

theorem helloAtUp_screened {f : Frame} (fails : f.words ≠ 2 ∨ helloRole f ≠ 2) :
    helloAtUp p f s = count (.up p) .discarded 1 s := by
  have screened : screenControllerHello f = none := by
    unfold screenControllerHello
    rcases fails with words | role
    · exact if_pos words
    · rw [if_pos role, ite_self]
  unfold helloAtUp
  rw [screened]

section
variable {f : Frame} {a : Addr} (screened : screenControllerHello f = some a)
include screened

theorem helloAtUp_known (known : learnedAddr s (.up p) = some a) : helloAtUp p f s = s := by
  unfold helloAtUp
  rw [screened]
  exact if_pos known

theorem helloAtUp_taken (other : learnedAddr s (.up p) ≠ some a) (taken : addressTaken (.up p) a s = true) :
    helloAtUp p f s = count (.up p) .discarded 1 s := by
  unfold helloAtUp
  rw [screened]
  exact (if_neg other).trans (if_pos taken)

theorem helloAtUp_learns (other : learnedAddr s (.up p) ≠ some a) (free : ¬addressTaken (.up p) a s = true) :
    helloAtUp p f s = learn (.up p) a s := by
  unfold helloAtUp
  rw [screened]
  exact (if_neg other).trans (if_neg free)

end

/-- A change of the route table and of latches owes no report and no attempt. -/
theorem settle_of_routes {u : State} (h : AtRest s) (bays : u.bays = s.bays) (power : u.power = s.power)
    (therm : u.therm = s.therm) (cool : u.cool = s.cool) : settle u = finish u := by
  have reported : Reported u := h.reported.of_zones therm cool (by rw [power]) (fun b => by rw [bays]) fun b => by rw [bays]
  exact settle_eq_finish u reported.hot reported.blocks (by rw [power]; exact h.asked)

/-- The state with a new address in the learned slot of an upstream port. -/
def withLearned (p : UpPort) (l : Learned) (s : State) : State :=
  { s with route := { s.route with learned := put s.route.learned (portIdx (.up p)) (some l) } }

/-- A new address in the learned slot of a port lets the notices of that port go. -/
theorem withLearned_settles (h : AtRest s) (l : Learned) : settle (withLearned p l s) = release p (withLearned p l s) := by
  have others (q : UpPort) (hq : q ≠ p) : releasable q (withLearned p l s) = false := by
    have still := h.notices q
    have slot : (withLearned p l s).route.learned[portIdx (.up q)] = s.route.learned[portIdx (.up q)] :=
      getElem_put_ne _ _ (portIdx_ne fun e => hq (Port.up.inj e))
    unfold releasable at still ⊢
    rw [slot]
    exact still
  have unlit : Unlit s (withLearned p l s) := ⟨rfl, rfl, rfl⟩
  have ended : settle (withLearned p l s) = finish (withLearned p l s) := settle_of_routes h rfl rfl rfl rfl
  rw [ended]
  refine finish_of_others others ?_ (unlit.pins (fun _ => rfl) h.pins)
  exact (driveAlert_eq_self_iff (withLearned p l s)).2 ((driveAlert_eq_self_iff s).1 h.alert)

/-- A static slot that holds the address keeps every other slot from it, and the switch (R91). -/
theorem RoutesDistinct.free_of_static {i : Fin 30} {q : Port} {a : Addr} (hd : RoutesDistinct s)
    (held : s.route.statics[i] = some ⟨a, q⟩) : (∀ x : Port, learnedAddr s x ≠ some a) ∧ ¬addressTaken (.up p) a s = true := by
  have here : staticAddr s i = some a := by
    unfold staticAddr
    rw [held]
    rfl
  have unlearned (x : Port) : learnedAddr s x ≠ some a := fun k => hd.apart x i a k here
  refine ⟨unlearned, fun taken => ?_⟩
  rcases addressTaken_iff.1 taken with own | ⟨x, -, k⟩
  · exact hd.staticNotSwitch i (own ▸ here)
  · exact unlearned x k

/-! ### MANAGEMENT_INTAKE (R71, R164) -/

theorem classify_hello {f : Frame} (hello : f.kind = .hello) : classify (.up p) f s = helloAtUp p f s := if_pos hello

theorem classify_intake {f : Frame} (kind : f.kind = .mgmtReq) (own : f.dest = switchAddr s) :
    classify (.up p) f s = intake p f s := by
  unfold classify
  rw [if_neg (by rw [kind]; exact FrameKind.noConfusion), if_pos ⟨kind, own⟩]

theorem intake_room {f : Frame} (room : (s.mgmt.requests[upIdx p]).length < 4) : intake p f s = pushRequest p f s := if_pos room

theorem intake_full {f : Frame} (full : 4 ≤ (s.mgmt.requests[upIdx p]).length) :
    intake p f s = refuseFrame .mgmtBusy (.up p) f s := if_neg (Nat.not_lt.2 full)

/-- A frame that an upstream port takes in. -/
theorem upArrival_classified {bytes : List Byte} {f : Frame} (outside : heldBack (.up p) s = false)
    (parsed : parseFrame bytes = some f) : arrival (.up p) bytes s = .next (settle (classify (.up p) f s)) :=
  arrival_classified outside (fun _ e => Port.noConfusion e) parsed

theorem busy_settles {bytes : List Byte} {f : Frame} (h : AtRest s) (outside : heldBack (.up p) s = false)
    (parsed : parseFrame bytes = some f) (kind : f.kind = .mgmtReq) (own : f.dest = switchAddr s)
    (full : 4 ≤ (s.mgmt.requests[upIdx p]).length) :
    arrival (.up p) bytes s = .next (refuseFrame .mgmtBusy (.up p) f s) := by
  rw [upArrival_classified outside parsed, classify_intake kind own, intake_full full, refuseFrame_up_settles h]

end

/-- Settles O34: the screen and the address test leave one row; a new address is learned, and the notices it lets go are those
of its own port. -/
theorem controllerHellosAndRequestsAreTaken : Obligations.ControllerHellosAndRequestsAreTaken := by
  refine ⟨fun p bytes f s h outside parsed hello fails => ?_,
    fun p bytes f a s h outside parsed hello screened => ⟨fun known => ?_, fun other apart notSwitch unheld => ?_,
      fun other taken => ?_, fun i q hd held => ?_⟩,
    fun p bytes f s h outside parsed kind own => ⟨fun room => ?_, fun full room => ?_, fun full crowded => ?_⟩⟩
  · refine (upArrival_classified outside parsed).trans ?_
    rw [classify_hello hello, helloAtUp_screened fails, settle_of_atRest _ (count_atRest h _ _ _)]
  · refine (upArrival_classified outside parsed).trans ?_
    rw [classify_hello hello, helloAtUp_known screened known, settle_of_atRest s h]
  · have free : ¬addressTaken (.up p) a s = true := fun taken =>
      (addressTaken_iff.1 taken).elim notSwitch fun ⟨q, ne, k⟩ => apart q ne k
    refine (upArrival_classified outside parsed).trans ?_
    rw [classify_hello hello, helloAtUp_learns screened other free, learn_free (staticHolding_none unheld)]
    exact congrArg _ (withLearned_settles h ⟨a, none⟩)
  · refine (upArrival_classified outside parsed).trans ?_
    rw [classify_hello hello, helloAtUp_taken screened other (addressTaken_iff.2 taken),
      settle_of_atRest _ (count_atRest h _ _ _)]
  · obtain ⟨unlearned, free⟩ := hd.free_of_static (p := p) held
    refine (upArrival_classified outside parsed).trans ?_
    rw [classify_hello hello, helloAtUp_learns screened (unlearned _) free, learn_displaces (staticHolding_eq hd held)]
    exact congrArg _ (settle_of_routes h (latchEncl_bays _ _ _) (latchEncl_power _ _ _) (latchEncl_therm _ _ _)
      (latchEncl_cool _ _ _))
  · refine (upArrival_classified outside parsed).trans ?_
    rw [classify_intake kind own, intake_room room, settle_of_atRest _ (atRest_pushRequest p f s h)]
    rfl
  · refine (busy_settles h outside parsed kind own full).trans ?_
    have answer : f.kind ≠ .status := by rw [kind]; exact FrameKind.noConfusion
    unfold refuseFrame
    rw [sendStatus_up_room (s := count (.up p) .discarded 1 s) answer (link_of_not_heldBack outside) room]
    rfl
  · refine (busy_settles h outside parsed kind own full).trans ?_
    have answer : f.kind ≠ .status := by rw [kind]; exact FrameKind.noConfusion
    unfold refuseFrame
    rw [sendStatus_up_full (s := count (.up p) .discarded 1 s) answer crowded]

end Sys2Proof.Machine

namespace Sys2Proof.Machine

/-! ### The order of the waits (R79) -/

/-- Waits in the order in which they started. -/
def InOrder (l : List (Port × Waiting)) : Prop := l.Pairwise fun x y => x.2.seq ≤ y.2.seq

theorem insertWaiting_inOrder (x : Port × Waiting) (l : List (Port × Waiting)) (h : InOrder l) : InOrder (insertWaiting x l) := by
  induction l with
  | nil => exact List.pairwise_singleton _ x
  | cons y l ih =>
    obtain ⟨below, rest⟩ := List.pairwise_cons.1 h
    unfold insertWaiting
    split
    · next earlier =>
      refine List.pairwise_cons.2 ⟨fun z hz => ?_, ih rest⟩
      rcases mem_insertWaiting hz with rfl | hz
      · exact earlier
      · exact below z hz
    · next later =>
      refine List.pairwise_cons.2 ⟨fun z hz => ?_, h⟩
      have first : x.2.seq ≤ y.2.seq := Nat.le_of_lt (Nat.not_le.1 later)
      rcases List.mem_cons.1 hz with rfl | hz
      · exact first
      · exact Nat.le_trans first (below z hz)

theorem waitersFor_inOrder (q : Port) (s : State) : InOrder (waitersFor q s) := by
  have all (l acc : List (Port × Waiting)) (h : InOrder acc) : InOrder (l.foldl (fun acc x => insertWaiting x acc) acc) := by
    induction l generalizing acc with
    | nil => exact h
    | cons x l ih => exact ih _ (insertWaiting_inOrder x acc h)
  exact all _ [] List.Pairwise.nil

section
variable {q p : Port} {w : Waiting} {s t u : State}

/-- The wait that started first stands at the head. -/
theorem waitersFor_of_first (h : FirstWaiter q p w s) : ∃ l, waitersFor q s = (p, w) :: l := by
  obtain ⟨slot, target, first⟩ := h
  have here : (p, w) ∈ waitersFor q s := mem_waitersFor_iff.2 ⟨slot, target⟩
  have order := waitersFor_inOrder q s
  cases waits : waitersFor q s with
  | nil => rw [waits] at here; cases here
  | cons x l =>
    obtain ⟨p', w'⟩ := x
    rw [waits] at here order
    obtain ⟨slot', target'⟩ : s.fwd.waiting[portIdx p'] = some w' ∧ w'.target = q :=
      mem_waitersFor_iff.1 (waits ▸ List.mem_cons_self)
    by_cases same : p' = p
    · subst same
      obtain rfl : w' = w := Option.some.inj (slot'.symm.trans slot)
      exact ⟨l, rfl⟩
    · have later := first p' w' same slot' target'
      rcases List.mem_cons.1 here with e | tail
      · exact absurd (congrArg Prod.fst e).symm same
      · have sooner : w'.seq ≤ w.seq := (List.pairwise_cons.1 order).1 (p, w) tail
        exact absurd later (Nat.not_lt.2 sooner)

theorem waitersFor_of_none (h : ∀ (p : Port) (w : Waiting), s.fwd.waiting[portIdx p] = some w → w.target ≠ q) :
    waitersFor q s = [] := by
  refine List.eq_nil_iff_forall_not_mem.2 fun x hx => ?_
  obtain ⟨slot, target⟩ := mem_waitersFor_iff.1 hx
  exact h x.1 x.2 slot target

theorem waitersFor_congr (h : u.fwd.waiting = s.fwd.waiting) : waitersFor q u = waitersFor q s := by
  unfold waitersFor
  rw [h]

theorem fillPlace_first {l : List (Port × Waiting)} (h : waitersFor q s = (p, w) :: l) :
    fillPlace q s = place p q w.frame (clearSlot p s) := by
  unfold fillPlace
  rw [h]

theorem fillPlace_idle (h : waitersFor q s = []) : fillPlace q s = s := by
  unfold fillPlace
  rw [h]

/-! ### A frame that joins, in the forwarding engine -/

theorem place_fwd (p q : Port) (f : Frame) (s : State) :
    (place p q f s).fwd = (count p .forwarded 1 (joined p q f s)).fwd := by
  unfold place
  cases q with
  | bay b => exact markActivity_fwd b _
  | up u =>
    cases p with
    | bay a => exact (snoop_fwd a f _).trans (markActivity_fwd a _)
    | up v => rfl

/-- What joining a queue leaves of the forwarding engine. -/
theorem joined_rest (p q : Port) (f : Frame) (s : State) : (joined p q f s).fwd.waiting = s.fwd.waiting ∧
    (joined p q f s).fwd.counters = s.fwd.counters ∧ (joined p q f s).fwd.transmitting = s.fwd.transmitting := by
  cases q <;> exact ⟨rfl, rfl, rfl⟩

theorem joined_up (p q : Port) (f : Frame) (s : State) (u : UpPort) :
    (joined p q f s).fwd.up[upIdx u].priority = s.fwd.up[upIdx u].priority ∧
      (joined p q f s).fwd.up[upIdx u].arbiter = s.fwd.up[upIdx u].arbiter := by
  cases q with
  | bay b => exact ⟨rfl, rfl⟩
  | up v =>
    unfold joined
    dsimp only
    rw [pushNormal_up]
    by_cases same : u = v
    · subst same
      rw [getElem_upd_same]
      exact ⟨rfl, rfl⟩
    · rw [getElem_upd_ne _ _ (upIdx_ne same)]
      exact ⟨rfl, rfl⟩

theorem Extends.lane (h : Extends s t) (q : Port) : (portAt q t).lane q = (portAt q s).lane q := by
  obtain ⟨fwd, up⟩ := h
  cases q with
  | bay b =>
    have queues : t.fwd.bayQueue = s.fwd.bayQueue := by rw [fwd]
    exact congrArg (fun x => x[b]) queues
  | up u =>
    obtain ⟨rest, grown⟩ := up u
    exact (congrArg UpUnit.normal grown).trans rfl

theorem Extends.arbiter (h : Extends s t) (u : UpPort) : t.fwd.up[upIdx u].arbiter = s.fwd.up[upIdx u].arbiter := by
  obtain ⟨rest, grown⟩ := h.up u
  rw [grown]

theorem Extends.grows (h : Extends s t) : Grows s t := fun u => by
  obtain ⟨rest, grown⟩ := h.up u
  rw [grown]
  exact List.prefix_append _ _

/-! ### A transmission from a normal or an egress queue (R76, R77, R79) -/

/-- The front of the queue that frames for the port join goes into transmission. -/
def opened (q : Port) (h : Held) (rest : List Held) (s : State) : State :=
  setTransmitting q h (match q with
    | .up u => modUp u (fun x => { x with normal := rest, arbiter := 0 }) s
    | .bay b => { s with fwd := { s.fwd with bayQueue := put s.fwd.bayQueue b rest } })

/-- The port may start, and the arbiter's choice is the queue that frames for it join (R77). -/
def StartsLane (q : Port) (h : Held) (rest : List Held) (s : State) : Prop :=
  (∃ b : Bay, q = .bay b ∧ enabled b s = true ∧ s.fwd.bayQueue[b] = h :: rest) ∨
    ∃ u : UpPort, q = .up u ∧ s.fwd.up[upIdx u].linkUp = true ∧ s.fwd.up[upIdx u].normal = h :: rest ∧
      (s.fwd.up[upIdx u].priority = [] ∨ 4 ≤ s.fwd.up[upIdx u].arbiter)

section
variable {h : Held} {rest : List Held}

theorem startUp_normal {v : UpPort} (live : s.fwd.up[upIdx v].linkUp = true) (front : s.fwd.up[upIdx v].normal = h :: rest)
    (choice : s.fwd.up[upIdx v].priority = [] ∨ 4 ≤ s.fwd.up[upIdx v].arbiter) :
    startUp v s = some (startNormal v h rest s) := by
  unfold startUp
  dsimp only
  rw [if_pos live, front]
  cases waits : s.fwd.up[upIdx v].priority with
  | nil => rfl
  | cons x l =>
    have weary : ¬s.fwd.up[upIdx v].arbiter < 4 := Nat.not_lt.2 (choice.resolve_left fun e => by rw [waits] at e; cases e)
    exact if_neg weary

theorem startBay_front {b : Bay} (on : enabled b s = true) (front : s.fwd.bayQueue[b] = h :: rest) :
    startBay b s = some (fillPlace (.bay b) (opened (.bay b) h rest s)) := by
  unfold startBay
  rw [if_pos on, front]
  rfl

theorem transmissionStart_lane (idle : s.fwd.transmitting[portIdx q] = none) (starts : StartsLane q h rest s) :
    execTransmissionStart q s = .next (settle (fillPlace q (opened q h rest s))) := by
  have started : startTransmission q s = some (fillPlace q (opened q h rest s)) := by
    unfold startTransmission
    rw [idle]
    rcases starts with ⟨b, rfl, on, front⟩ | ⟨v, rfl, live, front, choice⟩
    · exact startBay_front on front
    · exact startUp_normal live front choice
  unfold execTransmissionStart
  rw [started]

theorem opened_rest (q : Port) (h : Held) (rest : List Held) (s : State) : (opened q h rest s).fwd.waiting = s.fwd.waiting ∧
    (opened q h rest s).fwd.counters = s.fwd.counters ∧
    (opened q h rest s).fwd.transmitting = put s.fwd.transmitting (portIdx q) (some h) := by
  cases q <;> exact ⟨rfl, rfl, rfl⟩

theorem opened_lane (q : Port) (h : Held) (rest : List Held) (s : State) : (portAt q (opened q h rest s)).lane q = rest := by
  cases q with
  | bay b => exact getElem_put_same _ _ _
  | up v =>
    have unit : (opened (.up v) h rest s).fwd.up[upIdx v] = { s.fwd.up[upIdx v] with normal := rest, arbiter := 0 } :=
      getElem_upd_same _ _ _
    exact congrArg UpUnit.normal unit

theorem opened_priority (q : Port) (h : Held) (rest : List Held) (s : State) (v : UpPort) :
    (opened q h rest s).fwd.up[upIdx v].priority = s.fwd.up[upIdx v].priority := by
  cases q with
  | bay b => rfl
  | up x =>
    by_cases same : v = x
    · subst same
      have unit : (opened (.up v) h rest s).fwd.up[upIdx v] = { s.fwd.up[upIdx v] with normal := rest, arbiter := 0 } :=
        getElem_upd_same _ _ _
      exact (congrArg UpUnit.priority unit).trans rfl
    · have unit : (opened (.up x) h rest s).fwd.up[upIdx v] = s.fwd.up[upIdx v] := getElem_upd_ne _ _ (upIdx_ne same)
      exact congrArg UpUnit.priority unit

theorem opened_arbiter (v : UpPort) (h : Held) (rest : List Held) (s : State) :
    (opened (.up v) h rest s).fwd.up[upIdx v].arbiter = 0 := by
  have unit : (opened (.up v) h rest s).fwd.up[upIdx v] = { s.fwd.up[upIdx v] with normal := rest, arbiter := 0 } :=
    getElem_upd_same _ _ _
  exact congrArg UpUnit.arbiter unit

/-- A started transmission: the frame, its queue with what joined it, and what else of the part may have changed. -/
structure LaneStarted (q : Port) (h : Held) (lane : List Held) (s t : State) : Prop where
  transmitting : t.fwd.transmitting = put s.fwd.transmitting (portIdx q) (some h)
  lane : (portAt q t).lane q = lane
  arbiter : ∀ v : UpPort, q = .up v → t.fwd.up[upIdx v].arbiter = 0
  priority : Grows s t
  route : t.route = s.route
  cool : t.cool = s.cool

/-- No frame waits for the place. -/
theorem laneStarted_idle (none : waitersFor q s = []) :
    LaneStarted q h rest s (settle (fillPlace q (opened q h rest s))) ∧
      (settle (fillPlace q (opened q h rest s))).fwd.waiting = s.fwd.waiting ∧
      (settle (fillPlace q (opened q h rest s))).fwd.counters = s.fwd.counters := by
  obtain ⟨waiting, counters, transmitting⟩ := opened_rest q h rest s
  have ends := settle_extends (opened q h rest s)
  rw [fillPlace_idle ((waitersFor_congr waiting).trans none)]
  refine ⟨⟨?_, ?_, fun v hv => ?_, fun v => ?_, ?_, ?_⟩, ?_, ?_⟩
  · rw [ends.fwd]; exact transmitting
  · rw [ends.lane, opened_lane]
  · subst hv
    rw [ends.arbiter, opened_arbiter]
  · have grown := ends.grows v
    rw [opened_priority] at grown
    exact grown
  · rw [settle_route]; cases q <;> rfl
  · rw [settle_cool]; cases q <;> rfl
  · rw [ends.fwd]; exact waiting
  · rw [ends.fwd]; exact counters

/-- The frame whose wait started first takes the place. -/
theorem laneStarted_first {l : List (Port × Waiting)} (first : waitersFor q s = (p, w) :: l) :
    LaneStarted q h (rest ++ [⟨w.frame, .arrived p⟩]) s (settle (fillPlace q (opened q h rest s))) ∧
      (settle (fillPlace q (opened q h rest s))).fwd.waiting = put s.fwd.waiting (portIdx p) none ∧
      (settle (fillPlace q (opened q h rest s))).fwd.counters = (count p .forwarded 1 s).fwd.counters := by
  obtain ⟨waiting, counters, transmitting⟩ := opened_rest q h rest s
  have filled := fillPlace_first ((waitersFor_congr waiting).trans first)
  have ends := settle_extends (fillPlace q (opened q h rest s))
  have fwd := place_fwd p q w.frame (clearSlot p (opened q h rest s))
  rw [← filled] at fwd
  obtain ⟨waiting', counters', transmitting'⟩ := joined_rest p q w.frame (clearSlot p (opened q h rest s))
  have up (v : UpPort) := joined_up p q w.frame (clearSlot p (opened q h rest s)) v
  refine ⟨⟨?_, ?_, fun v hv => ?_, fun v => ?_, ?_, ?_⟩, ?_, ?_⟩
  · rw [ends.fwd, fwd]
    exact transmitting'.trans transmitting
  · rw [ends.lane]
    have same : (portAt q (fillPlace q (opened q h rest s))).lane q =
        (portAt q (joined p q w.frame (clearSlot p (opened q h rest s)))).lane q := by
      cases q <;> (unfold portAt PortState.lane; dsimp only; rw [fwd]; rfl)
    rw [same, portAt_joined_same, PortState.lane_setLane, lane_clearSlot, opened_lane]
  · subst hv
    rw [ends.arbiter, fwd]
    exact (up v).2.trans (opened_arbiter v h rest s)
  · have grown := ends.grows v
    rw [fwd] at grown
    have before : (count p .forwarded 1 (joined p q w.frame (clearSlot p (opened q h rest s)))).fwd.up[upIdx v].priority =
        s.fwd.up[upIdx v].priority := (up v).1.trans (opened_priority q h rest s v)
    rw [before] at grown
    exact grown
  · rw [settle_route, filled, place_route]; cases q <;> rfl
  · rw [settle_cool, filled, place_cool]; cases q <;> rfl
  · rw [ends.fwd, fwd]
    refine waiting'.trans ?_
    rw [clearSlot_waiting, waiting]
  · rw [ends.fwd, fwd]
    have same : (joined p q w.frame (clearSlot p (opened q h rest s))).fwd.counters = s.fwd.counters :=
      counters'.trans counters
    have counted : (count p .forwarded 1 (joined p q w.frame (clearSlot p (opened q h rest s)))).fwd.counters =
        (count p .forwarded 1 s).fwd.counters := by
      unfold count
      dsimp only
      rw [same]
    exact counted

end

end

end Sys2Proof.Machine

namespace Sys2Proof.Machine

/-! ### A transmission from a priority queue (R76, R77, R82, R170, R189, R190) -/

/-- Only the forwarding engine, the endpoint and the overflow flags change. -/
def Sends (s t : State) : Prop :=
  t = { s with fwd := t.fwd, mgmt := t.mgmt, ev := { s.ev with overflow := t.ev.overflow } }

section
variable {s t u : State}

theorem Sends.trans (h : Sends s t) (k : Sends t u) : Sends s u := by
  unfold Sends at h k ⊢
  rw [h] at k
  exact k

theorem Sends.now (h : Sends s t) : t.now = s.now := (congrArg State.now h).trans rfl
theorem Sends.strap (h : Sends s t) : t.addrStrap = s.addrStrap := (congrArg State.addrStrap h).trans rfl
theorem Sends.line (h : Sends s t) : t.line = s.line := (congrArg State.line h).trans rfl
theorem Sends.bays (h : Sends s t) : t.bays = s.bays := (congrArg State.bays h).trans rfl
theorem Sends.power (h : Sends s t) : t.power = s.power := (congrArg State.power h).trans rfl
theorem Sends.route (h : Sends s t) : t.route = s.route := (congrArg State.route h).trans rfl
theorem Sends.therm (h : Sends s t) : t.therm = s.therm := (congrArg State.therm h).trans rfl
theorem Sends.cool (h : Sends s t) : t.cool = s.cool := (congrArg State.cool h).trans rfl
theorem Sends.light (h : Sends s t) : t.light = s.light := (congrArg State.light h).trans rfl
theorem Sends.notices (h : Sends s t) : t.ev.notices = s.ev.notices :=
  (congrArg (fun x : State => x.ev.notices) h).trans rfl
theorem Sends.alert (h : Sends s t) : t.ev.alert = s.ev.alert := (congrArg (fun x : State => x.ev.alert) h).trans rfl

theorem completeNotice_sends (p : UpPort) (h : Held) (s : State) : Sends s (completeNotice p h s).2 := by
  unfold completeNotice
  split <;> rfl

theorem setPhase_sends (x : RestartPhase) (h : Held) (s : State) : Sends s (setPhase x h s) := by
  unfold setPhase
  split <;> rfl

theorem placeHeld_sends (p : UpPort) (s : State) : Sends s (placeHeld p s) := by
  unfold placeHeld
  split
  · rfl
  · split
    · exact Sends.trans (t := pushPriority p _ { s with mgmt := { s.mgmt with held := none } }) rfl (setPhase_sends _ _ _)
    · rfl

theorem setPhase_held (x : RestartPhase) (h : Held) (s : State) : (setPhase x h s).mgmt.held = s.mgmt.held := by
  unfold setPhase
  split <;> rfl

theorem setPhase_ev (x : RestartPhase) (h : Held) (s : State) : (setPhase x h s).ev = s.ev := by
  unfold setPhase
  split <;> rfl

theorem completeNotice_held (p : UpPort) (h : Held) (s : State) : (completeNotice p h s).2.mgmt = s.mgmt := by
  unfold completeNotice
  split <;> rfl

end

/-- The front of the priority queue leaves it. -/
def popped (p : UpPort) (rest : List Held) (arb : Nat) (s : State) : State :=
  modUp p (fun x => { x with priority := rest, arbiter := arb }) s

/-- The frame that goes into transmission: a NOTICE with its overflow item (R190). -/
def outgoing (p : UpPort) (h : Held) (s : State) : Held :=
  if h.frame.kind = .notice then ⟨withOverflow h.frame s.ev.overflow[upIdx p], h.origin⟩ else h

/-- A priority start before its place is filled. -/
def begun (p : UpPort) (h : Held) (rest : List Held) (arb : Nat) (s : State) : State :=
  setPhase .transmitting (completeNotice p h (popped p rest arb s)).1
    (setTransmitting (.up p) (completeNotice p h (popped p rest arb s)).1 (completeNotice p h (popped p rest arb s)).2)

section
variable {p : UpPort} {h : Held} {rest : List Held} {arb : Nat} {s : State}

theorem startPriority_eq : startPriority p h rest arb s = placeHeld p (begun p h rest arb s) := rfl

theorem completeNotice_outgoing (p : UpPort) (h : Held) (rest : List Held) (arb : Nat) (s : State) :
    (completeNotice p h (popped p rest arb s)).1 = outgoing p h s := by
  unfold completeNotice outgoing
  split <;> rfl

theorem begun_sends (p : UpPort) (h : Held) (rest : List Held) (arb : Nat) (s : State) : Sends s (begun p h rest arb s) := by
  have out : Sends s (popped p rest arb s) := rfl
  have sending (x : Held) (u : State) : Sends u (setTransmitting (.up p) x u) := rfl
  exact ((out.trans (completeNotice_sends p h _)).trans (sending _ _)).trans (setPhase_sends _ _ _)

theorem begun_fwd (p : UpPort) (h : Held) (rest : List Held) (arb : Nat) (s : State) :
    (begun p h rest arb s).fwd = { (popped p rest arb s).fwd with
      transmitting := put s.fwd.transmitting (portIdx (.up p)) (some (outgoing p h s)) } := by
  unfold begun
  rw [setPhase_fwd, completeNotice_outgoing]
  unfold setTransmitting
  dsimp only
  rw [completeNotice_fwd]
  rfl

theorem begun_held (p : UpPort) (h : Held) (rest : List Held) (arb : Nat) (s : State) :
    (begun p h rest arb s).mgmt.held = s.mgmt.held := by
  unfold begun
  rw [setPhase_held, setTransmitting_mgmt, completeNotice_held]
  rfl

theorem begun_overflow (p : UpPort) (h : Held) (rest : List Held) (arb : Nat) (s : State) :
    (begun p h rest arb s).ev.overflow =
      if h.frame.kind = .notice then put s.ev.overflow (upIdx p) false else s.ev.overflow := by
  unfold begun
  rw [setPhase_ev, setTransmitting_ev]
  unfold completeNotice
  split <;> rfl

/-- The port after its front left, and what joined behind. -/
theorem begun_unit (p : UpPort) (h : Held) (rest : List Held) (arb : Nat) (s : State) :
    (begun p h rest arb s).fwd.up[upIdx p] = { s.fwd.up[upIdx p] with priority := rest, arbiter := arb } := by
  rw [begun_fwd]
  exact getElem_upd_same _ _ _

theorem begun_other {q : UpPort} (hq : q ≠ p) : (begun p h rest arb s).fwd.up[upIdx q] = s.fwd.up[upIdx q] := by
  rw [begun_fwd]
  exact getElem_upd_ne _ _ (upIdx_ne hq)

/-! ### The place is filled -/

theorem holdsFor_congr {t : State} (held : t.mgmt.held = s.mgmt.held) : holdsFor p t = holdsFor p s := by
  unfold holdsFor
  rw [held]

theorem placeHeld_free (free : holdsFor p s = false) : placeHeld p s = s := by
  unfold holdsFor at free
  unfold placeHeld
  cases held : s.mgmt.held with
  | none => rfl
  | some x =>
    rw [held] at free
    have other : decide (x.port = p) = false := free
    exact if_neg (by rw [other, Bool.false_and]; exact Bool.false_ne_true)

theorem placeHeld_full (full : priorityRoom p s = false) : placeHeld p s = s := by
  unfold placeHeld
  split
  · rfl
  · exact if_neg (by rw [full, Bool.and_false]; exact Bool.false_ne_true)

theorem placeHeld_takes {r : Held} (held : s.mgmt.held = some ⟨p, r⟩) (room : priorityRoom p s = true) :
    placeHeld p s = setPhase .queued r (pushPriority p r { s with mgmt := { s.mgmt with held := none } }) := by
  unfold placeHeld
  rw [held]
  exact if_pos (by rw [room, Bool.and_true]; exact decide_eq_true rfl)

/-- The place is filled by the held response, or stays. -/
theorem placeHeld_cases (p : UpPort) (s : State) : placeHeld p s = s ∨ ∃ r : Held, s.mgmt.held = some ⟨p, r⟩ ∧
    placeHeld p s = setPhase .queued r (pushPriority p r { s with mgmt := { s.mgmt with held := none } }) := by
  by_cases free : holdsFor p s = false
  · exact .inl (placeHeld_free free)
  · by_cases full : priorityRoom p s = false
    · exact .inl (placeHeld_full full)
    · cases held : s.mgmt.held with
      | none =>
        refine absurd ?_ free
        unfold holdsFor
        rw [held]
      | some x =>
        obtain ⟨q, r⟩ := x
        unfold holdsFor at free
        rw [held] at free
        obtain rfl : q = p := of_decide_eq_true (Bool.not_eq_false _ ▸ free)
        exact .inr ⟨r, rfl, placeHeld_takes held (Bool.not_eq_false _ ▸ full)⟩

theorem placeHeld_other {q : UpPort} (hq : q ≠ p) : (placeHeld p s).fwd.up[upIdx q] = s.fwd.up[upIdx q] ∧
    holdsFor q (placeHeld p s) = holdsFor q s := by
  rcases placeHeld_cases p s with e | ⟨r, held, e⟩
  · rw [e]
    exact ⟨rfl, rfl⟩
  · rw [e, setPhase_fwd]
    refine ⟨getElem_upd_ne _ _ (upIdx_ne hq), ?_⟩
    have before : holdsFor q s = false := by
      unfold holdsFor
      rw [held]
      exact decide_eq_false (Ne.symm hq)
    rw [before]
    unfold holdsFor
    rw [setPhase_held]
    rfl

theorem placeHeld_extends (p : UpPort) (s : State) : Extends s (placeHeld p s) := by
  rcases placeHeld_cases p s with e | ⟨r, -, e⟩
  · rw [e]
    exact .of_eq rfl
  · rw [e]
    have joined := pushPriority_extends p r { s with mgmt := { s.mgmt with held := none } }
    exact Extends.trans (t := pushPriority p r { s with mgmt := { s.mgmt with held := none } }) ⟨joined.fwd, joined.up⟩
      (.of_eq (setPhase_fwd _ _ _))

/-! ### The end of a priority start -/

/-- After a priority start the notices of that port alone may go. -/
theorem startPriority_settles (k : AtRest s) (p : UpPort) (h : Held) (rest : List Held) (arb : Nat) :
    settle (startPriority p h rest arb s) = release p (startPriority p h rest arb s) := by
  have sends : Sends s (startPriority p h rest arb s) := (begun_sends p h rest arb s).trans (placeHeld_sends p _)
  have unlit : Unlit s (startPriority p h rest arb s) := ⟨sends.now, sends.line, sends.light⟩
  have others (q : UpPort) (hq : q ≠ p) : releasable q (startPriority p h rest arb s) = false := by
    obtain ⟨unit, holds⟩ := placeHeld_other (s := begun p h rest arb s) hq
    have same : releasable q (startPriority p h rest arb s) = releasable q s := by
      unfold releasable priorityRoom
      rw [sends.notices, sends.route, startPriority_eq, unit, holds, begun_other hq, holdsFor_congr (begun_held p h rest arb s)]
    rw [same]
    exact k.notices q
  have alert : driveAlert (startPriority p h rest arb s) = startPriority p h rest arb s := by
    refine (driveAlert_eq_self_iff _).2 ?_
    rw [sends.alert, ← (driveAlert_eq_self_iff s).1 k.alert]
    exact alertCondition_congr sends.bays sends.cool
  rw [settle_of_routes k sends.bays sends.power sends.therm sends.cool]
  exact finish_of_others others alert (unlit.pins (fun b => by rw [sends.bays]) k.pins)

/-- The arbiter chooses the priority queue (R77). -/
theorem transmissionStart_priority (k : AtRest s) (idle : s.fwd.transmitting[portIdx (.up p)] = none)
    (live : s.fwd.up[upIdx p].linkUp = true) (front : s.fwd.up[upIdx p].priority = h :: rest)
    (choice : s.fwd.up[upIdx p].normal = [] ∨ s.fwd.up[upIdx p].arbiter < 4) : execTransmissionStart (.up p) s =
      .next (release p (startPriority p h rest
        (if s.fwd.up[upIdx p].normal = [] then 0 else s.fwd.up[upIdx p].arbiter + 1) s)) := by
  have started : startTransmission (.up p) s = some (startPriority p h rest
      (if s.fwd.up[upIdx p].normal = [] then 0 else s.fwd.up[upIdx p].arbiter + 1) s) := by
    unfold startTransmission
    rw [idle]
    unfold startUp
    dsimp only
    rw [if_pos live, front]
    cases waits : s.fwd.up[upIdx p].normal with
    | nil => rfl
    | cons x l =>
      have fresh : s.fwd.up[upIdx p].arbiter < 4 := choice.resolve_left fun e => by rw [waits] at e; cases e
      rw [if_neg (List.cons_ne_nil x l)]
      exact if_pos fresh
  unfold execTransmissionStart
  rw [started]
  exact congrArg _ (startPriority_settles k p h rest _)

/-- With one place free, one notice goes. -/
theorem release_one {n : Notice} {more : List Notice} {l : Learned} (waits : s.ev.notices[upIdx p] = n :: more)
    (known : s.route.learned[portIdx (.up p)] = some l) (free : holdsFor p s = false)
    (place : s.fwd.up[upIdx p].priority.length = 15) : release p s =
      pushPriority p ⟨noticeFrame (switchAddr s) l.addr n, .built⟩
        { s with ev := { s.ev with notices := put s.ev.notices (upIdx p) more } } := by
  have room : priorityRoom p s = true := decide_eq_true (by rw [place]; decide)
  have full : releasable p (pushPriority p ⟨noticeFrame (switchAddr s) l.addr n, .built⟩
      { s with ev := { s.ev with notices := put s.ev.notices (upIdx p) more } }) = false := by
    have crowded : priorityRoom p (pushPriority p ⟨noticeFrame (switchAddr s) l.addr n, .built⟩
        { s with ev := { s.ev with notices := put s.ev.notices (upIdx p) more } }) = false := by
      refine decide_eq_false ?_
      rw [pushPriority_up, getElem_upd_same, List.length_append, place]
      exact Nat.lt_irrefl 16
    unfold releasable
    rw [crowded, Bool.and_false, Bool.false_and]
  unfold release
  rw [waits, List.length_cons]
  unfold releaseLoop
  rw [waits, known]
  dsimp only
  rw [if_pos (by rw [room, free]; rfl)]
  exact releaseLoop_of_not_releasable _ p _ full

theorem not_releasable_of_full (full : 16 ≤ s.fwd.up[upIdx p].priority.length) : releasable p s = false := by
  have crowded : priorityRoom p s = false := decide_eq_false (Nat.not_lt.2 full)
  unfold releasable
  rw [crowded, Bool.and_false, Bool.false_and]

theorem not_releasable_of_none (none : s.ev.notices[upIdx p] = [] ∨ s.route.learned[portIdx (.up p)] = none) :
    releasable p s = false := by
  unfold releasable
  rcases none with e | e
  · rw [e]; rfl
  · rw [e, Option.isSome_none, Bool.and_false, Bool.false_and, Bool.false_and]

end

end Sys2Proof.Machine

namespace Sys2Proof.Machine

/-! ### The arbiter's choice (R76, R77) -/

section
variable {p : UpPort} {h : Held} {rest : List Held} {arb : Nat} {s : State}

/-- The forwarding engine after a priority start: statuses and notices may stand behind the rest of the queue. -/
theorem prioritySent_extends (p : UpPort) (h : Held) (rest : List Held) (arb : Nat) (s : State) :
    Extends (begun p h rest arb s) (release p (startPriority p h rest arb s)) :=
  (placeHeld_extends p _).trans (release_moved p _).extends

theorem prioritySent_transmitting (p : UpPort) (h : Held) (rest : List Held) (arb : Nat) (s : State) :
    (release p (startPriority p h rest arb s)).fwd.transmitting =
      put s.fwd.transmitting (portIdx (.up p)) (some (outgoing p h s)) := by
  rw [(prioritySent_extends p h rest arb s).fwd]
  exact congrArg ForwardBlock.transmitting (begun_fwd p h rest arb s)

theorem prioritySent_sends (p : UpPort) (h : Held) (rest : List Held) (arb : Nat) (s : State) :
    Sends s (startPriority p h rest arb s) := (begun_sends p h rest arb s).trans (placeHeld_sends p _)

theorem prioritySent_overflow (p : UpPort) (h : Held) (rest : List Held) (arb : Nat) (s : State) :
    (release p (startPriority p h rest arb s)).ev.overflow =
      if h.frame.kind = .notice then put s.ev.overflow (upIdx p) false else s.ev.overflow := by
  have placed : (startPriority p h rest arb s).ev = (begun p h rest arb s).ev := by
    rw [startPriority_eq]
    rcases placeHeld_cases p (begun p h rest arb s) with e | ⟨r, -, e⟩
    · rw [e]
    · rw [e, setPhase_ev]
      rfl
  rw [release_ev, placed]
  exact begun_overflow p h rest arb s

theorem outgoing_plain (plain : h.frame.kind ≠ .notice) : outgoing p h s = h := if_neg plain

end

/-- What the claim says of the other ports' transmissions. -/
theorem transmitting_others {s t : State} {q : Port} {h : Held}
    (sent : t.fwd.transmitting = put s.fwd.transmitting (portIdx q) (some h)) :
    t.fwd.transmitting[portIdx q] = some h ∧
      ∀ r : Port, r ≠ q → t.fwd.transmitting[portIdx r] = s.fwd.transmitting[portIdx r] := by
  rw [sent]
  exact ⟨getElem_put_same _ _ _, fun r hr => getElem_put_ne _ _ (portIdx_ne hr)⟩

/-- What a start from a normal or an egress queue leaves, whoever waits for the place. -/
theorem laneStarted_some (q : Port) (h : Held) (rest : List Held) (s : State) :
    ∃ more : List Held, LaneStarted q h (rest ++ more) s (settle (fillPlace q (opened q h rest s))) := by
  cases waits : waitersFor q s with
  | nil =>
    obtain ⟨started, -⟩ := laneStarted_idle (h := h) (rest := rest) waits
    exact ⟨[], by rw [List.append_nil]; exact started⟩
  | cons x l =>
    obtain ⟨started, -⟩ := laneStarted_first (h := h) (rest := rest) (p := x.1) (w := x.2) waits
    exact ⟨_, started⟩

section
variable {q : Port} {u : UpPort} {b : Bay} {h : Held} {lane : List Held} {s t : State}

theorem LaneStarted.normal (started : LaneStarted (.up u) h lane s t) : t.fwd.up[upIdx u].normal = lane := started.lane

theorem LaneStarted.bayQueue (started : LaneStarted (.bay b) h lane s t) : t.fwd.bayQueue[b] = lane := started.lane

theorem LaneStarted.queues (started : LaneStarted q h lane s t) :
    (∀ b : Bay, q = .bay b → t.fwd.bayQueue[b] = lane) ∧ ∀ u : UpPort, q = .up u → t.fwd.up[upIdx u].normal = lane := by
  refine ⟨fun b hb => ?_, fun u hu => ?_⟩
  · subst hb
    exact started.bayQueue
  · subst hu
    exact started.normal

end

/-- The start of a transmission from a normal or an egress queue. -/
theorem transmissionStart_starts {q : Port} {h : Held} {rest : List Held} {s : State}
    (idle : s.fwd.transmitting[portIdx q] = none) (starts : StartsLane q h rest s) :
    ∃ (t : State) (more : List Held), execTransmissionStart q s = .next t ∧ LaneStarted q h (rest ++ more) s t := by
  obtain ⟨more, started⟩ := laneStarted_some q h rest s
  exact ⟨_, more, transmissionStart_lane idle starts, started⟩

/-- Settles O35: the arbiter's choice fixes the frame in transmission; what fills the place joins behind the rest of its
queue. -/
theorem theArbiterChoosesTheTransmission : Obligations.TheArbiterChoosesTheTransmission := by
  refine fun s k => ⟨fun u h rest idle live front choice plain => ?_, fun u h rest idle live front choice => ?_,
    fun b h rest idle on front => ?_⟩
  · refine ⟨_, transmissionStart_priority k idle live front choice, ?_⟩
    generalize (if s.fwd.up[upIdx u].normal = [] then 0 else s.fwd.up[upIdx u].arbiter + 1) = arb
    have sent := prioritySent_extends u h rest arb s
    have sends := prioritySent_sends u h rest arb s
    obtain ⟨own, others⟩ := transmitting_others (prioritySent_transmitting u h rest arb s)
    obtain ⟨more, unit⟩ := sent.up u
    rw [begun_unit] at unit
    rw [outgoing_plain plain] at own
    refine ⟨own, ?_, ?_, ?_, ?_, ?_, others⟩
    · rw [unit]
    · rw [unit]
    · rw [unit]
      exact List.prefix_append _ _
    · rw [release_route, sends.route]
    · rw [release_cool, sends.cool]
  · obtain ⟨t, more, run, started⟩ := transmissionStart_starts idle (.inr ⟨u, rfl, live, front, choice⟩)
    obtain ⟨own, others⟩ := transmitting_others started.transmitting
    refine ⟨t, run, own, started.arbiter u rfl, ?_, started.priority u, started.route, started.cool, others⟩
    rw [started.normal]
    exact List.prefix_append _ _
  · obtain ⟨t, more, run, started⟩ := transmissionStart_starts idle (.inl ⟨b, rfl, on, front⟩)
    obtain ⟨own, others⟩ := transmitting_others started.transmitting
    refine ⟨t, run, own, ?_, started.route, started.cool, others⟩
    rw [started.bayQueue]
    exact List.prefix_append _ _

/-! ### The place that opens (R79, R82, R170, R189, R190) -/

section
variable {p : UpPort} {h : Held} {rest : List Held} {arb : Nat} {s : State}

/-- The held response of the port takes the place, and no notice goes. -/
theorem prioritySent_held {r : Held} (held : s.mgmt.held = some ⟨p, r⟩) (full : (h :: rest).length = 16) :
    (release p (startPriority p h rest arb s)).fwd.up[upIdx p].priority = rest ++ [r] ∧
      (release p (startPriority p h rest arb s)).mgmt.held = none ∧
      (release p (startPriority p h rest arb s)).ev.notices[upIdx p] = s.ev.notices[upIdx p] := by
  have unit := begun_unit p h rest arb s
  have short : rest.length = 15 := Nat.succ.inj full
  have room : priorityRoom p (begun p h rest arb s) = true := by
    refine decide_eq_true ?_
    rw [unit]
    exact Nat.lt_of_le_of_lt (Nat.le_of_eq short) (by decide)
  have placed := placeHeld_takes ((begun_held p h rest arb s).trans held) room
  have queue : (startPriority p h rest arb s).fwd.up[upIdx p].priority = rest ++ [r] := by
    rw [startPriority_eq, placed, setPhase_fwd, pushPriority_up, getElem_upd_same]
    change (begun p h rest arb s).fwd.up[upIdx p].priority ++ [r] = _
    rw [unit]
  have stays : releasable p (startPriority p h rest arb s) = false := not_releasable_of_full (by
    rw [queue, List.length_append, short]
    exact Nat.le_refl 16)
  rw [release_of_not_releasable p _ stays]
  refine ⟨queue, ?_, by rw [(prioritySent_sends p h rest arb s).notices]⟩
  rw [startPriority_eq, placed, setPhase_held]
  rfl

/-- Without a held response, the place is for the notices. -/
theorem startPriority_free (free : holdsFor p s = false) : startPriority p h rest arb s = begun p h rest arb s := by
  rw [startPriority_eq]
  exact placeHeld_free ((holdsFor_congr (begun_held p h rest arb s)).trans free)

theorem prioritySent_notice {n : Notice} {more : List Notice} {l : Learned} (free : holdsFor p s = false)
    (full : (h :: rest).length = 16) (waits : s.ev.notices[upIdx p] = n :: more)
    (known : s.route.learned[portIdx (.up p)] = some l) :
    (release p (startPriority p h rest arb s)).fwd.up[upIdx p].priority =
        rest ++ [⟨noticeFrame (switchAddr s) l.addr n, .built⟩] ∧
      (release p (startPriority p h rest arb s)).ev.notices[upIdx p] = more := by
  have sends := begun_sends p h rest arb s
  have unit := begun_unit p h rest arb s
  have short : (begun p h rest arb s).fwd.up[upIdx p].priority.length = 15 := by
    rw [unit]
    exact Nat.succ.inj full
  have free' : holdsFor p (begun p h rest arb s) = false := (holdsFor_congr (begun_held p h rest arb s)).trans free
  rw [startPriority_free free, release_one (by rw [sends.notices]; exact waits) (by rw [sends.route]; exact known) free' short]
  refine ⟨?_, getElem_put_same _ _ _⟩
  rw [pushPriority_up, getElem_upd_same, switchAddr_congr sends.strap]
  change (begun p h rest arb s).fwd.up[upIdx p].priority ++ _ = _
  rw [unit]

theorem prioritySent_none (free : holdsFor p s = false)
    (none : s.ev.notices[upIdx p] = [] ∨ s.route.learned[portIdx (.up p)] = none) :
    (release p (startPriority p h rest arb s)).fwd.up[upIdx p].priority = rest ∧
      (release p (startPriority p h rest arb s)).ev.notices[upIdx p] = s.ev.notices[upIdx p] := by
  have sends := begun_sends p h rest arb s
  have stays : releasable p (begun p h rest arb s) = false :=
    not_releasable_of_none (by rw [sends.notices, sends.route]; exact none)
  rw [startPriority_free free, release_of_not_releasable p _ stays, begun_unit, sends.notices]
  exact ⟨rfl, rfl⟩

theorem outgoing_notice (notice : h.frame.kind = .notice) : outgoing p h s =
    ⟨{ h.frame with payload := h.frame.payload.set 6 (if s.ev.overflow[upIdx p] then 1 else 0) }, h.origin⟩ := if_pos notice

end

/-- Settles O36: the place of a priority queue goes to the held response before the notices; the place of any other queue goes
to the head of the waits, which is the one that started first. -/
theorem theOpeningPlaceIsFilled : Obligations.TheOpeningPlaceIsFilled := by
  refine fun s k => ⟨fun u h rest idle live front choice => ?_, fun q h rest idle starts => ?_⟩
  · refine ⟨_, transmissionStart_priority k idle live front choice, ?_⟩
    generalize (if s.fwd.up[upIdx u].normal = [] then 0 else s.fwd.up[upIdx u].arbiter + 1) = arb
    have overflow := prioritySent_overflow u h rest arb s
    obtain ⟨own, -⟩ := transmitting_others (prioritySent_transmitting u h rest arb s)
    refine ⟨fun r held full => prioritySent_held held full, fun n more l free full waits known =>
      prioritySent_notice free full waits known, prioritySent_none, fun notice => ⟨?_, ?_⟩, fun plain => ?_⟩
    · rw [overflow, if_pos notice, getElem_put_same]
    · rw [own, outgoing_notice notice]
    · rw [overflow, if_neg plain]
  · refine ⟨_, transmissionStart_lane idle starts, fun p w first => ?_, fun none => ?_⟩
    · obtain ⟨l, waits⟩ := waitersFor_of_first first
      obtain ⟨started, waiting, counters⟩ := laneStarted_first (h := h) (rest := rest) waits
      exact ⟨started.queues, waiting, counters⟩
    · obtain ⟨started, waiting, counters⟩ := laneStarted_idle (h := h) (rest := rest) (waitersFor_of_none none)
      have started' : LaneStarted q h (rest ++ []) s (settle (fillPlace q (opened q h rest s))) := by
        rw [List.append_nil]
        exact started
      exact ⟨started'.queues, waiting, counters⟩

end Sys2Proof.Machine

namespace Sys2Proof.Machine

/-! ### The end of a step sets no latch (R56) -/

theorem admitBay_ev (b : Bay) (s : State) (free : s.power.charge[b] = 0) : (admitBay b s).ev = s.ev := by
  unfold admitBay
  dsimp only
  rw [setCharge_of_rise _ _ _ (by simp only [modBay_power]; exact free ▸ Nat.zero_le _)]
  split <;> rfl

theorem attempt_ev (s : State) (hq : (view s).Queued) (hi : (view s).Idle) : (attempt s).ev = s.ev := by
  refine (attempt_induction (fun t => (view t).Queued ∧ (view t).Idle ∧ t.ev = s.ev) (fun t b _ hw h => ?_) s
    ⟨hq, hi, rfl⟩).2.2
  obtain ⟨queued, idle, ev⟩ := h
  have waiting : t.bays[b].state = .queued := by
    obtain ⟨e, he, rfl⟩ := List.mem_map.1 (walk_mem hw)
    exact queued e he
  have free : t.power.charge[b] = 0 := idle b (by change powered t.bays[b].state = false; rw [waiting]; rfl)
  exact ⟨(admitBay_runs b t hw).1.keep (fun _ _ => Effect.keeps_queued) queued,
    (admitBay_runs b t hw).1.keep (fun _ _ => Effect.keeps_idle) idle, (admitBay_ev b t free).trans ev⟩

theorem attemptIfAsked_ev (s : State) (hq : (view s).Queued) (hi : (view s).Idle) : (attemptIfAsked s).ev = s.ev := by
  unfold attemptIfAsked
  split
  · exact attempt_ev { s with power := { s.power with attemptAsked := false } } hq hi
  · rfl

/-- An admission is a rise of the committed draw, so it does not bring the ceiling down (R49). -/
theorem settle_enclLatches (s : State) (hq : (view s).Queued) (hi : (view s).Idle) :
    (settle s).ev.enclLatches = s.ev.enclLatches := by
  have quiet : Quiet s (refreshBlocks (refreshHot s)) := (quiet_refreshHot s).trans (quiet_refreshBlocks _)
  rw [settle_eq, (finish_moved _).enclLatches, attemptIfAsked_ev _ (quiet.1 ▸ hq) (quiet.1 ▸ hi), refreshBlocks_ev,
    refreshHot_ev]

/-! ### What a reading does (R111, R119, R120) -/

theorem latchBay_enclLatches (b : Bay) (k : BayEvent) (s : State) :
    (latchBay b k s).ev.enclLatches = s.ev.enclLatches := by
  unfold latchBay
  split
  · rfl
  · exact (announce_keeps _ _).2.1

theorem BayEvent.idx_injective : Function.Injective BayEvent.idx := fun k j => by
  cases k <;> cases j <;> decide

/-- A latch after another, or the same one, is set. -/
theorem latchBay_latch (b c : Bay) (k j : BayEvent) (s : State) : ((latchBay b k s).ev.bayLatches[c])[j.idx] =
    ((s.ev.bayLatches[c])[j.idx] || decide (c = b ∧ j = k)) := by
  rw [latchBay_latches]
  by_cases hc : c = b
  · subst hc
    rw [getElem_upd_same]
    by_cases hj : j = k
    · subst hj
      rw [getElem_put_same, decide_eq_true ⟨rfl, rfl⟩, Bool.or_true]
    · rw [getElem_put_ne _ _ fun e => hj (BayEvent.idx_injective e), decide_eq_false fun e => hj e.2, Bool.or_false]
  · rw [getElem_upd_ne _ _ hc, decide_eq_false fun e => hc e.1, Bool.or_false]

/-- A latch that is set only on a condition. -/
def latchIf (c : Bool) (b : Bay) (k : BayEvent) (s : State) : State := if c then latchBay b k s else s

section
variable {c : Bool} {b : Bay} {k : BayEvent} {s : State}

theorem latchIf_latch (d : Bay) (j : BayEvent) : ((latchIf c b k s).ev.bayLatches[d])[j.idx] =
    ((s.ev.bayLatches[d])[j.idx] || (c && decide (d = b ∧ j = k))) := by
  cases c with
  | false => exact (Bool.or_false _).symm
  | true => exact latchBay_latch b d k j s

theorem latchIf_enclLatches : (latchIf c b k s).ev.enclLatches = s.ev.enclLatches := by
  cases c with
  | false => rfl
  | true => exact latchBay_enclLatches b k s

theorem latchIf_bays : (latchIf c b k s).bays = s.bays := by
  cases c with
  | false => rfl
  | true => exact latchBay_bays b k s

theorem latchIf_therm : (latchIf c b k s).therm = s.therm := by
  cases c with
  | false => rfl
  | true => exact latchBay_therm b k s

end

/-- A trip that is sent only on a condition (R35). -/
def tripIf (c : Bool) (b : Bay) (s : State) : State := if c then modBay b (fun r => { r with otTrip := true }) s else s

theorem tripIf_bay (c : Bool) (b : Bay) (s : State) :
    (tripIf c b s).bays[b] = { s.bays[b] with otTrip := s.bays[b].otTrip || c } := by
  cases c with
  | false => rw [Bool.or_false]; rfl
  | true =>
    rw [Bool.or_true]
    exact getElem_upd_same _ _ _

theorem tripIf_ne {b d : Bay} (c : Bool) (s : State) (h : d ≠ b) : (tripIf c b s).bays[d] = s.bays[d] := by
  cases c with
  | false => rfl
  | true => exact getElem_upd_ne _ _ h

theorem tripIf_ev (c : Bool) (b : Bay) (s : State) : (tripIf c b s).ev = s.ev := by cases c <;> rfl

theorem tripIf_therm (c : Bool) (b : Bay) (s : State) : (tripIf c b s).therm = s.therm := by cases c <;> rfl

section
variable {b : Bay} {x : Int} {s : State}

/-- The streak of the bay comes to the overtemp filter with a capture of `x` (R120). -/
def overheats (b : Bay) (x : Int) (s : State) : Bool :=
  reachesFilter s.therm.shutdown x s.therm.records[b].streak s.therm.otFilter

/-- A capture of `x` raises the bay's reading to warn (R119). -/
def warms (b : Bay) (x : Int) (s : State) : Bool := warnsAt s.therm.warn x s.therm.records[b].reading

theorem capture_eq (b : Bay) (x : Int) (s : State) : capture b x s =
    tripIf (overheats b x s && s.bays[b].otProt) b (latchIf (overheats b x s) b .overtemp
      (modTherm b (capturedRecord s.therm.shutdown x) (latchIf (warms b x s) b .tempWarn s))) := by
  have therm : (latchIf (warms b x s) b .tempWarn s).therm = s.therm := latchIf_therm
  have bays : (latchIf (warms b x s) b .tempWarn s).bays = s.bays := latchIf_bays
  have unfolded : capture b x s =
      (let u := modTherm b (capturedRecord (latchIf (warms b x s) b .tempWarn s).therm.shutdown x)
        (latchIf (warms b x s) b .tempWarn s)
       if reachesFilter u.therm.shutdown x s.therm.records[b].streak u.therm.otFilter then
         tripIf (latchBay b .overtemp u).bays[b].otProt b (latchBay b .overtemp u)
       else u) := rfl
  rw [unfolded]
  dsimp only [modTherm]
  rw [therm]
  cases hot : overheats b x s with
  | false => exact if_neg (Bool.not_eq_true _ ▸ hot)
  | true =>
    refine (if_pos hot).trans ?_
    rw [latchBay_bays, Bool.true_and]
    dsimp only
    rw [bays]
    rfl

theorem capture_latch (c : Bay) (k : BayEvent) : ((capture b x s).ev.bayLatches[c])[k.idx] =
    ((s.ev.bayLatches[c])[k.idx] || (warms b x s && decide (c = b ∧ k = .tempWarn)) ||
      (overheats b x s && decide (c = b ∧ k = .overtemp))) := by
  rw [capture_eq, tripIf_ev, latchIf_latch, modTherm_ev, latchIf_latch]

theorem capture_enclLatches : (capture b x s).ev.enclLatches = s.ev.enclLatches := by
  rw [capture_eq, tripIf_ev, latchIf_enclLatches, modTherm_ev, latchIf_enclLatches]

theorem capture_records : (capture b x s).therm.records =
    upd s.therm.records b (capturedRecord s.therm.shutdown x) := by
  rw [capture_eq, tripIf_therm, latchIf_therm, modTherm_records, latchIf_therm]

theorem capture_bay : (capture b x s).bays[b] =
    { s.bays[b] with otTrip := s.bays[b].otTrip || (overheats b x s && s.bays[b].otProt) } := by
  rw [capture_eq, tripIf_bay, latchIf_bays, modTherm_bays, latchIf_bays]

theorem capture_ne {c : Bay} (h : c ≠ b) : (capture b x s).bays[c] = s.bays[c] := by
  rw [capture_eq, tripIf_ne _ _ h, latchIf_bays, modTherm_bays, latchIf_bays]

theorem warms_iff : warms b x s = true ↔
    s.therm.warn ≤ x ∧ ∀ y, s.therm.records[b].reading = some y → y < s.therm.warn := by
  unfold warms warnsAt
  rw [Bool.and_eq_true, decide_eq_true_iff]
  refine and_congr_right fun _ => ?_
  cases s.therm.records[b].reading with
  | none => exact ⟨fun _ _ e => (nomatch e), fun _ => rfl⟩
  | some r => exact decide_eq_true_iff.trans ⟨fun h _ e => Option.some.inj e ▸ h, fun h => h r rfl⟩

theorem overheats_eq : overheats b x s = decide (s.therm.shutdown ≤ x ∧ s.therm.records[b].streak < 4 ∧
    s.therm.records[b].streak + 1 = s.therm.otFilter) := by
  unfold overheats reachesFilter
  rw [Bool.decide_and, Bool.decide_and, Bool.and_assoc]

end

end Sys2Proof.Machine

namespace Sys2Proof.Machine

/-! ### A frame of a bay joins an upstream queue and is offered to the snooper (R79, R85) -/

/-- The frame stands in the queue, counted and marked; the snooper reads it next. -/
def passedUp (b : Bay) (u : UpPort) (f : Frame) (s : State) : State :=
  markActivity b (count (.bay b) .forwarded 1 (pushNormal u ⟨f, .arrived (.bay b)⟩ s))

/-- What the way of a frame to the snooper leaves, and the queue that it brings about. -/
structure PassedUp (b : Bay) (u : UpPort) (queue : List Held) (s v : State) : Prop where
  bays : v.bays = s.bays
  power : v.power = s.power
  therm : v.therm = s.therm
  ev : v.ev = s.ev
  route : v.route = s.route
  cool : v.cool = s.cool
  quiet : Quiet s v
  predicted : (v.light.bays[b]).predictedFault = (s.light.bays[b]).predictedFault
  normal : v.fwd.up[upIdx u].normal = queue

section
variable {b : Bay} {u : UpPort} {f : Frame} {before : List Held} {rule : SnoopRule} {profile : Fin 8} {s w : State}

theorem passedUp_normal (b : Bay) (u : UpPort) (f : Frame) (s : State) :
    (passedUp b u f s).fwd.up[upIdx u].normal = s.fwd.up[upIdx u].normal ++ [⟨f, .arrived (.bay b)⟩] := by
  have unit : (passedUp b u f s).fwd.up[upIdx u] =
      { s.fwd.up[upIdx u] with normal := s.fwd.up[upIdx u].normal ++ [⟨f, .arrived (.bay b)⟩] } := getElem_upd_same _ _ _
  rw [unit]

theorem passedUp_predicted (b : Bay) (u : UpPort) (f : Frame) (s : State) :
    ((passedUp b u f s).light.bays[b]).predictedFault = (s.light.bays[b]).predictedFault := by
  have unit : (passedUp b u f s).light.bays[b] = activityMark s.now s.light.hold s.light.bays[b] := getElem_upd_same _ _ _
  rw [unit]
  rfl

theorem passedUp_of_queue (before : List Held) (queue : s.fwd.up[upIdx u].normal = before) :
    PassedUp b u (before ++ [⟨f, .arrived (.bay b)⟩]) s (passedUp b u f s) :=
  ⟨rfl, rfl, rfl, rfl, rfl, rfl, ⟨rfl, rfl⟩, passedUp_predicted b u f s, by rw [passedUp_normal, queue]⟩

theorem place_passedUp : place (.bay b) (.up u) f s = snoop b f (passedUp b u f s) := rfl

/-- A frame that arrives and finds room. -/
theorem arrival_passedUp {bytes : List Byte} (r : RoutedArrival (.bay b) bytes f s) (found : lookup f.dest s = some (.up u))
    (live : s.fwd.up[upIdx u].linkUp = true) (queue : s.fwd.up[upIdx u].normal = before) (room : before.length < 32) :
    ∃ v, exec (.frameArrival (.bay b) bytes) s = .next (settle (snoop b f v)) ∧
      PassedUp b u (before ++ [⟨f, .arrived (.bay b)⟩]) s v := by
  refine ⟨passedUp b u f s, ?_, passedUp_of_queue before queue⟩
  refine (arrival_routed r).trans ?_
  rw [routeFrame_joins found Port.noConfusion (pathRefusal_up_open live) (decide_eq_true (by rw [queue]; exact room)),
    place_passedUp]

/-- A frame that waited and takes the place of the frame that starts. -/
theorem start_passedUp {x : Waiting} {h : Held} (first : FirstWaiter (.up u) (.bay b) x s)
    (idle : s.fwd.transmitting[portIdx (.up u)] = none) (live : s.fwd.up[upIdx u].linkUp = true)
    (front : s.fwd.up[upIdx u].normal = h :: before)
    (choice : s.fwd.up[upIdx u].priority = [] ∨ 4 ≤ s.fwd.up[upIdx u].arbiter) :
    ∃ v, exec (.transmissionStart (.up u)) s = .next (settle (snoop b x.frame v)) ∧
      PassedUp b u (before ++ [⟨x.frame, .arrived (.bay b)⟩]) s v := by
  obtain ⟨l, waits⟩ := waitersFor_of_first first
  have filled := fillPlace_first ((waitersFor_congr (opened_rest (.up u) h before s).1).trans waits)
  have queue : (clearSlot (.bay b) (opened (.up u) h before s)).fwd.up[upIdx u].normal = before :=
    opened_lane (.up u) h before s
  obtain ⟨bays, power, therm, ev, route, cool, quiet, predicted, normal⟩ := passedUp_of_queue (b := b) (f := x.frame) before queue
  refine ⟨_, ?_, ⟨bays, power, therm, ev, route, cool, Quiet.trans ⟨rfl, rfl⟩ quiet, predicted, normal⟩⟩
  refine (transmissionStart_lane idle (.inr ⟨u, rfl, live, front, choice⟩)).trans ?_
  rw [filled, place_passedUp]

/-! ### From the reading to the end of the step -/

/-- The snooper's rule for the frame of an ONLINE bay. -/
theorem snoop_acts (online : s.bays[b].state = .online) (known : s.bays[b].profile = some profile)
    (acts : actingRule s.therm.rules profile f = some rule) :
    snoop b f s = applyRule b rule (byteAt f.payload rule.byte) s := by
  unfold snoop
  dsimp only
  rw [if_pos online, known]
  dsimp only
  rw [acts]

/-- The end of a step after a reading: what it leaves of the state `w` that the reading gave. -/
structure ReadOut (b : Bay) (u : UpPort) (s w t : State) : Prop where
  normal : t.fwd.up[upIdx u].normal = w.fwd.up[upIdx u].normal
  records : t.therm.records = w.therm.records
  bayLatches : t.ev.bayLatches = w.ev.bayLatches
  enclLatches : t.ev.enclLatches = w.ev.enclLatches
  bay : t.bays[b] = w.bays[b]
  others : ∀ c : Bay, w.bays[c] = s.bays[c] → UntouchedOrAdmitted c s t
  route : t.route = w.route
  cool : t.cool = w.cool
  lights : t.light.bays = w.light.bays

theorem settle_readOut (consistent : BaysConsistent s) (budget : BudgetKept s) (quiet : Quiet s w)
    (online : w.bays[b].state = .online) : ReadOut b u s w (settle w) where
  normal := (settle_extends w).lane (.up u)
  records := settle_records w
  bayLatches := (settle_endKept w).bayLatches
  enclLatches := settle_enclLatches w (quiet.1 ▸ consistent.queued) (quiet.1 ▸ ((budgetKept_iff s).1 budget).idle)
  bay := (settle_record (quiet.1 ▸ consistent.queued) (by rw [online]; exact BayState.noConfusion)).1
  others c same :=
    have before : AtMostAdmitted c s w := .of_eq same (by rw [quiet.charge])
    (before.trans (settle_aside c w (quiet.1 ▸ consistent.queued)).bay quiet.classes).untouchedOrAdmitted
  route := settle_route w
  cool := settle_cool w
  lights := settle_lightBays w

/-- The frame joins the queue of `u` in the step of `i`, which is free for it. -/
def Joins (b : Bay) (u : UpPort) (i : Instr) (f : Frame) (before : List Held) (s : State) : Prop :=
  (∃ bytes : List Byte, i = .frameArrival (.bay b) bytes ∧ RoutedArrival (.bay b) bytes f s ∧
      lookup f.dest s = some (.up u) ∧ s.fwd.up[upIdx u].normal = before ∧ before.length < 32) ∨
    (∃ (w : Waiting) (h : Held), i = .transmissionStart (.up u) ∧ FirstWaiter (.up u) (.bay b) w s ∧ w.frame = f ∧
      s.fwd.transmitting[portIdx (.up u)] = none ∧ s.fwd.up[upIdx u].normal = h :: before ∧
      (s.fwd.up[upIdx u].priority = [] ∨ 4 ≤ s.fwd.up[upIdx u].arbiter))

/-- By either way, the acting rule works on a state that the frame's way has left alone, and the step ends. -/
theorem joins_reads {i : Instr} (consistent : BaysConsistent s) (budget : BudgetKept s)
    (live : s.fwd.up[upIdx u].linkUp = true) (joins : Joins b u i f before s) (online : s.bays[b].state = .online)
    (known : s.bays[b].profile = some profile) (acts : actingRule s.therm.rules profile f = some rule) :
    ∃ v t, PassedUp b u (before ++ [⟨f, .arrived (.bay b)⟩]) s v ∧ exec i s = .next t ∧
      ReadOut b u s (applyRule b rule (byteAt f.payload rule.byte) v) t := by
  obtain ⟨v, run, passed⟩ : ∃ v, exec i s = .next (settle (snoop b f v)) ∧
      PassedUp b u (before ++ [⟨f, .arrived (.bay b)⟩]) s v := by
    rcases joins with ⟨bytes, rfl, routed, found, queue, room⟩ | ⟨x, h, rfl, first, rfl, idle, front, choice⟩
    · exact arrival_passedUp routed found live queue room
    · exact start_passedUp first idle live front choice
  rw [snoop_acts (by rw [passed.bays]; exact online) (by rw [passed.bays]; exact known)
    (by rw [passed.therm]; exact acts)] at run
  refine ⟨v, _, passed, run, settle_readOut consistent budget (passed.quiet.trans (quiet_applyRule b rule _ v)) ?_⟩
  rw [applyRule_states, passed.bays]
  exact online

/-! ### The three readings (R111, R112, R113) -/

theorem applyRule_capture {value : Byte} {x : Int} (action : rule.action = .temperature)
    (decoded : decodeTemp rule.encoding value = some x) (low : -20 ≤ x) (high : x ≤ 120) :
    applyRule b rule value s = capture b x s := by
  unfold applyRule
  rw [action, decoded]
  exact if_pos (by unfold validTemp; rw [decide_eq_true low, decide_eq_true high]; rfl)

theorem applyRule_bad {value : Byte} {x : Int} (action : rule.action = .temperature)
    (decoded : decodeTemp rule.encoding value = some x) (outside : x < -20 ∨ 120 < x) :
    applyRule b rule value s = badCapture b s := by
  unfold applyRule
  rw [action, decoded]
  refine if_neg fun valid => ?_
  unfold validTemp at valid
  rw [Bool.and_eq_true, decide_eq_true_iff, decide_eq_true_iff] at valid
  omega

theorem applyRule_hint {value : Byte} (action : rule.action = .faultHint) :
    applyRule b rule value s = if value = 0 then s else faultHint b s := by
  unfold applyRule
  rw [action]

theorem faultHint_latch (c : Bay) (k : BayEvent) : ((faultHint b s).ev.bayLatches[c])[k.idx] =
    ((s.ev.bayLatches[c])[k.idx] || decide (c = b ∧ k = .predictedFault)) := by
  unfold faultHint
  rw [latchBay_latch, modLight_ev]

theorem faultHint_predicted : ((faultHint b s).light.bays[b]).predictedFault = true := by
  unfold faultHint
  rw [latchBay_light, modLight_lights, getElem_upd_same]

end

end Sys2Proof.Machine

namespace Sys2Proof.Machine

section
variable {b : Bay} {u : UpPort} {x : Int} {s v t : State}

/-- The record of a bay and the others' after the work on one bay's record. -/
theorem records_upd {r r' : Vector ThermalRecord 16} {f : ThermalRecord → ThermalRecord} (h : r' = upd r b f) :
    r'[b] = f r[b] ∧ ∀ c : Bay, c ≠ b → r'[c] = r[c] := by
  subst h
  exact ⟨getElem_upd_same _ _ _, fun _ ne => getElem_upd_ne _ _ ne⟩

/-- The latches of the bay after a capture (R119, R120). -/
theorem ReadOut.capture_latches (r : ReadOut b u s (capture b x v) t) (therm : v.therm = s.therm) (ev : v.ev = s.ev)
    (c : Bay) (k : BayEvent) : (t.ev.bayLatches[c])[k.idx] = ((s.ev.bayLatches[c])[k.idx] ||
      (warms b x s && decide (c = b ∧ k = .tempWarn)) || (overheats b x s && decide (c = b ∧ k = .overtemp))) := by
  have warm : warms b x v = warms b x s := by unfold warms; rw [therm]
  have hot : overheats b x v = overheats b x s := by unfold overheats; rw [therm]
  rw [r.bayLatches, capture_latch, ev, warm, hot]

end

/-- Settles O31: the acting rule works on a state that has the bays, the records and the latches of the step's beginning; the end
of the step admits bays, but writes no record and sets no latch. -/
theorem passingFramesGiveReadings : Obligations.PassingFramesGiveReadings := by
  intro b i f u before profile rule s consistent budget live joins online known acts
  obtain ⟨v, t, passed, run, read⟩ := joins_reads consistent budget live joins online known acts
  refine ⟨fun x action decoded low high => ⟨t, run, ?_⟩, fun x action decoded outside => ⟨t, run, ?_⟩,
    fun action => ⟨t, run, ?_⟩⟩
  · rw [applyRule_capture action decoded low high] at read
    have latch := read.capture_latches passed.therm passed.ev
    have hot : overheats b x v = overheats b x s := by unfold overheats; rw [passed.therm]
    obtain ⟨record, records⟩ := records_upd (read.records.trans capture_records)
    rw [passed.therm] at record records
    refine ⟨?_, record, records, ?_, ?_, fun c k other => ?_, ?_, ?_, fun c ne => read.others c ?_, ?_, ?_⟩
    · rw [read.normal, capture_fwd, passed.normal]
    · rw [latch, decide_eq_true ⟨rfl, rfl⟩, decide_eq_false fun e => BayEvent.noConfusion e.2, Bool.and_true, Bool.and_false,
        Bool.or_false, Bool.or_eq_true, warms_iff]
    · rw [latch, decide_eq_false fun e => BayEvent.noConfusion e.2, decide_eq_true ⟨rfl, rfl⟩, Bool.and_true, Bool.and_false,
        Bool.or_false, Bool.or_eq_true, overheats_eq, decide_eq_true_iff]
    · have cold : ¬(c = b ∧ k = .tempWarn) := fun e => other.elim (· e.1) fun k => k.1 e.2
      have cool : ¬(c = b ∧ k = .overtemp) := fun e => other.elim (· e.1) fun k => k.2 e.2
      rw [latch, decide_eq_false cold, decide_eq_false cool, Bool.and_false, Bool.and_false, Bool.or_false, Bool.or_false]
    · rw [read.enclLatches, capture_enclLatches, passed.ev]
    · rw [read.bay, capture_bay, passed.bays, hot, overheats_eq]
    · rw [capture_ne ne, passed.bays]
    · rw [read.route, capture_route, passed.route]
    · rw [read.cool, capture_cool, passed.cool]
  · rw [applyRule_bad action decoded outside] at read
    obtain ⟨record, records⟩ := records_upd (read.records.trans (modTherm_records _ _ v))
    rw [passed.therm] at record records
    refine ⟨?_, record, records, ?_, ?_, fun c => read.others c ?_, ?_, ?_⟩
    · rw [read.normal, badCapture_fwd, passed.normal]
    · rw [read.bayLatches, badCapture_ev, passed.ev]
    · rw [read.bay, badCapture_bays, passed.bays]
    · rw [badCapture_bays, passed.bays]
    · rw [read.route, badCapture_route, passed.route]
    · rw [read.cool, badCapture_cool, passed.cool]
  · rw [applyRule_hint action] at read
    split at read
    · next zero =>
      refine ⟨read.normal.trans passed.normal, by rw [read.records, passed.therm], by rw [read.bay, passed.bays],
        fun c => read.others c (by rw [passed.bays]), fun _ => ⟨by rw [read.bayLatches, passed.ev], ?_⟩,
        fun other => absurd zero other, by rw [read.route, passed.route], by rw [read.cool, passed.cool]⟩
      rw [read.lights, passed.predicted]
    · next other =>
      have latch (c : Bay) (k : BayEvent) : (t.ev.bayLatches[c])[k.idx] =
          ((s.ev.bayLatches[c])[k.idx] || decide (c = b ∧ k = .predictedFault)) := by
        rw [read.bayLatches, faultHint_latch, passed.ev]
      refine ⟨?_, ?_, ?_, fun c => read.others c ?_, fun zero => absurd zero other, fun _ => ⟨?_, fun c k apart => ?_, ?_⟩,
        ?_, ?_⟩
      · rw [read.normal, faultHint_fwd, passed.normal]
      · rw [read.records, faultHint_therm, passed.therm]
      · rw [read.bay, faultHint_bays, passed.bays]
      · rw [faultHint_bays, passed.bays]
      · rw [latch, decide_eq_true ⟨rfl, rfl⟩, Bool.or_true]
      · rw [latch, decide_eq_false fun e => apart.elim (· e.1) (· e.2), Bool.or_false]
      · rw [read.lights, faultHint_predicted]
      · rw [read.route, faultHint_route, passed.route]
      · rw [read.cool, faultHint_cool, passed.cool]

end Sys2Proof.Machine
